-- ==== Sys2Proof/Word.lean ====
section
/-! DEFINITION. The word types of the OZ-1 (R4 to R8, R19): bytes, 32-bit register words, 64-bit structure words. -/

namespace Sys2Proof

/-- One byte. -/
abbrev Byte := BitVec 8

/-- A register word (R19). -/
abbrev W32 := BitVec 32

/-- A 64-bit structure word, work register or point word. -/
abbrev W64 := BitVec 64

/-- A byte string, first byte first. -/
abbrev Bytes := List Byte

end Sys2Proof
end

