-- ==== Sys2Proof/Machine/Real.lean ====
section
/-! DEFINITION. Real arithmetic of R126: binary32 and binary64 of IEEE 754-2019, computed exactly on integers and rounded
once. Every operation answers the result's bits and the status (invalid, division by zero or overflow). -/

namespace Sys2Proof.Machine

/-- A binary format: precision with the hidden bit, and exponent bits. -/
structure FloatFmt where
  p : Nat
  eb : Nat
  deriving DecidableEq, Repr

/-- binary32. -/
def fmt32 : FloatFmt := { p := 24, eb := 8 }
/-- binary64. -/
def fmt64 : FloatFmt := { p := 53, eb := 11 }

/-- What a pattern stands for: a NaN (signalling or quiet), an infinity, or (-1)^neg * m * 2^e. -/
inductive Fp where
  | nan (signalling : Bool)
  | inf (neg : Bool)
  | fin (neg : Bool) (m : Nat) (e : Int)
  deriving DecidableEq, Repr

/-- The exponent of the least bit of a subnormal. -/
def FloatFmt.emin (f : FloatFmt) : Int := 3 - (2 ^ (f.eb - 1) : Nat) - (f.p : Int)

/-- The exponent field of infinities and NaNs. -/
def FloatFmt.emax (f : FloatFmt) : Nat := 2 ^ f.eb - 1

/-- The canonical quiet NaN (R126). -/
def FloatFmt.nan (f : FloatFmt) : Nat := f.emax * 2 ^ (f.p - 1) + 2 ^ (f.p - 2)

/-- An infinity or a zero with its sign. -/
def FloatFmt.signed (f : FloatFmt) (neg : Bool) (mag : Nat) : Nat := (if neg then 2 ^ (f.p + f.eb - 1) else 0) + mag

/-- An infinity. -/
def FloatFmt.inf (f : FloatFmt) (neg : Bool) : Nat := f.signed neg (f.emax * 2 ^ (f.p - 1))

/-- Decode a pattern. -/
def FloatFmt.decode (f : FloatFmt) (b : Nat) : Fp :=
  let frac := b % 2 ^ (f.p - 1)
  let ex := b / 2 ^ (f.p - 1) % 2 ^ f.eb
  let neg := b.testBit (f.p + f.eb - 1)
  if ex = f.emax then (if frac = 0 then .inf neg else .nan (decide (frac < 2 ^ (f.p - 2))))
  else if ex = 0 then .fin neg frac f.emin
  else .fin neg (frac + 2 ^ (f.p - 1)) (f.emin + (ex : Int) - 1)

/-- Is the pattern a NaN. -/
def FloatFmt.isNan (f : FloatFmt) (b : Nat) : Bool :=
  match f.decode b with
  | .nan _ => true
  | _ => false

/-- Is the pattern a signalling NaN. -/
def FloatFmt.isSnan (f : FloatFmt) (b : Nat) : Bool :=
  match f.decode b with
  | .nan sig => sig
  | _ => false

/-- m * 2^d for d of either sign, when d is not negative; the caller shifts right itself otherwise. -/
def shiftUp (m : Nat) (d : Int) : Nat := m * 2 ^ d.toNat

/-- Divide by 2^d rounding to nearest even, or towards zero; `sticky` says that a part below was dropped. -/
def roundShift (tz : Bool) (m d : Nat) (sticky : Bool) : Nat :=
  let q := m / 2 ^ d
  let r := m % 2 ^ d
  let half := 2 ^ d / 2
  if tz || d = 0 then q
  else if r > half || (r = half && (sticky || q % 2 = 1)) then q + 1
  else q

/-- Round (-1)^neg * (m * 2^e, plus a little when sticky) to the format; answers bits and overflow (R126). -/
def FloatFmt.round (f : FloatFmt) (tz neg : Bool) (m : Nat) (e : Int) (sticky : Bool) : Nat × Bool :=
  if m = 0 then (f.signed neg 0, false)
  else
    let q := max ((Nat.log2 m : Int) + e - (f.p - 1 : Nat)) f.emin
    let M := if q ≤ e then shiftUp m (e - q) else roundShift tz m (q - e).toNat sticky
    let mag := if M < 2 ^ (f.p - 1) then M else ((q - f.emin).toNat + 1) * 2 ^ (f.p - 1) + (M - 2 ^ (f.p - 1))
    let top := f.emax * 2 ^ (f.p - 1)
    if mag ≥ top then (f.signed neg (if tz then top - 1 else top), true) else (f.signed neg mag, false)

/-- A signed integer scaled by 2^e, rounded; `negZero` is the sign of an exact zero. -/
def FloatFmt.roundInt (f : FloatFmt) (tz : Bool) (v e : Int) (negZero : Bool) : Nat × Bool :=
  if v = 0 then (f.signed negZero 0, false) else f.round tz (decide (v < 0)) v.natAbs e false

/-- The signed integer m * 2^(e - base) for base at most e. -/
def alignTo (neg : Bool) (m : Nat) (e base : Int) : Int :=
  let v : Int := (shiftUp m (e - base) : Nat)
  if neg then -v else v

/-- Invalid operation: the canonical NaN with status set. -/
def FloatFmt.invalid (f : FloatFmt) : Nat × Bool := (f.nan, true)

/-- The answer of R126 when some operand is a NaN: status only for a signalling one. -/
def FloatFmt.nanResult (f : FloatFmt) (ops : List Nat) : Nat × Bool := (f.nan, ops.any f.isSnan)

/-- Sum of two decoded values, neither a NaN. -/
def FloatFmt.addFp (f : FloatFmt) (x y : Fp) : Nat × Bool :=
  match x, y with
  | .inf s, .inf t => if s = t then (f.inf s, false) else f.invalid
  | .inf s, _ => (f.inf s, false)
  | _, .inf t => (f.inf t, false)
  | .fin s m e, .fin t n g =>
    let base := min e g
    f.roundInt false (alignTo s m e base + alignTo t n g base) base (s && t && m == 0 && n == 0)
  | _, _ => f.invalid

/-- Change the sign of a decoded value. -/
def Fp.flip : Fp → Fp
  | .nan g => .nan g
  | .inf s => .inf (!s)
  | .fin s m e => .fin (!s) m e

/-- ADD (R126). -/
def FloatFmt.add (f : FloatFmt) (a b : Nat) : Nat × Bool :=
  if f.isNan a || f.isNan b then f.nanResult [a, b] else f.addFp (f.decode a) (f.decode b)

/-- SUB. -/
def FloatFmt.sub (f : FloatFmt) (a b : Nat) : Nat × Bool :=
  if f.isNan a || f.isNan b then f.nanResult [a, b] else f.addFp (f.decode a) (f.decode b).flip

/-- The exact product of two values, neither a NaN; none for 0 times infinity. -/
def Fp.mul (x y : Fp) : Option Fp :=
  match x, y with
  | .inf s, .inf t => some (.inf (s != t))
  | .inf s, .fin t n _ => if n = 0 then none else some (.inf (s != t))
  | .fin s m _, .inf t => if m = 0 then none else some (.inf (s != t))
  | .fin s m e, .fin t n g => some (.fin (s != t) (m * n) (e + g))
  | _, _ => none

/-- MUL. -/
def FloatFmt.mul (f : FloatFmt) (a b : Nat) : Nat × Bool :=
  if f.isNan a || f.isNan b then f.nanResult [a, b]
  else
    match (f.decode a).mul (f.decode b) with
    | some (.inf s) => (f.inf s, false)
    | some (.fin s m e) => f.round false s m e false
    | _ => f.invalid

/-- DIV. -/
def FloatFmt.div (f : FloatFmt) (a b : Nat) : Nat × Bool :=
  if f.isNan a || f.isNan b then f.nanResult [a, b]
  else
    match f.decode a, f.decode b with
    | .inf _, .inf _ => f.invalid
    | .inf s, .fin t _ _ => (f.inf (s != t), false)
    | .fin s _ _, .inf t => (f.signed (s != t) 0, false)
    | .fin s m e, .fin t n g =>
      if n = 0 then (if m = 0 then f.invalid else (f.inf (s != t), true))
      else
        let k : Nat := 128
        f.round false (s != t) (m * 2 ^ k / n) (e - g - k) (m * 2 ^ k % n != 0)
    | _, _ => f.invalid

/-- FMA: a * b + c rounded once. An invalid product sets the status even beside a quiet NaN (log entry 12). -/
def FloatFmt.fma (f : FloatFmt) (a b c : Nat) : Nat × Bool :=
  if f.isNan a || f.isNan b then f.nanResult [a, b, c]
  else
    match (f.decode a).mul (f.decode b) with
    | none => f.invalid
    | some x => if f.isNan c then f.nanResult [c] else f.addFp x (f.decode c)

/-- Integer square root, one bit at a time from bit `k` down. -/
def isqrtFrom (n : Nat) : Nat → Nat → Nat
  | 0, r => r
  | k + 1, r => let t := r + 2 ^ k; isqrtFrom n k (if t * t ≤ n then t else r)

/-- SQRT. -/
def FloatFmt.sqrt (f : FloatFmt) (a : Nat) : Nat × Bool :=
  match f.decode a with
  | .nan sig => (f.nan, sig)
  | .inf neg => if neg then f.invalid else (f.inf false, false)
  | .fin neg m e =>
    if m = 0 then (f.signed neg 0, false)
    else if neg then f.invalid
    else
      let k : Nat := if e % 2 = 0 then 128 else 129
      let v := m * 2 ^ k
      let r := isqrtFrom v 96 0
      f.round false false r ((e - k) / 2) (r * r != v)

/-- Order of two values, neither a NaN: negative, zero or positive; zeros compare equal. -/
def Fp.cmp (x y : Fp) : Int :=
  match x, y with
  | .inf s, .inf t => if s = t then 0 else if s then -1 else 1
  | .inf s, _ => if s then -1 else 1
  | _, .inf t => if t then 1 else -1
  | .fin s m e, .fin t n g => let base := min e g; alignTo s m e base - alignTo t n g base
  | _, _ => 0

/-- The sign of a decoded value. -/
def Fp.neg : Fp → Bool
  | .nan _ => false
  | .inf s => s
  | .fin s _ _ => s

/-- x is at most y, with -0 below +0 (R126 for MIN, MAX and LIMIT). -/
def Fp.le (x y : Fp) : Bool :=
  let c := x.cmp y
  decide (c < 0) || (decide (c = 0) && (x.neg || !y.neg))

/-- MIN. -/
def FloatFmt.min (f : FloatFmt) (a b : Nat) : Nat × Bool :=
  if f.isNan a || f.isNan b then f.nanResult [a, b] else (if (f.decode a).le (f.decode b) then a else b, false)

/-- MAX. -/
def FloatFmt.max (f : FloatFmt) (a b : Nat) : Nat × Bool :=
  if f.isNan a || f.isNan b then f.nanResult [a, b] else (if (f.decode b).le (f.decode a) then a else b, false)

/-- LIMIT: max(lo, min(a, hi)) (R121). -/
def FloatFmt.limit (f : FloatFmt) (a lo hi : Nat) : Nat × Bool :=
  if f.isNan a || f.isNan lo || f.isNan hi then f.nanResult [a, lo, hi] else f.max lo (f.min a hi).1

/-- NEG: never status; a NaN of either kind gives the canonical NaN (R126). -/
def FloatFmt.negate (f : FloatFmt) (a : Nat) : Nat × Bool :=
  let s := 2 ^ (f.p + f.eb - 1)
  if f.isNan a then (f.nan, false) else (if a.testBit (f.p + f.eb - 1) then a - s else a + s, false)

/-- ABS: as NEG. -/
def FloatFmt.abs (f : FloatFmt) (a : Nat) : Nat × Bool :=
  let s := 2 ^ (f.p + f.eb - 1)
  if f.isNan a then (f.nan, false) else (if a.testBit (f.p + f.eb - 1) then a - s else a, false)

/-- A pattern copied: every real result that is a NaN is the canonical one (R126). -/
def FloatFmt.copy (f : FloatFmt) (a : Nat) : Nat := if f.isNan a then f.nan else a

/-- Convert from one format to another (R126). -/
def FloatFmt.convert (g f : FloatFmt) (tz : Bool) (a : Nat) : Nat × Bool :=
  match g.decode a with
  | .nan sig => (f.nan, sig)
  | .inf s => (f.inf s, false)
  | .fin s m e => f.round tz s m e false

/-- The integer nearest to a finite value (ties to even), or towards zero. -/
def Fp.toInt (tz : Bool) : Fp → Int
  | .fin s m e =>
    let v : Int := (if e < 0 then roundShift tz m (-e).toNat false else shiftUp m e : Nat)
    if s then -v else v
  | _ => 0

/-- Saturate an integer to a signed width, with status when it does. -/
def satInt (w : Nat) (v : Int) : Int × Bool :=
  let hi : Int := (2 ^ (w - 1) : Nat) - 1
  let lo : Int := -(2 ^ (w - 1) : Nat)
  if v > hi then (hi, true) else if v < lo then (lo, true) else (v, false)

/-- Real to a signed integer width: 0 for a NaN, saturated outside the range, with status in both cases (R126). -/
def FloatFmt.toSigned (f : FloatFmt) (tz : Bool) (w : Nat) (a : Nat) : Int × Bool :=
  match f.decode a with
  | .nan _ => (0, true)
  | .inf s => (if s then -(2 ^ (w - 1) : Nat) else (2 ^ (w - 1) : Nat) - 1, true)
  | x => satInt w (x.toInt tz)

/-- A signed integer to real. -/
def FloatFmt.ofInt (f : FloatFmt) (tz : Bool) (v : Int) : Nat × Bool := f.roundInt tz v 0 false

/-- a * b + c of binary32 operands in binary64 with one rounding, then rounded to binary32 (R121 SCALE). -/
def scaleReal (a b c : Nat) : Nat × Bool :=
  if fmt32.isNan a || fmt32.isNan b then fmt32.nanResult [a, b, c]
  else
    match (fmt32.decode a).mul (fmt32.decode b) with
    | none => fmt32.invalid
    | some x =>
      if fmt32.isNan c then fmt32.nanResult [c]
      else
        let (r, st) := fmt64.addFp x (fmt32.decode c)
        let (q, st') := fmt64.convert fmt32 false r
        (q, st || st')

/-- a * b + c of INT32 operands in binary64 with one rounding, then to INT32, saturated with status (R121, log entry 13). -/
def scaleInt (a b c : Int) : Int × Bool := fmt64.toSigned false 32 (fmt64.ofInt false (a * b + c)).1

end Sys2Proof.Machine
end

