-- ==== Sys2Proof/Syntax.lean ====
section
/-! DEFINITION. The commands of the block: one constructor of Instr per row of spec/opcode_table.json, with the operands that the row's rule gives it. -/

namespace Sys2Proof

/-- The two execution regions ER-A (0) and ER-B (1) of R21. -/
inductive Er where
  | A
  | B
  deriving DecidableEq, Repr

/-- Engine `n` of region `er` (R21: 0 to 33). -/
structure EngId where
  er : Er
  n : Nat
  deriving DecidableEq, Repr

/-- The data types of `TY` (R116). -/
inductive Ty where
  | int32
  | int64
  | real32
  | real64
  | bool
  | time
  deriving DecidableEq, Repr

/-- The access sizes of `SZ` (R117). -/
inductive Sz where
  | d64
  | s32
  | u32
  | line
  deriving DecidableEq, Repr

/-- The address spaces of `SP` (R117, R118). -/
inductive Space where
  | exp
  | var
  | con
  | scr
  deriving DecidableEq, Repr

/-- Format O of R117. -/
structure OFields where
  ty : Ty
  wd : BitVec 5
  wa : BitVec 5
  wb : BitVec 5
  cb : BitVec 3
  im : Bool
  cw : Bool
  imm : W32
  deriving DecidableEq, Repr

/-- Format M of R117. -/
structure MFields where
  sz : Sz
  wd : BitVec 5
  wa : BitVec 5
  wb : BitVec 5
  sp : Space
  off : W32
  deriving DecidableEq, Repr

/-- Format B of R117. -/
structure BFields where
  neg : Bool
  cnd : Bool
  cb : BitVec 3
  tgt : W32
  deriving DecidableEq, Repr

/-- Format J of R117. -/
structure JFields where
  wa : BitVec 5
  wb : BitVec 5
  idx : W32
  deriving DecidableEq, Repr

/-- Format F of R117. -/
structure FFields where
  ty : Ty
  wd : BitVec 5
  wa : BitVec 5
  wb : BitVec 5
  cq : BitVec 3
  ci : BitVec 3
  cj : BitVec 3
  ck : BitVec 3
  cl : BitVec 3
  off : BitVec 20
  deriving DecidableEq, Repr

/-- A run (slot, run number) or a loop sample (loop slot, tick). -/
inductive WorkRef where
  | run (slot : BitVec 9) (no : W32)
  | sample (slot : BitVec 13) (tick : W64)
  deriving DecidableEq, Repr

/-- The errors that a block, region or the chip detects (R26, R35, R36, R79, R192, R193, R211, R341); a read of MRAM that finds
an uncorrectable error in one copy, or in both (R441); a defect of an algorithm of SR, row + 1 of R406, which the next test finds
(R408). -/
inductive FaultEvent where
  | corrected (block : BitVec 16)
  | block (block : BitVec 16) (retryOk : Bool) (selfFlagged : Bool) (cause : Nat)
  | selfFlag (er : Er) (cause : Nat) (block : BitVec 16) (within40 : Bool)
  | bothFlags (causeA : Nat) (blockA : BitVec 16) (causeB : Nat) (blockB : BitVec 16)
  | ledger (kind : Nat) (qid : BitVec 16) (check : Nat)
  | lockstep
  | linkPattern (qid : BitVec 16) (inSwitch : Bool)
  | eqParity (eq : BitVec 6) (copy1 : Bool)
  | shared (region : Nat) (unit : Nat)
  | bothPlls
  | chip
  | mram (off : Nat) (len : Nat) (bothCopies : Bool)
  | algorithm (row : BitVec 3)
  deriving DecidableEq, Repr

/-- Frame formats of `FMT` (R232). -/
inductive FFmt where
  | classical
  | fd
  | xl
  deriving DecidableEq, Repr

/-- A frame record of R232 (`LEN` is the number of data bytes unless the frame is a template). -/
structure Frame where
  stamp : W64
  fmt : FFmt
  ide : Bool
  brs : Bool
  esi : Bool
  sec : Bool
  len : Nat
  id : BitVec 29
  sdt : Byte
  vcid : Byte
  af : W32
  data : Bytes
  deriving DecidableEq, Repr

/-- The error types of ISO 11898-1 that R262 counts. -/
inductive BusErr where
  | bit
  | stuff
  | form
  | crc
  | ack
  deriving DecidableEq, Repr

/-- The ports NP0 and NP1. -/
inductive Port where
  | np0
  | np1
  deriving DecidableEq, Repr

/-- The SecTAG of a received frame and what the cipher finds (R322): the SCI where the tag names one, its ES bit, AN and PN,
whether the frame is encrypted, whether the tag is well formed, and whether the ICV is right under the key of the SA it names. -/
structure SecTag where
  sci : Option W64
  es : Bool
  an : BitVec 2
  pn : W64
  encrypted : Bool
  wellFormed : Bool
  icvOk : Bool
  deriving DecidableEq, Repr

/-- What IEEE 1588's engine draws from a received PTP message (R314, R317, R319): the offset from the master in ns that it
measures, whether the best master clock algorithm now selects the master on this port, a new portState, and the path delay. -/
structure PtpEvent where
  offset : Option Int
  selected : Bool
  portState : Option Byte
  pathDelay : Option W64
  deriving DecidableEq, Repr

/-- A received Ethernet frame: its bytes from destination address to the last byte before the FCS, its wire length with FCS,
whether the FCS was right, its SecTAG, the sequence number of its PRP trailer or HSR tag (`bytes` holds neither these nor
MACsec's fields), the path number and size of its HSR tag, the buffer addresses in the next descriptors of the receive ring it
may go to, what the firmware's PTP engine draws from it, and the errored blocks or invalid code groups that the PCS has met since
the frame before. -/
structure NetFrame where
  bytes : Bytes
  wireLen : Nat
  fcsOk : Bool
  sec : Option SecTag
  seqNo : Option (BitVec 16)
  bufs : List W64
  ptp : Option PtpEvent
  pcsErrors : Nat
  hsrPath : BitVec 16 := 0
  deriving DecidableEq, Repr

/-- The targets of the interrupt system (R372). -/
inductive Target where
  | a0
  | a1
  | b0
  | b1
  | host
  deriving DecidableEq, Repr

/-- The requesters of R15. -/
inductive Requester where
  | hostPort
  | core (t : Target)
  deriving DecidableEq, Repr

/-- The reset scopes of R354 that a reset controller asserts domain by domain. -/
inductive Scope where
  | region (er : Er)
  | channel (c : BitVec 5)
  | port (p : Port)
  | pcie
  | hr
  | sr
  | shared (region : Nat)
  deriving DecidableEq, Repr

/-- A wide counter or register pair that R15 covers. -/
inductive WideReg where
  | dtime
  | tick
  | ftick (page : BitVec 7)
  | portOctets (p : Port) (slot : Nat)
  | queueOctets (q : Nat) (slot : Nat)
  deriving DecidableEq, Repr

/-- The operations of SR command MACSEC (R323). -/
inductive SecOp where
  | derive (port : Port)
  | icv (port : Port) (mkpdu : Bytes)
  | genSak (port : Port)
  | wrapSak (port : Port)
  | unwrapSak (port : Port) (wrapped : Bytes)
  | installSa (port : Port) (receive : Bool) (sci : W64) (an : BitVec 2) (ssci : W32) (salt : Bytes)
  | deleteSa (port : Port) (receive : Bool) (sci : W64) (an : BitVec 2)
  deriving DecidableEq, Repr

/-- A register space that R17 covers and no other row names; BAR0's window stands on the serial interface too (R462), where a frame
writes it (R464), and a PCI Express write may span several words, each with its byte enables (R463). -/
inductive RegSpace where
  | bar0
  | serial
  | words (l : List (BitVec 4 × W32))
  | frame (bs : Bytes)
  | evcCore (t : Target)
  | routeTable (fromActive : Bool)
  | timeUnit (fromActive : Bool)
  deriving DecidableEq, Repr

/-- One transmit descriptor of R290 with the bytes of its buffer. -/
structure TxDesc where
  addr : W64
  eop : Bool
  pcp : BitVec 3
  data : Bytes
  deriving DecidableEq, Repr

/-- The commands, in the table's order; each names its row and rule. -/
inductive Instr where
  /-- BLOCK_FAULT (R26). -/
  | blockFault (f : FaultEvent)
  /-- HALT_RESTART (R369). -/
  | haltRestart
  /-- TICK_TOKEN_INSERT (R86). -/
  | tickTokenInsert
  /-- GROUP_TAKEN (R33). -/
  | groupTaken
  /-- QUEUE_WRITE_ON_CREDIT (R30). -/
  | queueWriteOnCredit (qid : BitVec 16)
  /-- QUEUE_ENTRY_REMOVED (R30). -/
  | queueEntryRemoved (qid : BitVec 16)
  /-- APPLY_PHASE (R87). -/
  | applyPhase (er : Er) (delayFab : Nat)
  /-- STAMP_SWEEP (R45). -/
  | stampSweep (er : Er) (point : BitVec 20)
  /-- EXPOSURE (R94). -/
  | exposure (er : Er)
  /-- RUN_DISPATCH (R96). -/
  | runDispatch (e : EngId)
  /-- WATCHDOG_ABORT (R100). -/
  | watchdogAbort (e : EngId)
  /-- MOV (R121). -/
  | mov (e : EngId) (f : OFields)
  /-- MOVU (R121). -/
  | movu (e : EngId) (f : OFields)
  /-- MOVH (R121). -/
  | movh (e : EngId) (f : OFields)
  /-- ADD (R121). -/
  | add (e : EngId) (f : OFields)
  /-- SUB (R121). -/
  | sub (e : EngId) (f : OFields)
  /-- ADDS (R125). -/
  | adds (e : EngId) (f : OFields)
  /-- SUBS (R125). -/
  | subs (e : EngId) (f : OFields)
  /-- NEG (R121). -/
  | negW (e : EngId) (f : OFields)
  /-- ABS (R121). -/
  | absW (e : EngId) (f : OFields)
  /-- MIN (R121). -/
  | minW (e : EngId) (f : OFields)
  /-- MAX (R121). -/
  | maxW (e : EngId) (f : OFields)
  /-- AND (R121). -/
  | andW (e : EngId) (f : OFields)
  /-- OR (R121). -/
  | orW (e : EngId) (f : OFields)
  /-- XOR (R121). -/
  | xorW (e : EngId) (f : OFields)
  /-- ANDN (R121). -/
  | andn (e : EngId) (f : OFields)
  /-- NOT (R121). -/
  | notW (e : EngId) (f : OFields)
  /-- SHL (R121). -/
  | shl (e : EngId) (f : OFields)
  /-- SHR (R121). -/
  | shr (e : EngId) (f : OFields)
  /-- SAR (R121). -/
  | sar (e : EngId) (f : OFields)
  /-- EXT (R121). -/
  | ext (e : EngId) (f : OFields)
  /-- MUL (R121). -/
  | mul (e : EngId) (f : OFields)
  /-- MULS (R125). -/
  | muls (e : EngId) (f : OFields)
  /-- DIV (R125). -/
  | div (e : EngId) (f : OFields)
  /-- MOD (R125). -/
  | modW (e : EngId) (f : OFields)
  /-- FMA (R121). -/
  | fma (e : EngId) (f : OFields)
  /-- SQRT (R121). -/
  | sqrt (e : EngId) (f : OFields)
  /-- CVT (R125). -/
  | cvt (e : EngId) (f : OFields)
  /-- LIMIT (R121). -/
  | limit (e : EngId) (f : OFields)
  /-- SCALE (R121). -/
  | scale (e : EngId) (f : OFields)
  /-- MUX (R121). -/
  | mux (e : EngId) (f : OFields)
  /-- SEL (R121). -/
  | sel (e : EngId) (f : OFields)
  /-- CEQ (R121). -/
  | ceq (e : EngId) (f : OFields)
  /-- CNE (R121). -/
  | cne (e : EngId) (f : OFields)
  /-- CLT (R121). -/
  | clt (e : EngId) (f : OFields)
  /-- CLE (R121). -/
  | cle (e : EngId) (f : OFields)
  /-- CGT (R121). -/
  | cgt (e : EngId) (f : OFields)
  /-- CGE (R121). -/
  | cge (e : EngId) (f : OFields)
  /-- CLTU (R121). -/
  | cltu (e : EngId) (f : OFields)
  /-- CLEU (R121). -/
  | cleu (e : EngId) (f : OFields)
  /-- CGTU (R121). -/
  | cgtu (e : EngId) (f : OFields)
  /-- CGEU (R121). -/
  | cgeu (e : EngId) (f : OFields)
  /-- BTST (R121). -/
  | btst (e : EngId) (f : OFields)
  /-- CLOG (R121). -/
  | clog (e : EngId) (f : OFields)
  /-- MOVC (R121). -/
  | movc (e : EngId) (f : OFields)
  /-- RDF (R121). -/
  | rdf (e : EngId) (f : OFields)
  /-- LD (R119). -/
  | ld (e : EngId) (f : MFields)
  /-- ST (R119). -/
  | st (e : EngId) (f : MFields)
  /-- BR (R121). -/
  | br (e : EngId) (f : BFields)
  /-- CALL (R121). -/
  | call (e : EngId) (f : BFields)
  /-- RET (R121). -/
  | ret (e : EngId) (f : BFields)
  /-- END (R123). -/
  | endRun (e : EngId) (f : BFields)
  /-- OUT (R127). -/
  | out (e : EngId) (f : JFields)
  /-- LSP (R127). -/
  | lsp (e : EngId) (f : JFields)
  /-- LBANK (R127). -/
  | lbank (e : EngId) (f : JFields)
  /-- EVENT (R127). -/
  | event (e : EngId) (f : JFields)
  /-- TON (R131). -/
  | ton (e : EngId) (f : FFields)
  /-- TOF (R131). -/
  | tof (e : EngId) (f : FFields)
  /-- TP (R131). -/
  | tp (e : EngId) (f : FFields)
  /-- CTU (R132). -/
  | ctu (e : EngId) (f : FFields)
  /-- CTD (R132). -/
  | ctd (e : EngId) (f : FFields)
  /-- CTUD (R132). -/
  | ctud (e : EngId) (f : FFields)
  /-- RTRIG (R133). -/
  | rtrig (e : EngId) (f : FFields)
  /-- FTRIG (R133). -/
  | ftrig (e : EngId) (f : FFields)
  /-- SR (R133). -/
  | sr (e : EngId) (f : FFields)
  /-- RS (R133). -/
  | rs (e : EngId) (f : FFields)
  /-- RAMP (R134). -/
  | ramp (e : EngId) (f : FFields)
  /-- FIX_COMPARISON (R189). -/
  | fixComparison (slot : BitVec 9) (no : W32)
  /-- JOURNAL_TIMEOUT (R191). -/
  | journalTimeout (late : Er) (w : WorkRef)
  /-- RUN_NOTICE_ACCEPTED (R93). -/
  | runNoticeAccepted
  /-- RELEASE_ACCEPTED (R41). -/
  | releaseAccepted
  /-- REFEREE_HANDOVER (R198). -/
  | refereeHandover (er : Er) (w : WorkRef) (unit : Nat)
  /-- REFEREE_DECIDED (R199). -/
  | refereeDecided (w : WorkRef)
  /-- REFEREE_DEADLINE (R200). -/
  | refereeDeadline (w : WorkRef)
  /-- LOOP_SAMPLE (R173). -/
  | loopSample (er : Er) (lane : Nat)
  /-- LOOP_SAMPLE_COMPARE (R180). -/
  | loopSampleCompare (slot : BitVec 13) (tick : W64)
  /-- LIO_LEVEL_CHANGE (R82). -/
  | lioLevelChange (pin : Nat) (level : Bool)
  /-- PWM_PERIOD_START (R82). -/
  | pwmPeriodStart (pin : Nat)
  /-- MIGRATION (R147). -/
  | migration (er : Er) (p : BitVec 7)
  /-- FLIP (R149). -/
  | flip (er : Er) (p : BitVec 7)
  /-- CHANGE_ABANDONED (R148). -/
  | changeAbandoned (er : Er) (p : BitVec 7)
  /-- ENGINE_ROTATION (R208). -/
  | engineRotation (er : Er)
  /-- ENGINE_LEAVES_SERVICE (R208). -/
  | engineLeavesService (er : Er)
  /-- LANE_ROTATION (R209). -/
  | laneRotation (er : Er)
  /-- SELF_TEST_COMPLETE (R205). -/
  | selfTestComplete (block : BitVec 16) (failStep : Nat) (micros : W32)
  /-- SCRUB_PASS (R210). -/
  | scrubPass (er : Er) (corrected : List (BitVec 16)) (recurring : List (BitVec 16))
  /-- FIXER_KAT (R212). -/
  | fixerKat (er : Er) (fail : Option (Nat × Nat))
  /-- HEALTH_RECORD_WRITE (R213). -/
  | healthRecordWrite
  /-- REJOIN_STARTED (R217). -/
  | rejoinStarted (er : Er)
  /-- REJOIN_TESTING_COMPLETE (R218). -/
  | rejoinTestingComplete (er : Er) (memoryBad : Bool)
  /-- REJOIN_COPY_PASS_COMPLETE (R218). -/
  | rejoinCopyPassComplete (er : Er) (dirtyPages : Nat)
  /-- REJOIN_JOIN (R219). -/
  | rejoinJoin (er : Er)
  /-- MIRROR_ACK (R220). -/
  | mirrorAck (w : WorkRef)
  /-- FIELD_FRAME_VALID (R230). -/
  | fieldFrameValid (c : BitVec 5) (f : Frame) (remote : Bool)
  /-- PROTOCOL_EXCEPTION (R505). -/
  | protocolException (c : BitVec 5) (xl : Bool)
  /-- BUFFER_UNLOCK (R235). -/
  | bufferUnlock (c : BitVec 5) (buf : Byte)
  /-- BUS_ERROR (R250). -/
  | busError (c : BitVec 5) (kind : BusErr) (transmitting : Bool) (exempt : Bool) (own : Bool)
  /-- ARBITRATION_LOST (R246). -/
  | arbitrationLost (c : BitVec 5)
  /-- BUS_IDLE (R245). -/
  | busIdle (c : BitVec 5)
  /-- FIELD_FRAME_SENT (R247). -/
  | fieldFrameSent (c : BitVec 5)
  /-- REFRESH (R243). -/
  | refresh (c : BitVec 5) (buf : BitVec 6)
  /-- CYCLE_START (R252). -/
  | cycleStart (c : BitVec 5)
  /-- EXCLUSIVE_WINDOW (R255). -/
  | exclusiveWindow (c : BitVec 5) (buf : BitVec 6) (busBusy : Bool)
  /-- STATION_CHECK (R257). -/
  | stationCheck (c : BitVec 5) (node : BitVec 7)
  /-- RECOVER_DELAY (R251). -/
  | recoverDelay (c : BitVec 5)
  /-- BUS_OFF_RECOVERED (R251). -/
  | busOffRecovered (c : BitVec 5)
  /-- CHANNEL_STOPPED (R261). -/
  | channelStopped (c : BitVec 5)
  /-- BUS_INTEGRATION (R228). -/
  | busIntegration (c : BitVec 5)
  /-- DOMINANT_TIMEOUT (R490). -/
  | dominantTimeout (c : BitVec 5)
  /-- NETWORK_FRAME_RECEIVED (R271). -/
  | networkFrameReceived (p : Port) (f : NetFrame)
  /-- RECEIVE_DESCRIPTOR_WAIT (R288). -/
  | receiveDescriptorWait (q : Nat) (bufs : List W64)
  /-- QUEUE_DOORBELL (R286). -/
  | queueDoorbell (p : BitVec 7) (w : W32)
  /-- TRANSMIT_FETCH (R290). -/
  | transmitFetch (q : Nat) (descs : List TxDesc)
  /-- TRANSMIT_START (R292). -/
  | transmitStart (p : Port)
  /-- NETWORK_FRAME_SENT (R291). -/
  | networkFrameSent (p : Port)
  /-- PAUSE_EXPIRY (R295). -/
  | pauseExpiry (p : Port) (cls : Option (BitVec 3))
  /-- XOFF_REPEAT (R296). -/
  | xoffRepeat (p : Port) (cls : BitVec 3)
  /-- LPI_ENTRY (R298). -/
  | lpiEntry (p : Port)
  /-- LPI_WAKE (R298). -/
  | lpiWake (p : Port)
  /-- LINK_DOWN (R269). -/
  | linkDown (p : Port) (cause : Nat)
  /-- LINK_UP (R269). -/
  | linkUp (p : Port) (lmode : BitVec 2)
  /-- PHY_POLL (R269). -/
  | phyPoll (p : Port) (pcs : BitVec 16) (an : BitVec 16)
  /-- LOAD_WINDOW_1S (R300). -/
  | loadWindow1s
  /-- LOAD_WINDOW_1MS (R300). -/
  | loadWindow1ms
  /-- LINK_WAIT_TIMEOUT (R300). -/
  | linkWaitTimeout (p : Port)
  /-- DUPLICATE_ENTRY_FORGET (R278). -/
  | duplicateEntryForget (src : BitVec 48) (seqNo : BitVec 16)
  /-- SUPERVISION_SEND (R276). -/
  | supervisionSend
  /-- PTP_MESSAGE_SEND (R318). -/
  | ptpMessageSend (p : Port) (msg : Bytes)
  /-- TU_STEP_WRITE (R311). -/
  | tuStepWrite (v : W64) (fromActive : Bool)
  /-- PPS_OUT_RISE (R320). -/
  | ppsOutRise
  /-- PPS_OUT_FALL (R320). -/
  | ppsOutFall
  /-- PPS_IN_EDGE (R321). -/
  | ppsInEdge
  /-- RTC_UPDATE (R351). -/
  | rtcUpdate
  /-- VELLEK_OUTPUT_BUILD (R334). -/
  | vellekOutputBuild (st : BitVec 12)
  /-- VELLEK_STATION_CHECK (R335). -/
  | vellekStationCheck (st : BitVec 12)
  /-- PLL_CHANGEOVER (R340). -/
  | pllChangeover (lossOfLock : Bool)
  /-- REFERENCE_LOST (R342). -/
  | referenceLost
  /-- REFERENCE_RETURN (R342). -/
  | referenceReturn
  /-- REFERENCE_HOLDOVER_EXPIRED (R342). -/
  | referenceHoldoverExpired
  /-- CROSSING_DEAD (R352). -/
  | crossingDead (qid : BitVec 16) (domain : Nat) (powerLost : Bool)
  /-- RESET_ASSERT (R355). -/
  | resetAssert (scope : Scope)
  /-- CROSSING_RESET_TIMEOUT (R355). -/
  | crossingResetTimeout (scope : Scope) (qid : BitVec 16)
  /-- QUEUE_REARM (R356). -/
  | queueRearm (qid : BitVec 16)
  /-- SUPPLIES_GOOD (R360). -/
  | suppliesGood
  /-- VIN_OUT_OF_RANGE (R362). -/
  | vinOutOfRange (b : Bool) (tenths : Nat)
  /-- VIN_IN_RANGE (R360). -/
  | vinInRange (b : Bool) (tenths : Nat)
  /-- POWER_WARNING (R365). -/
  | powerWarning
  /-- COMMIT_CUTOFF (R365). -/
  | commitCutoff
  /-- POWER_WARNING_CLEARED (R366). -/
  | powerWarningCleared
  /-- BROWN_OUT (R367). -/
  | brownOut
  /-- RESET_N (R354). -/
  | resetN
  /-- PERST_N (R354). -/
  | perstN
  /-- HOST_LINK_UP (R462). -/
  | hostLinkUp (rate : Nat) (width : Nat)
  /-- END_OF_INTERRUPT (R386). -/
  | endOfInterrupt (t : Target)
  /-- EVC_PEND_WRITE (R381). -/
  | evcPendWrite (t : Target) (g : BitVec 5) (v : W32) (hwSet : W32)
  /-- EVC_CTRL_PMODE_WRITE (R379). -/
  | evcCtrlPmodeWrite (t : Target) (v : W32)
  /-- INTERRUPT_DELIVERY (R385). -/
  | interruptDelivery (t : Target)
  /-- HOLD_OFF_EXPIRY (R388). -/
  | holdOffExpiry (t : Target) (g : BitVec 5)
  /-- RECORD_WRITE (R394). -/
  | recordWrite
  /-- REC_CTRL_FREEZE_SET (R399). -/
  | recCtrlFreezeSet (v : W32)
  /-- REC_CTRL_FREEZE_CLEAR (R399). -/
  | recCtrlFreezeClear (v : W32)
  /-- FREEZE_EXPIRY (R399). -/
  | freezeExpiry
  /-- RECORDER_DRAIN_COMPLETE (R399). -/
  | recorderDrainComplete
  /-- REC_WIN_FIRST_READ (R398). -/
  | recWinFirstRead
  /-- REC_WIN_LAST_READ (R398). -/
  | recWinLastRead
  /-- TAMPER_T1 (R430). -/
  | tamperT1 (sensor : Nat)
  /-- T1_CONDITION_END (R429). -/
  | t1ConditionEnd
  /-- TAMPER_T2 (R430). -/
  | tamperT2 (sensor : Nat)
  /-- DORMANT_CHECK (R430). -/
  | dormantCheck (meshOk : Bool) (loopOk : Bool)
  /-- ENTROPY_FAILURE (R407). -/
  | entropyFailure (kind : Nat)
  /-- ENTROPY_RETEST (R407). -/
  | entropyRetest (pass : Bool)
  /-- DRBG_RESEED (R407). -/
  | drbgReseed
  /-- SR_VERIFY (R404). -/
  | srVerify (key : Bytes) (msg : Bytes) (sig : Bytes)
  /-- SR_MACSEC (R323). -/
  | srMacsec (op : SecOp)
  /-- SR_RESTART_COMPLETE (R458). -/
  | srRestartComplete
  /-- IMAGE_BODY_COMPLETE (R439). -/
  | imageBodyComplete (p : BitVec 7)
  /-- IMAGE_BODY_TIMEOUT (R439). -/
  | imageBodyTimeout (p : BitVec 7)
  /-- TRIAL_CONFIRM (R450). -/
  | trialConfirm
  /-- TRIAL_WINDOW_EXPIRY (R451). -/
  | trialWindowExpiry
  /-- RETAIN_SNAPSHOT (R446). -/
  | retainSnapshot
  /-- MBX_DOORBELL (R470). -/
  | mbxDoorbell (p : BitVec 7) (seqNo : BitVec 16)
  /-- BULK_DMA_COMPLETE (R474). -/
  | bulkDmaComplete (p : BitVec 7) (ok : Bool) (data : Bytes)
  /-- SEGMENT_TIMEOUT (R475). -/
  | segmentTimeout (p : BitVec 7)
  /-- OBJECT_COPY_EXPIRY (R476). -/
  | objectCopyExpiry (p : BitVec 7)
  /-- HR_RESTART_COMPLETE (R478). -/
  | hrRestartComplete
  /-- REGISTER_WRITE (R17). -/
  | registerWrite (sp : RegSpace) (off : Nat) (v : W64)
  /-- DEVICE_INFO (R479). -/
  | deviceInfo (p : BitVec 7)
  /-- CONTACT_SHEET (R214). -/
  | contactSheet (p : BitVec 7)
  /-- HEALTH_CLEAR (R213). -/
  | healthClear (p : BitVec 7)
  /-- AUTO_REJOIN (R217). -/
  | autoRejoin (p : BitVec 7) (en : W32)
  /-- REJOIN (R217). -/
  | rejoin (p : BitVec 7) (region : W32)
  /-- REGION_OUT (R192). -/
  | regionOut (p : BitVec 7) (region : W32)
  /-- ROLE_SWAP (R187). -/
  | roleSwap (p : BitVec 7)
  /-- ROUTE (R376). -/
  | route (p : BitVec 7) (source : W32) (toHost : W32)
  /-- LOST_AT_RESET (R357). -/
  | lostAtReset (p : BitVec 7) (qid : W32)
  /-- TASK_COUNTERS (R105). -/
  | taskCounters (p : BitVec 7) (slot : W32)
  /-- GRANT_WRITE (R62). -/
  | grantWrite (p : BitVec 7) (entry : W32) (w : W64)
  /-- GRANT_READ (R61). -/
  | grantRead (p : BitVec 7) (entry : W32)
  /-- PARTITION_SET (R143). -/
  | partitionSet (p : BitVec 7) (part : W32) (budget : W32)
  /-- DMA_WINDOW (R474). -/
  | dmaWindow (p : BitVec 7) (part : W32) (base : W64) (len : W64)
  /-- LOOP_ASSIGN (R163). -/
  | loopAssign (p : BitVec 7) (first : W32) (count : W32) (part : W32)
  /-- POINT_OWNER (R64). -/
  | pointOwner (p : BitVec 7) (point : W32) (owner : W32)
  /-- PROGRAM_LOAD (R136). -/
  | programLoad (p : BitVec 7) (container : Bytes)
  /-- CHANGE (R142). -/
  | change (p : BitVec 7) (tc : W64)
  /-- CHANGE_CANCEL (R142). -/
  | changeCancel (p : BitVec 7)
  /-- CHANGE_REPORT (R160). -/
  | changeReport (p : BitVec 7)
  /-- PROGRAM_INFO (R479). -/
  | programInfo (p : BitVec 7)
  /-- POINT_READ (R107). -/
  | pointRead (p : BitVec 7) (first : W32) (count : W32)
  /-- VAR_READ (R107). -/
  | varRead (p : BitVec 7) (iid : W32) (off : W32) (len : W32)
  /-- ATTR_WRITE (R53). -/
  | attrWrite (p : BitVec 7) (point : W32) (ty : W32) (attr : W64)
  /-- ATTR_READ (R53). -/
  | attrRead (p : BitVec 7) (point : W32)
  /-- LIMIT_WRITE (R58). -/
  | limitWrite (p : BitVec 7) (idx : W32) (entry : W64)
  /-- FORCE_SET (R154). -/
  | forceSet (p : BitVec 7) (w0 : W64) (w1 : W64) (w2 : W64)
  /-- FORCE_REMOVE (R158). -/
  | forceRemove (p : BitVec 7) (w0 : W64) (w1 : W64)
  /-- FORCE_LIST (R479). -/
  | forceList (p : BitVec 7)
  /-- INTERLOCK_WRITE (R75). -/
  | interlockWrite (p : BitVec 7) (eq : W32) (record : List W64)
  /-- INTERLOCK_ACK (R77). -/
  | interlockAck (p : BitVec 7) (eq : W32)
  /-- INTERLOCK_READ (R479). -/
  | interlockRead (p : BitVec 7) (eq : W32)
  /-- LIO_CONFIG (R81). -/
  | lioConfig (p : BitVec 7) (pin : W32) (w : W64)
  /-- CHANNEL_WRITE (R228). -/
  | channelWrite (p : BitVec 7) (c : W32) (record : List W64)
  /-- FILTER_WRITE (R229). -/
  | filterWrite (p : BitVec 7) (c : W32) (first : W32) (filters : List (W64 × W64))
  /-- RXBUF_CONFIG (R231). -/
  | rxbufConfig (p : BitVec 7) (c : W32) (buf : W32) (w : W32)
  /-- MAPPING_WRITE (R241). -/
  | mappingWrite (p : BitVec 7) (c : W32) (first : W32) (entries : List (W64 × W64))
  /-- TXBUF_WRITE (R242). -/
  | txbufWrite (p : BitVec 7) (c : W32) (buf : W32) (w : W64) (t0 : W64) (t1 : W64) (data : Bytes)
  /-- EMERGENCY_WRITE (R248). -/
  | emergencyWrite (p : BitVec 7) (c : W32) (num : W32) (h0 : W64) (h1 : W64) (h2 : W64) (data : Bytes)
  /-- STATION_WRITE (R256). -/
  | stationWrite (p : BitVec 7) (c : W32) (node : W32) (w : W64)
  /-- CHANNEL_RECOVER (R251). -/
  | channelRecover (p : BitVec 7) (c : W32)
  /-- TM_RESTART (R254). -/
  | tmRestart (p : BitVec 7) (c : W32)
  /-- RAW_FRAME_READ (R233). -/
  | rawFrameRead (p : BitVec 7) (c : W32) (buf : W32)
  /-- RAW_FRAME_SEND (R242). -/
  | rawFrameSend (p : BitVec 7) (c : W32) (buf : W32) (len : W32) (data : Bytes)
  /-- CHANNEL_COUNTERS (R263). -/
  | channelCounters (p : BitVec 7) (c : W32) (kind : W32) (idx : W32)
  /-- VELLEK_WRITE (R327). -/
  | vellekWrite (p : BitVec 7) (record : Bytes)
  /-- VSTATION_WRITE (R332). -/
  | vstationWrite (p : BitVec 7) (st : W32) (record : Bytes)
  /-- VBLOCK_WRITE (R333). -/
  | vblockWrite (p : BitVec 7) (first : W32) (entries : List W64)
  /-- VSTATION_COUNTERS (R337). -/
  | vstationCounters (p : BitVec 7) (st : W32)
  /-- STATION_STATE (R256). -/
  | stationState (p : BitVec 7) (st : W32)
  /-- LOOP_WRITE (R167). -/
  | loopWrite (p : BitVec 7) (slot : W32) (record : List W64)
  /-- LOOP_READ (R166). -/
  | loopRead (p : BitVec 7) (slot : W32)
  /-- LOOP_RUN (R168). -/
  | loopRun (p : BitVec 7) (slot : W32) (run : W32)
  /-- LOOP_SETPOINT (R179). -/
  | loopSetpoint (p : BitVec 7) (slot : W32) (v : W32)
  /-- LOOP_BANK (R179). -/
  | loopBank (p : BitVec 7) (slot : W32) (bank : W32)
  /-- LOOP_REMOVE (R163). -/
  | loopRemove (p : BitVec 7) (slot : W32)
  /-- PORT_WRITE (R267). -/
  | portWrite (p : BitVec 7) (port : W32) (record : List W64)
  /-- PAIR_WRITE (R268). -/
  | pairWrite (p : BitVec 7) (r0 : List W64) (r1 : List W64)
  /-- NFILTER_WRITE (R282). -/
  | nfilterWrite (p : BitVec 7) (first : W32) (entries : List (W64 × W64))
  /-- QUEUE_WRITE (R285). -/
  | queueWrite (p : BitVec 7) (q : W32) (record : List W64)
  /-- QUEUE_COUNTERS (R304). -/
  | queueCounters (p : BitVec 7) (q : W32)
  /-- FRAME_READ (R285). -/
  | frameRead (p : BitVec 7) (q : W32)
  /-- FRAME_RETURN (R285). -/
  | frameReturn (p : BitVec 7) (q : W32)
  /-- FRAME_SEND (R285). -/
  | frameSend (p : BitVec 7) (q : W32) (pcp : W32) (data : Bytes)
  /-- PHY_READ (R269). -/
  | phyRead (p : BitVec 7) (port : W32) (mmd : W32) (reg : W32) (answer : BitVec 16)
  /-- PHY_WRITE (R269). -/
  | phyWrite (p : BitVec 7) (port : W32) (mmd : W32) (reg : W32) (v : W32)
  /-- TIME_WRITE (R312). -/
  | timeWrite (p : BitVec 7) (r0 : W64) (r1 : W64)
  /-- PTP_READ (R314). -/
  | ptpRead (p : BitVec 7) (ds : W32)
  /-- PTP_WRITE (R314). -/
  | ptpWrite (p : BitVec 7) (ds : W32) (data : Bytes)
  /-- LATENCY_WRITE (R314). -/
  | latencyWrite (p : BitVec 7) (port : W32) (lmode : W32) (ingress : W32) (egress : W32)
  /-- MACSEC_CONFIG (R322). -/
  | macsecConfig (p : BitVec 7) (port : W32) (options : W32) (window : W32) (slot : W32) (prio : W32) (cknLen : W32) (ckn : Bytes)
  /-- REC_READ (R398). -/
  | recRead (p : BitVec 7) (slot : W32) (count : W32)
  /-- REC_FREEZE (R399). -/
  | recFreeze (p : BitVec 7)
  /-- REC_THAW (R399). -/
  | recThaw (p : BitVec 7)
  /-- IMAGE_WRITE (R438). -/
  | imageWrite (p : BitVec 7) (target : W32) (container : Bytes)
  /-- UPDATE_START (R454). -/
  | updateStart (p : BitVec 7) (kind : W32)
  /-- UPDATE_CONTINUE (R457). -/
  | updateContinue (p : BitVec 7)
  /-- UPDATE_CANCEL (R451). -/
  | updateCancel (p : BitVec 7)
  /-- SLOT_STATUS (R442). -/
  | slotStatus (p : BitVec 7)
  /-- IDENTITY (R404). -/
  | identity (p : BitVec 7)
  /-- KEY_UPDATE (R423). -/
  | keyUpdate (p : BitVec 7) (msg : Bytes)
  /-- ATTEST (R428). -/
  | attest (p : BitVec 7) (flags : W32) (slot : W32) (nonce : Bytes)
  /-- SEAL (R427). -/
  | seal (p : BitVec 7) (slot : W32) (sel : W32) (data : Bytes)
  /-- UNSEAL (R427). -/
  | unseal (p : BitVec 7) (blob : Bytes)
  /-- PMAC (R404). -/
  | pmac (p : BitVec 7) (slot : W32) (verify : W32) (tag : Bytes) (data : Bytes)
  /-- RANDOM (R404). -/
  | random (p : BitVec 7) (len : W32)
  /-- SLOT_INFO (R415). -/
  | slotInfo (p : BitVec 7) (first : W32) (count : W32)
  /-- SR_STATUS (R479). -/
  | srStatus (p : BitVec 7)
  /-- SELFTEST (R408). -/
  | selftest (p : BitVec 7) (failed : W32)
  /-- COUNTER_LOWER_WORD_READ (R15). -/
  | counterLowerWordRead (who : Requester) (reg : WideReg)
  /-- VBAT_LOST (R359). -/
  | vbatLost
  /-- VBAT_APPLIED (R495). -/
  | vbatApplied
  /-- MACR_CLOCK_RETURN (R344). -/
  | macrClockReturn (p : Port)
  /-- TIME_SOURCE_LOST (R312). -/
  | timeSourceLost
  /-- TAMPER_WAIT_EXPIRY (R430). -/
  | tamperWaitExpiry
  /-- TRIAL_CRITERION_WINDOW (R449). -/
  | trialCriterionWindow
  /-- HOST_LINK_DOWN (R482). -/
  | hostLinkDown
  deriving DecidableEq, Repr

end Sys2Proof
end

