-- ==== Sys2Proof/Machine/Flags.lean ====
section
/-! DEFINITION. The results and the status bits of Golup arithmetic, comparison and conversion (R116, R121, R125, R126), on
register words. -/

namespace Sys2Proof.Machine

/-- The width of an integer type. -/
def intWidth : Ty → Nat
  | .int32 => 32
  | _ => 64

/-- The integer that a register word holds: INT32 reads bits [31:0] (R125). -/
def readInt (ty : Ty) (w : W64) : Int :=
  match ty with
  | .int32 => (w.setWidth 32).toInt
  | _ => w.toInt

/-- The unsigned value of a register word in an integer type. -/
def readNat (ty : Ty) (w : W64) : Nat :=
  match ty with
  | .int32 => (w.setWidth 32).toNat
  | _ => w.toNat

/-- A result in an integer type: wrapped to its width and, for INT32, sign-extended (R116, R125). -/
def holdInt (ty : Ty) (v : Int) : W64 :=
  match ty with
  | .int32 => (BitVec.ofInt 32 v).signExtend 64
  | _ => BitVec.ofInt 64 v

/-- The float format of a real type. -/
def fmtOf : Ty → FloatFmt
  | .real32 => fmt32
  | _ => fmt64

/-- The pattern of a real operand. -/
def readReal (ty : Ty) (w : W64) : Nat :=
  match ty with
  | .real32 => (w.setWidth 32).toNat
  | _ => w.toNat

/-- A real result in its register layout (R116). -/
def holdReal (r : Nat × Bool) : W64 × Bool := (BitVec.ofNat 64 r.1, r.2)

/-- Is the type real. -/
def isReal : Ty → Bool
  | .real32 => true
  | .real64 => true
  | _ => false

/-- BOOL result: 0 or 1 (R116). -/
def holdBool (b : Bool) : W64 := if b then 1 else 0

/-- Wrapping integer result: status is signed overflow (R125). -/
def wrapResult (ty : Ty) (v : Int) : W64 × Bool := (holdInt ty v, (satInt (intWidth ty) v).2)

/-- Saturating integer result: status when it saturates (R125). -/
def satResult (ty : Ty) (v : Int) : W64 × Bool :=
  let (x, st) := satInt (intWidth ty) v
  (holdInt ty x, st)

/-- ADD. -/
def addResult (ty : Ty) (a b : W64) : W64 × Bool :=
  if isReal ty then holdReal ((fmtOf ty).add (readReal ty a) (readReal ty b)) else wrapResult ty (readInt ty a + readInt ty b)

/-- SUB. -/
def subResult (ty : Ty) (a b : W64) : W64 × Bool :=
  if isReal ty then holdReal ((fmtOf ty).sub (readReal ty a) (readReal ty b)) else wrapResult ty (readInt ty a - readInt ty b)

/-- MUL: the low bits of the product. -/
def mulResult (ty : Ty) (a b : W64) : W64 × Bool :=
  if isReal ty then holdReal ((fmtOf ty).mul (readReal ty a) (readReal ty b)) else wrapResult ty (readInt ty a * readInt ty b)

/-- ADDS. -/
def addsResult (ty : Ty) (a b : W64) : W64 × Bool := satResult ty (readInt ty a + readInt ty b)

/-- SUBS. -/
def subsResult (ty : Ty) (a b : W64) : W64 × Bool := satResult ty (readInt ty a - readInt ty b)

/-- MULS. -/
def mulsResult (ty : Ty) (a b : W64) : W64 × Bool := satResult ty (readInt ty a * readInt ty b)

/-- NEG: the most negative value gives itself with status (R125). -/
def negResult (ty : Ty) (a : W64) : W64 × Bool :=
  if isReal ty then holdReal ((fmtOf ty).negate (readReal ty a)) else wrapResult ty (-(readInt ty a))

/-- ABS. -/
def absResult (ty : Ty) (a : W64) : W64 × Bool :=
  if isReal ty then holdReal ((fmtOf ty).abs (readReal ty a)) else wrapResult ty (readInt ty a).natAbs

/-- MIN. -/
def minResult (ty : Ty) (a b : W64) : W64 × Bool :=
  if isReal ty then holdReal ((fmtOf ty).min (readReal ty a) (readReal ty b))
  else (holdInt ty (min (readInt ty a) (readInt ty b)), false)

/-- MAX. -/
def maxResult (ty : Ty) (a b : W64) : W64 × Bool :=
  if isReal ty then holdReal ((fmtOf ty).max (readReal ty a) (readReal ty b))
  else (holdInt ty (max (readInt ty a) (readInt ty b)), false)

/-- LIMIT: max(lo, min(a, hi)) (R121). -/
def limitResult (ty : Ty) (a lo hi : W64) : W64 × Bool :=
  if isReal ty then holdReal ((fmtOf ty).limit (readReal ty a) (readReal ty lo) (readReal ty hi))
  else (holdInt ty (max (readInt ty lo) (min (readInt ty a) (readInt ty hi))), false)

/-- SCALE (R121): status as the rounding to `TY` gives it (log entry 13). -/
def scaleResult (ty : Ty) (a b c : W64) : W64 × Bool :=
  match ty with
  | .real32 => holdReal (scaleReal (readReal ty a) (readReal ty b) (readReal ty c))
  | _ => let (v, st) := scaleInt (readInt ty a) (readInt ty b) (readInt ty c); (holdInt ty v, st)

/-- A bitwise result in its type: BOOL acts on bit [0] (R125). -/
def holdBits (ty : Ty) (w : W64) : W64 :=
  match ty with
  | .bool => w &&& 1
  | .int32 => (w.setWidth 32).signExtend 64
  | _ => w

/-- SHL, SHR and SAR by B[6:0] (R125). -/
def shlResult (ty : Ty) (a b : W64) : W64 :=
  let n := b.toNat % 128
  match ty with
  | .int32 => ((a.setWidth 32) <<< n).signExtend 64
  | _ => a <<< n

/-- SHR. -/
def shrResult (ty : Ty) (a b : W64) : W64 :=
  let n := b.toNat % 128
  match ty with
  | .int32 => ((a.setWidth 32) >>> n).signExtend 64
  | _ => a >>> n

/-- SAR. -/
def sarResult (ty : Ty) (a b : W64) : W64 :=
  let n := b.toNat % 128
  match ty with
  | .int32 => ((a.setWidth 32).sshiftRight n).signExtend 64
  | _ => a.sshiftRight n

/-- EXT: bits [p + w - 1 : p], zero-extended (R121). -/
def extResult (a : W64) (imm : W32) : W64 :=
  let p := imm.toNat % 64
  let w := imm.toNat / 256 % 128
  BitVec.ofNat 64 (a.toNat / 2 ^ p % 2 ^ w)

/-- DIV (R125, R126). -/
def divResult (ty : Ty) (a b : W64) : W64 × Bool :=
  if isReal ty then holdReal ((fmtOf ty).div (readReal ty a) (readReal ty b))
  else
    let x := readInt ty a
    let y := readInt ty b
    let hi : Int := (2 ^ (intWidth ty - 1) : Nat) - 1
    let lo : Int := -(2 ^ (intWidth ty - 1) : Nat)
    if y = 0 then (holdInt ty (if x > 0 then hi else if x < 0 then lo else 0), true)
    else if x = lo ∧ y = -1 then (holdInt ty hi, true)
    else (holdInt ty (Int.tdiv x y), false)

/-- MOD: the sign of `WA`; by zero 0 with status; the most negative by -1 gives 0, clear (R125). -/
def modResult (ty : Ty) (a b : W64) : W64 × Bool :=
  let y := readInt ty b
  if y = 0 then (0, true) else (holdInt ty (Int.tmod (readInt ty a) y), false)

/-- FMA (R121). -/
def fmaResult (ty : Ty) (a b d : W64) : W64 × Bool := holdReal ((fmtOf ty).fma (readReal ty a) (readReal ty b) (readReal ty d))

/-- SQRT. -/
def sqrtResult (ty : Ty) (a : W64) : W64 × Bool := holdReal ((fmtOf ty).sqrt (readReal ty a))

/-- A value copied in its type's layout: a real NaN becomes canonical (R126, log entry 14). -/
def copyResult (ty : Ty) (a : W64) : W64 :=
  match ty with
  | .int32 => holdInt ty (readInt ty a)
  | .real32 => BitVec.ofNat 64 (fmt32.copy (readReal ty a))
  | .real64 => BitVec.ofNat 64 (fmt64.copy (readReal ty a))
  | .bool => a &&& 1
  | _ => a

/-- The type of a 3-bit code (R116). -/
def tyOf : Nat → Option Ty
  | 0 => some .int32
  | 1 => some .int64
  | 2 => some .real32
  | 3 => some .real64
  | 4 => some .bool
  | 5 => some .time
  | _ => none

/-- The 3-bit code of a type (R116). -/
def tyCode : Ty → Nat
  | .int32 => 0
  | .int64 => 1
  | .real32 => 2
  | .real64 => 3
  | .bool => 4
  | .time => 5

/-- CVT from `ty` to `dst` (R121, R125, R126). -/
def cvtResult (ty dst : Ty) (tz : Bool) (a : W64) : W64 × Bool :=
  let toInteger (v : Int) : W64 × Bool := satResult dst v
  match isReal ty, isReal dst with
  | true, true => holdReal ((fmtOf ty).convert (fmtOf dst) tz (readReal ty a))
  | true, false =>
    match dst with
    | .bool =>
      match (fmtOf ty).decode (readReal ty a) with
      | .nan _ => (0, true)
      | .fin _ m _ => (holdBool (m != 0), false)
      | .inf _ => (1, false)
    | _ => let (v, st) := (fmtOf ty).toSigned tz (intWidth dst) (readReal ty a); (holdInt dst v, st)
  | false, true =>
    match ty with
    | .bool => holdReal ((fmtOf dst).ofInt tz (if a.toNat % 2 = 1 then 1 else 0))
    | _ => holdReal ((fmtOf dst).ofInt tz (readInt ty a))
  | false, false =>
    match ty, dst with
    | .bool, _ => (holdBool (a.toNat % 2 = 1), false)
    | _, .bool => (holdBool (readInt ty a != 0), false)
    | _, _ => toInteger (readInt ty a)

/-- The six relations. -/
inductive Rel where
  | eq
  | ne
  | lt
  | le
  | gt
  | ge
  deriving DecidableEq, Repr

/-- A relation on the sign of a difference. -/
def Rel.holds (r : Rel) (d : Int) : Bool :=
  match r with
  | .eq => decide (d = 0)
  | .ne => decide (d ≠ 0)
  | .lt => decide (d < 0)
  | .le => decide (d ≤ 0)
  | .gt => decide (d > 0)
  | .ge => decide (d ≥ 0)

/-- CEQ to CGE, signed; a NaN operand gives 1 for CNE alone (R126). -/
def compare (r : Rel) (ty : Ty) (a b : W64) : Bool :=
  match ty with
  | .bool => r.holds ((a.toNat % 2 : Nat) - (b.toNat % 2 : Nat) : Int)
  | .real32 | .real64 =>
    let f := fmtOf ty
    let x := readReal ty a
    let y := readReal ty b
    if f.isNan x || f.isNan y then r == .ne else r.holds ((f.decode x).cmp (f.decode y))
  | _ => r.holds (readInt ty a - readInt ty b)

/-- CLTU to CGEU. -/
def compareU (r : Rel) (ty : Ty) (a b : W64) : Bool := r.holds ((readNat ty a : Int) - (readNat ty b : Int))

/-! ### Point values (R46, R48): the same arithmetic on 32-bit words -/

/-- Order of two REAL32 words, none when either is a NaN. -/
def realCmp (a b : W32) : Option Int :=
  if fmt32.isNan a.toNat || fmt32.isNan b.toNat then none else some ((fmt32.decode a.toNat).cmp (fmt32.decode b.toNat))

end Sys2Proof.Machine
end

