-- ==== Sys2Proof/Config.lean ====
section
/-! DEFINITION. What the spec leaves open and what published standards define outside it: opaque constants with no body. No proof can
know a value of any of them. -/

namespace Sys2Proof.Config

/-- Free values (log entry 8): the n-th value that the spec does not state. -/
opaque freeValue : Nat → BitVec 64

/-- SHAKE256 of FIPS 202 (R406), output length in bytes (log entry 6). -/
opaque shake256 : Bytes → Nat → Bytes

/-- KMAC256 of SP 800-185 with the customisation string "OZ1-KDF" (R406): key, message with label, output length in bytes (log
entry 6). -/
opaque kmac256 : Bytes → Bytes → Nat → Bytes

/-- SLH-DSA verification of FIPS 205 (R406): public key, message, signature (log entry 6). -/
opaque slhVerify : Bytes → Bytes → Bytes → Bool

/-- SLH-DSA signing of FIPS 205, deterministic variant (R406): seed bytes of R410, message (log entry 6). -/
opaque slhSign : Bytes → Bytes → Bytes

/-- SLH-DSA key generation (R410): seeds to the 64-byte public key (log entry 6). -/
opaque slhPublic : Bytes → Bytes

/-- ML-KEM key generation (R410): d and z to the encapsulation key (log entry 6). -/
opaque mlkemPublic : Bytes → Bytes

/-- ML-KEM decapsulation of FIPS 203 with implicit rejection (R423 check 8): seeds, ciphertext (log entry 6). -/
opaque mlkemDecaps : Bytes → Bytes → Bytes

/-- AES-256-GCM encryption with a 96-bit nonce and a 128-bit tag (R406): key, nonce, additional data, plain text; gives cipher
text and tag (log entry 6). -/
opaque gcmSeal : Bytes → Bytes → Bytes → Bytes → Bytes × Bytes

/-- AES-256-GCM decryption (R406): key, nonce, additional data, cipher text, tag; none when the tag is wrong (log entry 6). -/
opaque gcmOpen : Bytes → Bytes → Bytes → Bytes → Bytes → Option Bytes

/-- AES-256 Key Wrap (R406): key, value (log entry 6). -/
opaque kwWrap : Bytes → Bytes → Bytes

/-- AES-256 Key Unwrap (R406): key, wrapped value; none when the check fails (log entry 6). -/
opaque kwUnwrap : Bytes → Bytes → Option Bytes

/-- AES-256-CMAC (R406): key, message (log entry 6). -/
opaque cmac : Bytes → Bytes → Bytes

/-- The n-th output of CTR_DRBG with AES-256 and its derivation function (R406, R407): index, length in bytes (log entry 6). -/
opaque drbg : Nat → Nat → Bytes

/-- The device secret of this part (R409). -/
opaque deviceSecret : Bytes

/-- The Yovoril root public key of this part's SR firmware (R418). -/
opaque rootKey : Bytes

/-- The SHAKE256 hash of the root public key in OTP (R403). -/
opaque rootHash : Bytes

/-- The manufacture serial number of the certificate (R479). -/
opaque serialNumber : BitVec 64

/-- The manufacturer's signature of the certificate in OTP (R409, R479). -/
opaque certificateSignature : Bytes

/-- The boot ROM that stage 1 measures (R412). -/
opaque bootRom : Bytes

/-- The digest that the image of a type installed at manufacture carries (R412; log entry 31). -/
opaque factoryDigest : Nat → Bytes

/-- One step of the 64-bit VAR signature over a run's writes (R197): signature so far, address, data. The spec gives no function
(log entry 10). -/
opaque varSigStep : BitVec 64 → BitVec 64 → BitVec 64 → BitVec 64

/-- The traffic class of a fabric queue that the model does not name, 0 Release to 4 Bulk (R31; the spec gives no queue numbers, log
entry 3). -/
opaque queueClass : Nat → Fin 5

/-- Whether a value of register 7.60 or 7.61 advertises EEE at a rate (R298): the spec gives no bits (log entry 80). -/
opaque eeeAdvertised : BitVec 16 → BitVec 2 → Bool

/-- The records that a configuration image of R452 holds, as partition, command code and request in the layouts of R479 (log
entry 7). -/
opaque configRecords : Bytes → List (BitVec 7 × Nat × Bytes)

/-- A configuration format, `CFMT`, can carry a command with its request (R453). -/
opaque carries : BitVec 16 → Nat → Bytes → Bool

end Sys2Proof.Config
end

