-- ==== Sys2Proof/Machine/State.lean ====
section
/-! DEFINITION. The state of the OZ-1 as plain data: every register, table, queue, counter and mode the spec names, one
structure per chapter, the command queue, the faults and refusals, and the state at entry into START. -/

namespace Sys2Proof.Machine

/-- A sparse table: keys strictly rising, no entry equal to what an unlisted key reads as (its default). -/
abbrev SMap (α : Type) := List (Nat × α)

/-- Byte-addressed storage: a canonical list of cells; an unlisted byte reads 0. -/
abbrev Mem := List Host.Cell

/-- Why a command stops the model. -/
inductive Fault where
  /-- Raised by a meaning whose operand names a unit that the spec says does not exist (R21: engine 34 and above, lane 9
  and above; R59: pin 48 and above; R280: queue 160 and above). Safe: no such command can arise. -/
  | noSuchUnit
  /-- Raised by a Golup meaning on a word that R120 refuses at load, so that no engine ever issues it. Safe. -/
  | illFormed
  deriving DecidableEq, Repr

/-- Why a command has no meaning. -/
inductive Refusal where
  /-- Answered by Dispatch alone for a command whose meaning is not written. Safe. -/
  | notModelled (mnemonic : String)
  deriving DecidableEq, Repr

/-! ### Time unit (R308 to R321) -/

/-- The time unit and the PPS pins. -/
structure Time where
  dtime : W64 := 0
  frac : BitVec 40 := 0
  rate : W32 := 0
  slewMax : BitVec 27 := 0
  slewRem : Int := 0
  tstate : BitVec 2 := 0
  stepped : Bool := false
  rec0 : W64 := 0
  rec1 : W64 := 0
  lockRun : Nat := 0
  srcPort : Option Port := none
  offset : Option Int := none
  ppsOut : Bool := false
  ppsFifo : List W64 := []
  ppsInvalid : W32 := 0
  ppsLast : Option W64 := none
  edges : Nat := 0
  deriving DecidableEq, Repr

/-! ### Device, supplies, clocks, resets (R339 to R371, R467, R486) -/

/-- Device states of R359. -/
inductive DState where
  | off
  | dormant
  | start
  | run
  | halt
  deriving DecidableEq, Repr

/-- Device-wide registers; `deadReset` holds the DEAD crossings whose stopped domain has been reset since (R353), `asserted` the reset
that the controller asserted last and when (R355). -/
structure Dev where
  dstate : DState := .start
  startStep : Nat := 0
  waitT1 : Bool := false
  haltTimes : List Nat := []
  haltLimit : Bool := false
  opTime : W32 := 0
  pcycle : BitVec 24 := 0
  rtc : W64 := 0
  aonPhase : BitVec 7 := 0
  vinA : Bool := true
  vinB : Bool := true
  mvA : Nat := 120
  mvB : Nat := 120
  vbat : Bool := true
  shipCell : Bool := false
  pfwLow : Bool := false
  cutoff : Bool := false
  brownOut : Option W32 := none
  pll : Bool := false
  pll0Retired : Bool := false
  pll1Retired : Bool := false
  refLost : Bool := false
  refExpired : Bool := false
  macrOnMact0 : Bool := true
  macrOnMact1 : Bool := true
  deadCrossings : List (BitVec 16 × Nat) := []
  deadReset : List (BitVec 16 × Nat) := []
  asserted : Option (Scope × W64) := none
  stateWord : W32 := 0x40000000
  changes : W32 := 0
  fwver : W32 := 0
  srver : W32 := 0
  cfmt : BitVec 16 := 0
  stat3 : Bool := false
  stat3Mark : Nat := 0
  deriving DecidableEq, Repr

/-! ### Groups of the staging stream (R33) -/

/-- Outcome of a run in its FIXED notice (R93). -/
inductive RunOutcome where
  | fixed
  | discarded
  | aborted
  deriving DecidableEq, Repr

/-- One entry of a group: what the image writer or the management path applies at an apply phase. -/
inductive Item where
  | input (point : BitVec 20) (v : W32) (bad : Bool) (ovr : Bool)
  | count48 (point : BitVec 20) (raw : BitVec 16) (width : Nat) (epoch : Byte) (bad : Bool)
  | shortField (point : BitVec 20)
  | released (point : BitVec 20) (v : W32) (good : Bool) (bad : Bool) (clamped : Bool) (forced : Bool) (interlocked : Bool)
  | status (point : BitVec 20) (clearGood : Bool)
  | interlocked (point : BitVec 20) (v : W32) (on : Bool)
  | stale (station : BitVec 13)
  | dropOut (station : BitVec 13)
  | tripState (eq : BitVec 6) (on : Bool) (task : Option (BitVec 9))
  | closed (slot : BitVec 9) (no : W32)
  | fixed (slot : BitVec 9) (no : W32) (out : RunOutcome) (events : List (BitVec 9 × BitVec 16))
  | loopsFixed (tick : W64)
  | setpoint (slot : BitVec 13) (v : W32)
  | bank (slot : BitVec 13) (b : Bool)
  | grant (entry : BitVec 13) (w : W64)
  | attr (point : BitVec 20) (ty : Byte) (w : W64)
  | limit (idx : BitVec 16) (w : W64)
  | owner (point : BitVec 20) (part : BitVec 7)
  | loopWrite (slot : BitVec 13) (part : BitVec 7) (words : List W64)
  | loopRun (slot : BitVec 13) (run : Bool)
  | loopAssign (first : Nat) (count : Nat) (part : BitVec 7)
  | loopRemove (slot : BitVec 13)
  | forceSet (part : BitVec 7) (w0 : W64) (w1 : W64) (w2 : W64)
  | forceRemove (part : BitVec 7) (w0 : W64) (w1 : W64)
  | change (part : BitVec 7) (tc : W64) (budget : W32)
  | changeCancel (part : BitVec 7)
  | roleSwap
  | lio (pin : Nat) (w : W64)
  | eqWrite (eq : BitVec 6) (words : List W64)
  | eqAck (eq : BitVec 6) (part : BitVec 7)
  deriving DecidableEq, Repr

/-- A group: entries applied at one tick; `page` names the mailbox request that presented it (R186), `arr` is the DTIME at
which it was complete, and `buf` the receive buffer whose lock it holds (R235). -/
structure Group where
  items : List Item
  page : Option (BitVec 7 × BitVec 16) := none
  arr : W64 := 0
  buf : Option Nat := none
  deriving DecidableEq, Repr

/-- An entry of a staging queue: a group or a tick token (R33, R86). -/
inductive Stage where
  | group (g : Group)
  | token (t : W64)
  deriving DecidableEq, Repr

/-- A fabric queue with its ledger (R30, R34, R356, R357). `part` entries of the first waiting group are already written
(R32); `removed` and `returned` are the consumer's wrapping counts (R34). -/
structure FQueue where
  cap : Nat := 65535
  avail : Nat := 65535
  flight : Nat := 0
  occ : Nat := 0
  removed : BitVec 16 := 0
  returned : BitVec 16 := 0
  held : List Group := []
  waiting : List Group := []
  part : Nat := 0
  turn : Nat := 0
  frozen : Bool := false
  dead : Bool := false
  armed : Bool := true
  lostAtReset : W32 := 0
  lastSeen : W32 := 0
  deriving DecidableEq, Repr

/-- The fabric: queues by ID, the region that each port of the switch served last (R26), and the input sequencer. -/
structure Fabric where
  queues : SMap FQueue := []
  served : SMap Nat := []
  nextTick : W64 := 0
  issued : BitVec 16 := 0
  taken : Nat := 0
  deriving DecidableEq, Repr

/-! ### Golup images (R89, R109 to R114, R138, R139) -/

/-- `KIND` of a task record. -/
inductive TKind where
  | cyclic
  | event
  | error
  deriving DecidableEq, Repr

/-- A task descriptor of R112 with its record of R89 and its lists of R113 resolved. -/
structure Task where
  slot : BitVec 9
  kind : TKind
  prio : Nat
  part : BitVec 7
  wdt : Nat
  entry : W32
  period : Nat
  phase : Nat
  trig : Nat
  tpoint : BitVec 20
  tlevel : W32
  vsize : Nat
  xlist : List (BitVec 20)
  outs : List (BitVec 20)
  loops : List (BitVec 13)
  events : List (BitVec 9)
  deriving DecidableEq, Repr

/-- An instance directory entry (R114). -/
structure Inst where
  iid : W32
  kind : Byte
  slot : BitVec 9
  voff : Nat
  len : Nat
  deriving DecidableEq, Repr

/-- A migration entry (R139). -/
structure Migr where
  ooff : Nat
  noff : Nat
  len : Nat
  oslot : BitVec 9
  nslot : BitVec 9
  conv : Nat
  deriving DecidableEq, Repr

/-- A retained range (R111, R445). -/
structure Retain where
  iid : W32
  off : Nat
  len : Nat
  deriving DecidableEq, Repr

/-- A loaded program image; `container` is the container that it came in, which a cold start verifies again (R363). -/
structure Program where
  part : BitVec 7
  build : W64
  edgeInit : Bool
  tasks : List Task
  funcs : List (Nat × Nat)
  code : List W64
  const : Bytes
  vinit : List (BitVec 9 × Bytes)
  insts : List Inst
  retain : List Retain
  obuild : Option W64
  drain : Nat
  migr : List Migr
  bodyLen : Nat
  minc : W64
  container : Bytes := []
  deriving DecidableEq, Repr

/-! ### Execution region (R42 to R183, R188, R197) -/

/-- Phase of a run. -/
inductive RunPhase where
  | waiting
  | exposed
  | executing
  | closed
  deriving DecidableEq, Repr

/-- A run: its exposure, its journal words (R188), the referee's second execution and the marks of R93 and R197. -/
structure Run where
  slot : BitVec 9
  no : W32
  tick : W64
  prio : Nat
  phase : RunPhase := .waiting
  header : List W64 := []
  exposure : List W64 := []
  journal : List W64 := []
  second : List W64 := []
  sig : W64 := 0
  sig2 : W64 := 0
  pre : Mem := []
  lines : List Nat := []
  refereeable : Bool := true
  forced : List (Nat × Nat × W64) := []
  engine : Nat := 0
  closedSent : Bool := false
  closedApplied : Bool := false
  decided : Bool := false
  refereeing : Bool := false
  inherited : Bool := false
  deriving DecidableEq, Repr

/-- The counters and state of a task slot (R94, R103, R105, R145). -/
structure Slot where
  runNo : W32 := 0
  pendingTrigs : W32 := 0
  heldReleases : Nat := 0
  runs : W32 := 0
  overrun : W32 := 0
  triggers : W32 := 0
  retractedOut : W32 := 0
  retractedEv : W32 := 0
  aborts : W32 := 0
  lastDuration : BitVec 48 := 0
  deriving DecidableEq, Repr

/-- A cause of R104. -/
structure Cause where
  code : BitVec 16
  param : BitVec 48
  deriving DecidableEq, Repr

/-- A partition's cause queue (R104). -/
structure CauseQ where
  items : List Cause := []
  lost : W32 := 0
  deriving DecidableEq, Repr

/-- Where an on-line change stands (R142 to R149). -/
inductive ChangePhase where
  | requested
  | draining
  | migrating
  deriving DecidableEq, Repr

/-- A change in progress. -/
structure Change where
  phase : ChangePhase
  tc : W64
  td : W64
  tf : W64
  gap : Nat
  budget : Nat
  m : Nat
  migrated : Bool := false
  deriving DecidableEq, Repr

/-- A change report (R160, R161): header words and records (type, A, B). -/
structure Report where
  result : W32
  tc : W64
  tend : W64
  gapp : BitVec 16
  budget : BitVec 16
  recs : List (BitVec 16 × W32 × W64)
  deriving DecidableEq, Repr

/-- A force entry (R154). -/
structure Force where
  part : BitVec 7
  vkey : Bool
  ty : Nat
  point : BitVec 20
  iid : W32
  voff : Nat
  fvalue : W64
  shadow : W64
  tf0 : W64
  deriving DecidableEq, Repr

/-- A loop slot (R163 to R166): owner and the 32 words of its record; `held` says that its last sample held (R175). -/
structure Loop where
  owner : BitVec 7 := 0
  words : SMap W64 := []
  held : Bool := false
  deriving DecidableEq, Repr

/-- A gathered loop sample (R170) of the loop that `owner` had then, with its journal entry (R180). It is settled once its effect
on the loop's state has been taken, `wasHeld` is whether the sample before it held, and `order` the place of the sample among the
decided ones of its tick (R181). -/
structure Sample where
  slot : BitVec 13
  tick : W64
  owner : BitVec 7 := 0
  words : SMap W64
  meas : W64
  setp : W64
  ff : W64
  outp : W64
  entry : List W64 := []
  second : List W64 := []
  lane : Nat := 0
  evaluated : Bool := false
  settled : Bool := false
  wasHeld : Bool := false
  decided : Bool := false
  discarded : Bool := false
  order : Nat := 0
  refereeing : Bool := false
  inherited : Bool := false
  noticed : Bool := false
  deriving DecidableEq, Repr

/-- A scan engine (R115, R122, R127, R198). -/
structure Engine where
  running : Bool := false
  redo : Bool := false
  slot : BitVec 9 := 0
  run : W32 := 0
  part : BitVec 7 := 0
  w : SMap W64 := []
  c : BitVec 8 := 0
  pc : W32 := 0
  stack : List W32 := []
  scr : Mem := []
  view : Mem := []
  outs : SMap (Option W32) := []
  sps : SMap (Option W32) := []
  banks : SMap (Option W32) := []
  evs : SMap (BitVec 16) := []
  faults : BitVec 16 := 0
  cyc : Nat := 0
  readyW : SMap Nat := []
  readyC : SMap Nat := []
  loadW : SMap Nat := []
  busy : List Nat := []
  sig : W64 := 0
  lines : List Nat := []
  leaving : Bool := false
  deriving DecidableEq, Repr

/-- One execution region's copy of everything that decides an output. -/
structure Region where
  image : SMap W64 := []
  stamps : SMap W32 := []
  prev : SMap W64 := []
  attr : SMap W64 := []
  limits : SMap W64 := []
  grants : SMap W64 := []
  slots : SMap Slot := []
  runs : List Run := []
  causes : SMap CauseQ := []
  denials : List (BitVec 7 × BitVec 9 × BitVec 20) := []
  programs : SMap (Option Program) := []
  waiting : SMap (Option Program) := []
  changes : SMap (Option Change) := []
  reports : SMap (Option Report) := []
  vars : SMap Mem := []
  newVars : SMap Mem := []
  forces : List Force := []
  loops : SMap Loop := []
  samples : List Sample := []
  kept : List Run := []
  keptSamples : List Sample := []
  engines : SMap Engine := []
  staging : List Stage := []
  tick : W64 := 0
  applied : BitVec 16 := 0
  prevTrig : List Nat := []
  prevCause : List Nat := []
  deriving DecidableEq, Repr

/-! ### The pair (R184 to R221) -/

/-- Region states of R184. -/
inductive RegState where
  | active
  | standby
  | out
  | testing
  | joining
  | held
  | unfit
  deriving DecidableEq, Repr

/-- A rejoin in progress (R218). -/
structure Rejoin where
  er : Er
  phase : Nat
  pass : Nat
  tj : W64 := 0
  deriving DecidableEq, Repr

/-- A referee case in progress (R198 to R202); it is expired once its result was discarded at the deadline. -/
structure Referee where
  work : WorkRef
  expired : Bool := false
  deriving DecidableEq, Repr

/-- The pair of regions; `lead` is the one that was ACTIVE when its partner joined (R219, R220). -/
structure Pair where
  stateA : RegState := .active
  stateB : RegState := .standby
  active : Er := .A
  lead : Er := .A
  switches : W32 := 0
  rejoins : W32 := 0
  referees : W32 := 0
  refdisc : W32 := 0
  tj : W64 := 0
  autoRejoin : Bool := true
  fixedMarks : SMap Nat := []
  outsA : List Nat := []
  outsB : List Nat := []
  outSinceA : W32 := 0
  outSinceB : W32 := 0
  rejoin : Option Rejoin := none
  refs : List Referee := []
  mirror : List WorkRef := []
  budgets : SMap W32 := []
  effNext : W64 := 0
  deriving DecidableEq, Repr

/-! ### Health (R203 to R216) -/

/-- States of a replaceable block (R203, R216). -/
inductive BState where
  | inService
  | spare
  | underTest
  | retired
  | isolated
  deriving DecidableEq, Repr

/-- A contact sheet entry (R216); a test under way is targeted (R204) or of the rotation (R208), whose block waits for the next
rotation once it has passed; `segments` counts the segments of a bank or code store that are under their targeted test, and `parts`
holds the spares left in a 1 MiB part of the code store where they are not four (R203). -/
structure Block where
  state : BState := .inService
  last : Nat := 2
  corr : W32 := 0
  trans : W32 := 0
  lasting : W32 := 0
  ttime : W64 := 0
  tests : W32 := 0
  spares : Byte := 0
  targeted : Bool := false
  passed : Bool := false
  segments : Nat := 0
  parts : SMap Nat := []
  deriving DecidableEq, Repr

/-- Health: blocks by block ID, the MRAM copy (R213), each fixer's known-answer bit (R212), the engine that each region's rotation
tested last (R208), and the regions that are UNFIT until the module is replaced (R501). -/
structure Health where
  blocks : SMap Block := []
  mram : SMap Block := []
  katA : Nat := 0
  katB : Nat := 0
  rotA : Nat := 0x120
  rotB : Nat := 0x2120
  unfit : List Er := []
  deriving DecidableEq, Repr

/-! ### IR: release cells, interlock, local I/O (R41, R66, R73 to R83) -/

/-- A release on its way from a fixer to a release cell (R41): one entry, or a notice (R93, R181). -/
inductive Release where
  | value (work : Option WorkRef) (point : BitVec 20) (v : W32) (nan : Bool) (clamped : Bool) (forced : Bool) (tick : W64)
  | request (work : WorkRef) (item : Item)
  deriving DecidableEq, Repr

/-- A notice of R93 or R181 on its way to a release cell. -/
inductive Notice where
  | closed (slot : BitVec 9) (no : W32)
  | fixed (slot : BitVec 9) (no : W32) (out : RunOutcome) (events : List (BitVec 9 × BitVec 16))
  | loopsFixed (tick : W64)
  deriving DecidableEq, Repr

/-- A release cell (R41, R69, R243). -/
structure Cell where
  released : Bool := false
  v : W32 := 0
  good : Bool := false
  bad : Bool := false
  clamped : Bool := false
  forced : Bool := false
  tick : W64 := 0
  lastGood : Option W32 := none
  deriving DecidableEq, Repr

/-- A rate state (R73). -/
structure Rate where
  vp : W32
  tp : W64
  deriving DecidableEq, Repr

/-- An LIO pin (R81, R82); `held` while an outside circuit holds its land against the module's drive. -/
structure Pin where
  cfg : W64 := 0
  land : Bool := false
  sync : Bool := false
  sent : Option Bool := none
  edges : W32 := 0
  overwrites : W32 := 0
  capture : Option W64 := none
  high : W32 := 0
  highNext : W32 := 0
  drive : Bool := false
  held : Bool := false
  deriving DecidableEq, Repr

/-- IR. -/
structure Ir where
  cells : SMap Cell := []
  relA : List Release := []
  relB : List Release := []
  notA : List Notice := []
  notB : List Notice := []
  rates : SMap (Option Rate) := []
  eq0 : SMap (List W64) := []
  eq1 : SMap (List W64) := []
  parity0 : W64 := 0
  parity1 : W64 := 0
  latches : W64 := 0
  disagree : SMap W32 := []
  flags : W64 := 0
  pins : SMap Pin := []
  accum : List (WorkRef × Item) := []
  firstTick : W64 := 0
  deriving DecidableEq, Repr

/-! ### Field channels (R223 to R265, R505) -/

/-- What a channel does on its bus. -/
inductive ChState where
  | stopped
  | integrating
  | running
  | exception
  | stopping
  | isolated
  deriving DecidableEq, Repr

/-- Error states of ISO 11898-1 (R250). -/
inductive ErrState where
  | active
  | passive
  | busOff
  | recovering
  deriving DecidableEq, Repr

/-- A receive buffer with its shadow (R233). -/
structure RxBuf where
  cfg : W32 := 0
  mapLock : Bool := false
  supLock : Bool := false
  buf : Option Frame := none
  shadow : Option Frame := none
  received : W32 := 0
  delivered : W32 := 0
  overwritten : W32 := 0
  deriving DecidableEq, Repr

/-- A transmit buffer (R242 to R247); its builds are numbered, so that a sent frame can be told from an earlier one (R259). -/
structure TxBuf where
  ctrl : W64 := 0
  template : Option Frame := none
  committed : Option Frame := none
  waiting : Option Frame := none
  inFlight : Bool := false
  lastRaw : Option (List Nat) := none
  builds : Nat := 0
  waitingNo : Nat := 0
  committedNo : Nat := 0
  built : W32 := 0
  sent : W32 := 0
  cancelled : W32 := 0
  failed : W32 := 0
  discarded : W32 := 0
  superseded : W32 := 0
  deriving DecidableEq, Repr

/-- Station states of R256. -/
inductive StState where
  | unconfigured
  | waiting
  | up
  | stale
  | down
  | returning
  deriving DecidableEq, Repr

/-- A supervised field station (R256 to R259, R263). -/
structure Station where
  word : W64 := 0
  state : StState := .unconfigured
  heard : Bool := false
  missed : Nat := 0
  missedTotal : W32 := 0
  dropOuts : W32 := 0
  discardedOut : W32 := 0
  heldOver : W32 := 0
  toSend : List (Nat × Nat) := []
  deriving DecidableEq, Repr

/-- What is being sent on the bus. -/
inductive Sending where
  | nothing
  | emergency (n : BitVec 3)
  | reference
  | buffer (b : BitVec 6)
  deriving DecidableEq, Repr

/-- A write of partition 0 that waits until the channel stands between two frames (R228). -/
inductive ChanWrite where
  | record (words : List W64)
  | filters (first : Nat) (entries : List (W64 × W64))
  | rxbuf (buf : Nat) (word : W32)
  | map (first : Nat) (entries : List (W64 × W64))
  | tx (buf : Nat) (ctrl : W64) (template : Frame)
  | emerg (num : Nat) (frame : Frame)
  | station (node : Nat) (word : W64)
  deriving DecidableEq, Repr

/-- A field channel. -/
structure Channel where
  record : List W64 := [0, 0, 0, 0, 0, 0, 0, 0]
  state : ChState := .stopped
  err : ErrState := .active
  tec : BitVec 9 := 0
  rxErr : Byte := 0
  filters : SMap (W64 × W64) := []
  rx : SMap RxBuf := []
  map : SMap (W64 × W64) := []
  tx : SMap TxBuf := []
  emerg : SMap (Option Frame) := []
  emergPend : Byte := 0
  emergEq : SMap Nat := []
  stations : SMap Station := []
  sending : Sending := .nothing
  otherOn : Bool := false
  cycleCount : W32 := 0
  refDue : Bool := false
  refMark : W64 := 0
  foreign : Bool := false
  nextRecord : Option (List W64) := none
  stopCause : Nat := 0
  lastSent : Option Frame := none
  sof : W64 := 0
  writes : List ChanWrite := []
  recoveries : List Nat := []
  recoverBy : Nat := 0
  counters : SMap Nat := []
  deriving DecidableEq, Repr

/-! ### Network (R266 to R338) -/

/-- Step-down states of R299. -/
inductive Step where
  | full
  | downstep
  | low
  | upstep
  deriving DecidableEq, Repr

/-- A MACsec SA (R322, R323, R325): its SC's SCI, its AN, SSCI and salt under XPN, and its next packet number. -/
structure Sa where
  receive : Bool
  sci : W64 := 0
  an : BitVec 2
  ssci : W32 := 0
  salt : Bytes := []
  pn : W64 := 1
  key : Bytes := []
  slot : Byte := 0
  deriving DecidableEq, Repr

/-- A frame on its way to a port: queue (or 160 and above for engines), class, bytes, the ID that joins its copies, the
sequence number of its PRP trailer or HSR tag, and, once its port sends it, its bytes on the lane (R291). -/
structure TxFrame where
  src : Nat
  cls : BitVec 3
  bytes : Bytes
  id : Nat
  seqNo : Option (BitVec 16) := none
  hsrPath : Option (BitVec 16) := none
  wire : Bytes := []
  deriving DecidableEq, Repr

/-- PTP portState of IEEE 1588 as far as R319 names it. -/
inductive PtpState where
  | faulty
  | listening
  | other (code : Byte)
  deriving DecidableEq, Repr

/-- A network port (R266 to R303, R315, R322). -/
structure PortS where
  record : List W64 := [0, 0, 0, 0]
  link : Bool := false
  isolated : Bool := false
  rate : BitVec 2 := 0
  step : Step := .full
  hold : Nat := 0
  pausePort : Nat := 0
  pauseCls : SMap Nat := []
  xoff : SMap Bool := []
  lpi : Bool := false
  winRx : Nat := 0
  winTx : Nat := 0
  msRx : Nat := 0
  msTx : Nat := 0
  ctrlFrames : List (BitVec 3 × BitVec 16) := []
  forwarding : List TxFrame := []
  fwdCells : Nat := 0
  rr : SMap Nat := []
  copies : List TxFrame := []
  sending : Option TxFrame := none
  counters : SMap Nat := []
  ptp : PtpState := .listening
  portDs : Bytes := []
  latency : SMap (W32 × W32) := []
  ptpRx : Bytes := []
  egress : List (W64 × W64) := []
  macsec : W32 := 0
  macWindow : W32 := 0
  cakSlot : Byte := 0
  sakSlot : Byte := 0
  kekSlot : Byte := 0
  macPrio : Byte := 0
  ckn : Bytes := []
  sas : List Sa := []
  exhausted : Bool := false
  unprotected : Bool := false
  sak : Bytes := []
  ick : Bytes := []
  kek : Bytes := []
  rekey : Bool := false
  advertised : BitVec 4 := 0
  negotiating : Bool := false
  pcs : BitVec 16 := 0
  an : BitVec 16 := 0
  deriving DecidableEq, Repr

/-- A frame waiting in a queue for a descriptor or for its reader (R287, R288). -/
structure RxFrame where
  word : W64
  bytes : Bytes
  overflow : Bool := false
  read : Bool := false
  deriving DecidableEq, Repr

/-- A network queue (R285 to R293, R304). -/
structure NQueue where
  record : List W64 := [0, 0, 0, 0, 0, 0, 0, 0]
  rxProd : Nat := 0
  rxCons : Nat := 0
  txProd : Nat := 0
  txCons : Nat := 0
  txCells : Nat := 0
  frames : List RxFrame := []
  stalled : List RxFrame := []
  pendingTx : Nat := 0
  stopped : Bool := false
  counters : SMap Nat := []
  deriving DecidableEq, Repr

/-- A Vellek station (R332 to R337). -/
structure VStation where
  record : Bytes := []
  state : StState := .unconfigured
  heard : Bool := false
  missed : Nat := 0
  accepted1 : Bool := false
  lastSeq : BitVec 16 := 0
  outSeq : BitVec 16 := 0
  held : List Item := []
  heldOver : W32 := 0
  holding : Bool := false
  returnId : Nat := 0
  counters : SMap Nat := []
  deriving DecidableEq, Repr

/-- NR and the Vellek engine. -/
structure Net where
  port0 : PortS := {}
  port1 : PortS := {}
  dups : List (BitVec 48 × BitVec 16) := []
  seqNo : BitVec 16 := 0
  notFull : Bool := false
  mgmtMsgs : W32 := 0
  nodes : List (BitVec 48) := []
  filters : SMap (W64 × W64) := []
  queues : SMap NQueue := []
  nextId : Nat := 0
  doneIds : List Nat := []
  defaultDs : Bytes := []
  timeDs : Bytes := []
  phy : SMap (BitVec 16) := []
  vellek : Bytes := []
  vstations : SMap VStation := []
  vblocks : SMap W64 := []
  vcounters : SMap Nat := []
  deriving DecidableEq, Repr

/-! ### Interrupts (R372 to R390) -/

/-- One interrupt target's registers; `bells` are the firmware doorbell bits of a region's controller (R471), at its target MC-x0. -/
structure Evc where
  ctrl : W32 := 0
  eoiErr : Bool := false
  depth : Nat := 0
  idle : Bool := true
  rpri : Nat := 0
  stack : List (Bool × Nat) := []
  pend : SMap W32 := []
  undel : SMap W32 := []
  mask : SMap W32 := []
  gcnt : SMap W32 := []
  hold : SMap W32 := []
  holding : W32 := 0
  level : SMap W32 := []
  cnt : SMap W32 := []
  request : Bool := false
  bells : List (BitVec 7) := []
  msix : List Nat := []
  deriving DecidableEq, Repr

/-- The five targets and the routes of R376: `toCores` holds, for a source, the cores that receive it (bits 0 to 3: MC-A0, MC-A1,
MC-B0, MC-B1), all four where the management firmware has written nothing (log entry 5). -/
structure Evcs where
  a0 : Evc := {}
  a1 : Evc := {}
  b0 : Evc := {}
  b1 : Evc := {}
  host : Evc := {}
  toHost : SMap Bool := []
  toCores : SMap (BitVec 4) := []
  deriving DecidableEq, Repr

/-! ### Recorder (R391 to R399) -/

/-- An event or record (R392). `valid` is its mark at 0x1C. -/
structure Record where
  code : BitVec 16 := 0
  sev : BitVec 4 := 0
  src : BitVec 4 := 0
  repeats : BitVec 16 := 0
  rsec : BitVec 16 := 0
  opTime : W32 := 0
  pcycle : BitVec 24 := 0
  p1 : W32 := 0
  p2 : W32 := 0
  p3 : W32 := 0
  rseq : BitVec 24 := 0
  deriving DecidableEq, Repr

/-- The recorder unit. -/
structure Rec where
  ring : SMap Record := []
  head : BitVec 19 := 0
  seqNo : BitVec 24 := 0
  ovwr : W32 := 0
  ovwrStart : Nat := 0
  lost : W32 := 0
  freeze : Bool := false
  rwin : Byte := 10
  sevt : BitVec 3 := 3
  frozen : Bool := false
  draining : Bool := false
  drainCause : Nat := 0
  drainCount : Nat := 0
  freezeStart : W64 := 0
  cursor : BitVec 19 := 0
  window : List W32 := [0, 0, 0, 0, 0, 0, 0, 0]
  inq : List Record := []
  holdq : List Record := []
  lostHold : Nat := 0
  lostIn : Nat := 0
  lostPower : Nat := 0
  deriving DecidableEq, Repr

/-! ### Security region (R403 to R433) -/

/-- A key slot (R415, R417). -/
structure KSlot where
  full : Bool := false
  owner : BitVec 7 := 0
  usage : BitVec 5 := 0
  gen : W32 := 0
  value : Bytes := []
  deriving DecidableEq, Repr

/-- An authority (R418). -/
structure Auth where
  key : Bytes := []
  counter : W64 := 0
  deriving DecidableEq, Repr

/-- The key journal (R424): a journalled message, and whether its commit mark is written. -/
structure Journal where
  skind : Nat
  spart : BitVec 7
  mtype : Nat
  counter : W64
  subj : BitVec 7
  authKey : Bytes
  policy : Bool
  loopEn : Bool
  ops : List (W64 × Bytes)
  committed : Bool
  deriving DecidableEq, Repr

/-- A tamper log cell of AR (R430). -/
structure TamperCell where
  cls : Nat
  sensor : Nat
  aonTime : W32
  deriving DecidableEq, Repr

/-- SR, and AR's tamper monitor and BBK; `storeKey` and `journalKey` are the keys of R414 (empty while SR holds no secret), under
which the slot store and the key journal lie in MRAM, `storeCopy` the key of the store's second copy (R454); `defects` are the
algorithms whose next known-answer test fails (R408; log entry 106). -/
structure Sr where
  slots : SMap KSlot := []
  root : Auth := {}
  owner : Auth := {}
  parts : SMap Auth := []
  mordant : Bytes := List.replicate 64 0
  meas : List Bytes := []
  m2 : Bytes := List.replicate 64 0
  storeKey : Bytes := []
  journalKey : Bytes := []
  bbk : Bool := true
  secret : Bool := false
  secretsOn : Bool := false
  secOff : Bool := false
  shut : Bool := false
  running : Bool := true
  drbgOn : Bool := false
  drbgReqs : Nat := 0
  drbgIdx : Nat := 0
  kat : W32 := 0
  defects : W32 := 0
  t1 : Bool := false
  t1Latched : Bool := false
  t1Count : BitVec 16 := 0
  t1Times : List Nat := []
  t2 : Bool := false
  tamperLog : List TamperCell := []
  policy : Bool := false
  loopEn : Bool := false
  journal : Option Journal := none
  heldPage : Option (BitVec 7) := none
  reply : Bytes := []
  announce : Option Bytes := none
  storeCopy : Option Bytes := none
  deriving DecidableEq, Repr

/-! ### Images (R436 to R459) -/

/-- Slot states of R442. -/
inductive ISlotState where
  | empty
  | ready
  | trial
  | passed
  | current
  | previous
  deriving DecidableEq, Repr

/-- An image slot (R441, R442): its state and the containers it holds, by `ITYPE`. -/
structure ISlot where
  state : ISlotState := .empty
  images : SMap Bytes := []
  deriving DecidableEq, Repr

/-- An image transfer in progress (R438, R439): its `ITYPE`, the target word of IMAGE_WRITE, and the container so far. -/
structure Transfer where
  itype : Nat
  target : Nat
  container : Bytes
  deriving DecidableEq, Repr

/-- A retain snapshot (R445, R446). -/
structure Snapshot where
  valid : Bool := false
  tick : W64 := 0
  points : List (Nat × W64 × W64 × W32) := []
  builds : List (Nat × W64) := []
  ranges : List (Nat × Retain × Bytes) := []
  loops : List (Nat × W32 × Bool) := []
  takenAt : W64 := 0
  digest : Bytes := []
  deriving DecidableEq, Repr

/-- A running update (R448 to R458): of SR or of the firmware set, and the new configuration format when it changes; the region
whose new set is on its way or on trial, the start of the trial, and each partition's FIXED_TICK when R449 bit [3] was last
checked. -/
structure Update where
  sr : Bool
  cfmt : BitVec 16 := 0
  trialOf : Option Er := none
  onTrial : Bool := false
  trialStart : W32 := 0
  lastFixed : List (Nat × Nat) := []
  formats : Bool := false
  version : W32 := 0
  deriving DecidableEq, Repr

/-- A commit to MRAM that the cutoff of R365 can hold back: a record of the configuration's change log (R452), or the rewrite of the
program directory after a flip (R444). -/
inductive Commit where
  | config (p : BitVec 7) (code : Nat) (req : Bytes)
  | flip (p : Nat) (new : Program)
  deriving DecidableEq, Repr

/-- What MRAM holds, from the cutoff of R365 on, of structures whose later changes are not yet committed: the states of the eight
image slots, the floors, the update and the sealed area. -/
structure Stored where
  states : List ISlotState
  floors : SMap W64
  update : Option Update
  complete : Option (Bool × W32)
  sealed0 : List Bytes
  sealed1 : List Bytes
  deriving DecidableEq, Repr

/-- Images and MRAM structures. -/
structure Img where
  fwA0 : ISlot := {}
  fwA1 : ISlot := {}
  fwB0 : ISlot := {}
  fwB1 : ISlot := {}
  sr0 : ISlot := {}
  sr1 : ISlot := {}
  cfg0 : ISlot := {}
  cfg1 : ISlot := {}
  floors : SMap W64 := []
  partFloors : SMap W64 := []
  transfers : SMap (Option Transfer) := []
  stores : SMap Nat := []
  retain0 : Snapshot := {}
  retain1 : Snapshot := {}
  cfgLog0 : List (BitVec 7 × Nat × Bytes) := []
  cfgLog1 : List (BitVec 7 × Nat × Bytes) := []
  update : Option Update := none
  sealed0 : List Bytes := []
  sealed1 : List Bytes := []
  half1 : Bool := false
  reload : List Er := []
  complete : Option (Bool × W32) := none
  commits : List Commit := []
  stored : Option Stored := none
  directory : SMap (Option Program) := []
  deriving DecidableEq, Repr

/-! ### Host port (R462 to R478) -/

/-- A mailbox page (R468); `rung` while a request that MBX_DOORBELL rang is open. -/
structure Page where
  busy : Bool := false
  rung : Bool := false
  valid : Bool := false
  dberr : Bool := false
  wrerr : Bool := false
  seqNo : BitVec 16 := 0
  stat : BitVec 16 := 0
  rlen : Nat := 0
  bdone : W32 := 0
  req : W32 := 0
  bctrl : W32 := 0
  boff : W32 := 0
  blen : W32 := 0
  baddr : W64 := 0
  reqBuf : Mem := []
  resp : Bytes := []
  gathered : Bytes := []
  gatherCmd : Option (Nat × Nat × Bytes) := none
  timedOut : Bool := false
  moved : Bool := false
  object : Option Bytes := none
  objFields : Bytes := []
  deriving DecidableEq, Repr

/-- HR; `doorbells` lists the pages whose request the firmware has not yet taken up, in their order of arrival (R471, R473). -/
structure Hr where
  pages : SMap Page := []
  holds : SMap W32 := []
  pcie : Bool := false
  linkUp : Bool := false
  running : Bool := true
  windows : SMap (W64 × W64) := []
  doorbells : List (BitVec 7) := []
  hostWrites : List (W64 × Bytes) := []
  msixTable : SMap W32 := []
  pba : W32 := 0
  deriving DecidableEq, Repr

/-! ### The whole -/

/-- The whole state. `pending` is the queue of commands; `free` indexes the free values (log entry 8). -/
structure State where
  pending : List Instr := []
  free : Nat := 0
  time : Time := {}
  dev : Dev := {}
  fab : Fabric := {}
  erA : Region := {}
  erB : Region := {}
  pair : Pair := {}
  health : Health := {}
  ir : Ir := {}
  chans : SMap Channel := []
  net : Net := {}
  evc : Evcs := {}
  recd : Rec := {}
  sec : Sr := {}
  img : Img := {}
  hr : Hr := {}
  deriving DecidableEq, Repr

/-- The health sheet at a cold start of a part whose every block passes: per region, engine 32 under test and engine 33
spare, lane 8 under test (R203, log entry 4), and four spare segments per bank and per part of the 32 MiB code store (R203). -/
def resetBlocks : SMap Block :=
  let per (r : Nat) : SMap Block :=
    [(r * 8192 + 0x100 + 32, { state := .underTest }), (r * 8192 + 0x100 + 33, { state := .spare }),
     (r * 8192 + 0x200 + 8, { state := .underTest })]
    ++ (List.range 64).map (fun i => (r * 8192 + 0x300 + i, { spares := 4 }))
    ++ [(r * 8192 + 0x900, { spares := 128 })]
  per 0 ++ per 1

/-- The state at entry into START (R467), every register at its reset value. -/
def State.reset : State :=
  { health := { blocks := resetBlocks, mram := resetBlocks },
    img := { fwA0 := { state := .current }, fwB0 := { state := .current }, sr0 := { state := .current }, cfg0 := { state := .current } } }

end Sys2Proof.Machine
end

