-- ==== Sys2Proof/Machine/Ops.lean ====
section
/-! DEFINITION. The named operations over tables, memories, bit fields, counters, the recorder, the interrupt targets and
the device status block, which the meanings share. -/

namespace Sys2Proof.Machine

/-- The answer of a meaning. -/
abbrev Out := Host.Outcome State Fault Refusal

/-! ### Sparse tables and memories -/

/-- What key `k` of a table reads as; an unlisted key reads as `d`. -/
def look {α : Type} (d : α) : SMap α → Nat → α
  | [], _ => d
  | (j, v) :: m, k => if j = k then v else look d m k

/-- Insert or replace key `k`, keeping the keys rising. -/
def insertKey {α : Type} : SMap α → Nat → α → SMap α
  | [], k, v => [(k, v)]
  | (j, w) :: m, k, v =>
    if k < j then (k, v) :: (j, w) :: m
    else if k = j then (k, v) :: m
    else (j, w) :: insertKey m k v

/-- Remove key `k`. -/
def dropKey {α : Type} : SMap α → Nat → SMap α
  | [], _ => []
  | (j, w) :: m, k => if j = k then m else (j, w) :: dropKey m k

/-- Write key `k`: writing the default removes the entry, so that equal tables are equal data. -/
def put {α : Type} [DecidableEq α] (d : α) (m : SMap α) (k : Nat) (v : α) : SMap α :=
  if v = d then dropKey m k else insertKey m k v

/-- The keys rise strictly from above `lo`, and no entry equals the default. -/
def wfFrom {α : Type} [DecidableEq α] (d : α) : Option Nat → SMap α → Bool
  | _, [] => true
  | lo, (j, v) :: m => (match lo with | none => true | some l => decide (l < j)) && decide (v ≠ d) && wfFrom d (some j) m

/-- The canonical form of a table. -/
def tableWf {α : Type} [DecidableEq α] (d : α) (m : SMap α) : Bool := wfFrom d none m

/-- Write several keys from `k` upward. -/
def putAll {α : Type} [DecidableEq α] (d : α) : SMap α → Nat → List α → SMap α
  | m, _, [] => m
  | m, k, v :: vs => putAll d (put d m k v) (k + 1) vs

/-- Read `n` keys from `k` upward. -/
def lookAll {α : Type} (d : α) (m : SMap α) : Nat → Nat → List α
  | _, 0 => []
  | k, n + 1 => look d m k :: lookAll d m (k + 1) n

/-- The canonical form of a memory: addresses strictly rising, no byte equal to 0. -/
def Mem.wf (m : Mem) : Bool := tableWf (0 : Byte) m

/-- One byte of a memory; an unlisted byte reads 0 (log entry 11). -/
def Mem.read (m : Mem) (a : Nat) : Byte := look 0 m a

/-- Write one byte. -/
def Mem.write (m : Mem) (a : Nat) (b : Byte) : Mem := put 0 m a b

/-- Read `n` bytes from `a` upward. -/
def Mem.readBytes (m : Mem) (a n : Nat) : Bytes := lookAll 0 m a n

/-- Write bytes from `a` upward. -/
def Mem.writeBytes (m : Mem) (a : Nat) (bs : Bytes) : Mem := putAll 0 m a bs

/-! ### Bytes and bit fields (R4 to R6) -/

/-- The little-endian value of bytes (R6). -/
def leNat : Bytes → Nat
  | [] => 0
  | b :: bs => b.toNat + 256 * leNat bs

/-- `n` bytes of a value, little-endian (R6). -/
def leBytes : Nat → Nat → Bytes
  | 0, _ => []
  | n + 1, v => BitVec.ofNat 8 v :: leBytes n (v / 256)

/-- The value of bytes in network order (R6). -/
def beNat (bs : Bytes) : Nat := bs.foldl (fun a b => a * 256 + b.toNat) 0

/-- `n` bytes of a value in network order (R6). -/
def beBytes (n v : Nat) : Bytes := (leBytes n v).reverse

/-- Bits [hi:lo] of a word as a number. -/
def bits {w : Nat} (x : BitVec w) (hi lo : Nat) : Nat := (x.toNat / 2 ^ lo) % 2 ^ (hi + 1 - lo)

/-- Bit [n] of a word. -/
def bit {w : Nat} (x : BitVec w) (n : Nat) : Bool := x.toNat.testBit n

/-- A word with bits [hi:lo] replaced. -/
def setBits {w : Nat} (x : BitVec w) (hi lo v : Nat) : BitVec w :=
  BitVec.ofNat w (x.toNat - bits x hi lo * 2 ^ lo + (v % 2 ^ (hi + 1 - lo)) * 2 ^ lo)

/-- A word with bit [n] set to `b`. -/
def setBit {w : Nat} (x : BitVec w) (n : Nat) (b : Bool) : BitVec w := setBits x n n b.toNat

/-- Bytes `off` to `off + n - 1` of a structure, as a little-endian number. -/
def fieldLE (bs : Bytes) (off n : Nat) : Nat := leNat ((bs.drop off).take n)

/-- A byte string cut or padded with zeros to `n` bytes. -/
def fitBytes (n : Nat) (bs : Bytes) : Bytes := (bs ++ List.replicate (n - bs.length) 0).take n

/-- The first n elements of a list, filled up with a default. -/
def fitList {α : Type} (d : α) (n : Nat) (l : List α) : List α := (l ++ List.replicate (n - l.length) d).take n

/-- Overwrite part of a byte string in place. -/
def patchBytes (bs : Bytes) (off : Nat) (new : Bytes) : Bytes :=
  fitBytes off bs ++ new ++ bs.drop (off + new.length)

/-- A list with element `n` replaced. -/
def setAt {α : Type} (l : List α) (n : Nat) (v : α) : List α := l.set n v

/-- The little-endian bytes of 64-bit words. -/
def wordBytes (ws : List W64) : Bytes := ws.flatMap (fun w => leBytes 8 w.toNat)

/-- The 64-bit words of little-endian bytes, `n` of them. -/
def bytesWords : Nat → Bytes → List W64
  | 0, _ => []
  | n + 1, bs => BitVec.ofNat 64 (leNat (bs.take 8)) :: bytesWords n (bs.drop 8)

/-! ### Counters (R13) -/

/-- The larger of two words. -/
def larger {w : Nat} (a b : BitVec w) : BitVec w := if a.toNat < b.toNat then b else a

/-- Kind S: counts up to its maximum and stays there. -/
def satAdd {w : Nat} (c : BitVec w) (k : Nat) : BitVec w := BitVec.ofNat w (min (c.toNat + k) (2 ^ w - 1))

/-- Kind S by one. -/
def satInc {w : Nat} (c : BitVec w) : BitVec w := satAdd c 1

/-- Kind S in `w` bits, held as a number. -/
def satNat (w c k : Nat) : Nat := min (c + k) (2 ^ w - 1)

/-- Kind W or H in `w` bits, held as a number. -/
def wrapNat (w c k : Nat) : Nat := (c + k) % 2 ^ w

/-- Kind H: bit [w - 1] changed between two values, so a half-range event is raised (R13). -/
def halfEvent (w old new : Nat) : Bool := old.testBit (w - 1) != new.testBit (w - 1)

/-! ### Access to the parts of the state -/

/-- Write the time unit. -/
def State.setTime (s : State) (v : Time) : State := { s with time := v }
/-- Write the device-wide registers. -/
def State.setDev (s : State) (v : Dev) : State := { s with dev := v }
/-- Write the fabric. -/
def State.setFab (s : State) (v : Fabric) : State := { s with fab := v }
/-- Write the pair. -/
def State.setPair (s : State) (v : Pair) : State := { s with pair := v }
/-- Write the health records. -/
def State.setHealth (s : State) (v : Health) : State := { s with health := v }
/-- Write IR. -/
def State.setIr (s : State) (v : Ir) : State := { s with ir := v }
/-- Write NR. -/
def State.setNet (s : State) (v : Net) : State := { s with net := v }
/-- Write the interrupt targets. -/
def State.setEvc (s : State) (v : Evcs) : State := { s with evc := v }
/-- Write the recorder. -/
def State.setRecd (s : State) (v : Rec) : State := { s with recd := v }
/-- Write SR. -/
def State.setSec (s : State) (v : Sr) : State := { s with sec := v }
/-- Write the images. -/
def State.setImg (s : State) (v : Img) : State := { s with img := v }
/-- Write HR. -/
def State.setHr (s : State) (v : Hr) : State := { s with hr := v }

/-- One execution region's copy. -/
def State.region (s : State) : Er → Region
  | .A => s.erA
  | .B => s.erB

/-- Write one execution region's copy. -/
def State.setRegion (s : State) (er : Er) (r : Region) : State :=
  match er with
  | .A => { s with erA := r }
  | .B => { s with erB := r }

/-- The other execution region. -/
def otherEr : Er → Er
  | .A => .B
  | .B => .A

/-- The region number of R21. -/
def erNum : Er → Nat
  | .A => 0
  | .B => 1

/-- A channel's registers. -/
def State.chan (s : State) (c : Nat) : Channel := look {} s.chans c

/-- Write a channel's registers. -/
def State.setChan (s : State) (c : Nat) (v : Channel) : State := { s with chans := put {} s.chans c v }

/-- A network port. -/
def State.port (s : State) : Port → PortS
  | .np0 => s.net.port0
  | .np1 => s.net.port1

/-- Write a network port. -/
def State.setPort (s : State) (p : Port) (v : PortS) : State :=
  match p with
  | .np0 => { s with net := { s.net with port0 := v } }
  | .np1 => { s with net := { s.net with port1 := v } }

/-- A mailbox page. -/
def State.page (s : State) (p : BitVec 7) : Page := look {} s.hr.pages p.toNat

/-- Write a mailbox page. -/
def State.setPage (s : State) (p : BitVec 7) (v : Page) : State :=
  { s with hr := { s.hr with pages := put {} s.hr.pages p.toNat v } }

/-- A contact sheet entry. -/
def State.block (s : State) (b : Nat) : Block := look {} s.health.blocks b

/-- Write a contact sheet entry. -/
def State.setBlock (s : State) (b : Nat) (v : Block) : State :=
  { s with health := { s.health with blocks := put {} s.health.blocks b v } }

/-- Domains other than AON run (R359). -/
def State.powered (s : State) : Bool :=
  match s.dev.dstate with
  | .off => false
  | .dormant => false
  | _ => true

/-- A command that acts only while the domains run: in OFF and DORMANT nothing but AON runs (R359). -/
def whenPowered (s t : State) : Out := if s.powered then .next t else .next s

/-- The current tick: 10 us intervals of DTIME (R20, R84). -/
def State.nowTick (s : State) : Nat := s.time.dtime.toNat / 10000

/-- The current tick t meets (t - phase) mod period = 0; never with a period of 0. -/
def State.atPhase (s : State) (period phase : Nat) : Bool := period != 0 && s.nowTick % period == phase % period

/-- Tick [31:0], the parameter of most records. -/
def State.tick32 (s : State) : W32 := BitVec.ofNat 32 s.nowTick

/-- A region state of one region. -/
def State.regState (s : State) : Er → RegState
  | .A => s.pair.stateA
  | .B => s.pair.stateB

/-- Write a region's state. -/
def State.setRegState (s : State) (er : Er) (v : RegState) : State :=
  match er with
  | .A => { s with pair := { s.pair with stateA := v } }
  | .B => { s with pair := { s.pair with stateB := v } }

/-- ACTIVE and STANDBY are in service (R184). -/
def RegState.inService : RegState → Bool
  | .active => true
  | .standby => true
  | _ => false

/-- A region in service. -/
def State.serving (s : State) (er : Er) : Bool := (s.regState er).inService

/-- DUPLEX: both regions are in service (R185). -/
def State.duplex (s : State) : Bool := s.serving .A && s.serving .B

/-- Write one interrupt target. -/
def State.setTarget (s : State) (t : Target) (v : Evc) : State :=
  match t with
  | .a0 => { s with evc := { s.evc with a0 := v } }
  | .a1 => { s with evc := { s.evc with a1 := v } }
  | .b0 => { s with evc := { s.evc with b0 := v } }
  | .b1 => { s with evc := { s.evc with b1 := v } }
  | .host => { s with evc := { s.evc with host := v } }

/-- One interrupt target. -/
def State.target (s : State) : Target → Evc
  | .a0 => s.evc.a0
  | .a1 => s.evc.a1
  | .b0 => s.evc.b0
  | .b1 => s.evc.b1
  | .host => s.evc.host

/-! ### Interrupt sources (R372 to R377) -/

/-- The bit of a core in a route (log entry 5). -/
def coreBit : Target → Nat
  | .a0 => 0
  | .a1 => 1
  | .b0 => 2
  | .b1 => 3
  | .host => 0

/-- Whether source `n` routes to a target: sources 32 to 287 to HOST and never to a core (R376; log entry 5). -/
def routed (e : Evcs) (t : Target) (n : Nat) : Bool :=
  match t with
  | .host => decide (32 ≤ n ∧ n ≤ 287) || look false e.toHost n
  | t => !decide (32 ≤ n ∧ n ≤ 287) && (look 0xF e.toCores n).getLsbD (coreBit t)

/-- Whether a source routes to any target: one that routes to none is never delivered (R376). -/
def routedAnywhere (e : Evcs) (n : Nat) : Bool := [Target.a0, .a1, .b0, .b1, .host].any (fun t => routed e t n)

/-- One event of source `n` at one target, `k` events of a counter crossing together (R377). -/
def eventAt (e : Evc) (isRouted : Bool) (n k : Nat) : Evc :=
  let g := n / 32
  let one (m : SMap W32) : SMap W32 := put 0 m g (setBit (look 0 m g) (n % 32) true)
  { e with
    pend := one e.pend
    cnt := put 0 e.cnt n (look 0 e.cnt n + BitVec.ofNat 32 k)
    gcnt := if isRouted then put 0 e.gcnt g (look 0 e.gcnt g + BitVec.ofNat 32 k) else e.gcnt
    undel := if isRouted then one e.undel else e.undel }

/-- `k` events of source `n` at every target (R377). -/
def raiseBy (s : State) (n k : Nat) : State :=
  let e := s.evc
  s.setEvc { e with
    a0 := eventAt e.a0 (routed e .a0 n) n k
    a1 := eventAt e.a1 (routed e .a1 n) n k
    b0 := eventAt e.b0 (routed e .b0 n) n k
    b1 := eventAt e.b1 (routed e .b1 n) n k
    host := eventAt e.host (routed e .host n) n k }

/-- One event of source `n`. -/
def raise (s : State) (n : Nat) : State := raiseBy s n 1

/-- Raise the source when the condition holds. -/
def raiseIf (b : Bool) (n : Nat) (s : State) : State := if b then raise s n else s

/-! ### Recorder submission (R391 to R399) -/

/-- The severity of a code (R393, R435, R461, R482): 4 CRITICAL, 3 ERROR, 2 WARNING, 1 NOTICE, 0 INFO. -/
def severity (code : Nat) : Nat :=
  if code ∈ [0x2403, 0x5405, 0x6102, 0x6103, 0x6302] then 4
  else if code ∈ [0x1103, 0x1201, 0x1504, 0x2101, 0x2102, 0x2106, 0x2107, 0x210A, 0x210B, 0x210C, 0x2401, 0x2402, 0x2501,
      0x3102, 0x3104, 0x3106, 0x4107, 0x4108, 0x4302, 0x4402, 0x4403, 0x5101, 0x5102, 0x5103, 0x5201, 0x5202, 0x5403,
      0x5404, 0x6105, 0x6301, 0x7103, 0x7204, 0x7206, 0x8105] then 3
  else if code ∈ [0x1101, 0x1102, 0x1104, 0x1105, 0x1203, 0x1204, 0x1301, 0x1402, 0x1403, 0x1404, 0x1502, 0x1503, 0x2103,
      0x2104, 0x2601, 0x3101, 0x3105, 0x3201, 0x4101, 0x4105, 0x4106, 0x4201, 0x4304, 0x4501, 0x4502, 0x5203, 0x5401,
      0x6101, 0x6104, 0x6202, 0x7102, 0x7105, 0x8102, 0x8103, 0x8104] then 2
  else if code ∈ [0x1202, 0x1401, 0x1405, 0x1406, 0x2105, 0x2108, 0x2109, 0x2602, 0x2603, 0x3103, 0x3107, 0x3202, 0x3203,
      0x4102, 0x4301, 0x4303, 0x4503, 0x5301, 0x5402, 0x6201, 0x6203, 0x7101, 0x7104, 0x7201, 0x7202, 0x7203, 0x7205] then 1
  else 0

/-- An event as it is submitted: no repeats, and its sequence given when it is written (R392). -/
def mkRecord (s : State) (src code : Nat) (p1 p2 p3 : W32) : Record :=
  { code := BitVec.ofNat 16 code, sev := BitVec.ofNat 4 (severity code), src := BitVec.ofNat 4 src,
    opTime := s.dev.opTime, pcycle := s.dev.pcycle, p1 := p1, p2 := p2, p3 := p3 }

/-- The tests of R395 for merging event `e`, arriving at operating time `now`, into record `r`. -/
def mergeable (rwin : Byte) (now : W32) (r e : Record) : Bool :=
  r.code == e.code && r.src == e.src && r.p1 == e.p1 && r.p2 == e.p2 && r.p3 == e.p3 && r.pcycle == e.pcycle
    && rwin != 0 && decide (now.toNat - (r.opTime.toNat + r.rsec.toNat) ≤ rwin.toNat)
    && decide (r.repeats.toNat < 65535) && decide (now.toNat - r.opTime.toNat ≤ 65535)

/-- The record with one more occurrence merged into it (R395). -/
def mergeOne (now : W32) (r : Record) : Record :=
  { r with repeats := satInc r.repeats, rsec := BitVec.ofNat 16 (now.toNat - r.opTime.toNat) }

/-- Put an event into the holding queue, merging it with the newest entry where R395 allows (R399). -/
def holdEvent (now : W32) (r : Rec) (e : Record) : Rec × Bool :=
  match r.holdq.getLast? with
  | some l =>
    if mergeable r.rwin now l e then ({ r with holdq := r.holdq.dropLast ++ [mergeOne now l] }, false)
    else if r.holdq.length ≥ 256 then ({ r with lostHold := r.lostHold + 1, lost := satInc r.lost }, true)
    else ({ r with holdq := r.holdq ++ [e] }, decide (r.holdq.length + 1 ≥ 256))
  | none => ({ r with holdq := [e] }, false)

/-- Put an event into the input queue, or count it (R396). -/
def queueEvent (cutoff : Bool) (r : Rec) (e : Record) : Rec × Bool :=
  if cutoff then ({ r with lostPower := r.lostPower + 1, lost := satInc r.lost }, false)
  else if r.inq.length ≥ 1024 then ({ r with lostIn := r.lostIn + 1, lost := satInc r.lost }, true)
  else ({ r with inq := r.inq ++ [e] }, decide (r.inq.length + 1 ≥ 1024))

/-- Submit an event to the recorder (R391, R396, R399); source 612 when a queue is full (R400). -/
def record (s : State) (src code : Nat) (p1 p2 p3 : W32) : State :=
  let e := mkRecord s src code p1 p2 p3
  let (r, full) := if s.recd.frozen && !s.dev.cutoff then holdEvent s.dev.opTime s.recd e else queueEvent s.dev.cutoff s.recd e
  raiseIf full 612 (s.setRecd r)

/-- An event code of one of the areas that R401 uses, 0x1 to 0x8, from a free value. -/
def legalCode (w : W64) : Nat := (1 + bits w 15 12 % 8) * 2 ^ 12 + bits w 11 0

/-- Submit the event of an error for which the spec names no code: the code, of an area of R401, and its parameters are free values
(log entry 73). -/
def recordOpen (s : State) (src : Nat) : State :=
  let f (k : Nat) : W64 := Config.freeValue (s.free + k)
  record { s with free := s.free + 4 } src (legalCode (f 0)) ((f 1).setWidth 32) ((f 2).setWidth 32) ((f 3).setWidth 32)

/-- Submit an event whose parameters are numbers. -/
def recordN (s : State) (src code p1 p2 p3 : Nat) : State :=
  record s src code (BitVec.ofNat 32 p1) (BitVec.ofNat 32 p2) (BitVec.ofNat 32 p3)

/-- Submit an event whose third parameter is the tick. -/
def recordT (s : State) (src code p1 p2 : Nat) : State := record s src code (BitVec.ofNat 32 p1) (BitVec.ofNat 32 p2) s.tick32

/-! ### Device status block (R467) -/

/-- `DSTATE` codes, in the order of R359. -/
def DState.code : DState → Nat
  | .off => 0
  | .dormant => 1
  | .start => 2
  | .run => 3
  | .halt => 4

/-- Region state codes of R184. -/
def RegState.code : RegState → Nat
  | .active => 0
  | .standby => 1
  | .out => 2
  | .testing => 3
  | .joining => 4
  | .held => 5
  | .unfit => 6

/-- `MODE` of R467: 0 DUPLEX, 1 SIMPLEX. -/
def State.mode (s : State) : Nat := if s.duplex then 0 else 1

/-- `BSTATE`: ER-B enters START as STANDBY and reads the Reset column's 0 until a step of the start names its state (R19, R467;
log entry 18). -/
def bstate (s : State) : Nat := if s.dev.dstate = .start ∧ s.pair.stateB = .standby then 0 else s.pair.stateB.code

/-- `DEV_STATE` as the state stands; at entry into START its `UPD` is 0, for an update that a start interrupts ends there (R443, R467). -/
def devState (s : State) : W32 :=
  BitVec.ofNat 32 (s.dev.dstate.code * 2 ^ 29 + s.mode * 2 ^ 28 + erNum s.pair.active * 2 ^ 27 + s.pair.stateA.code * 2 ^ 24
    + bstate s * 2 ^ 21 + s.time.tstate.toNat * 2 ^ 19 + s.sec.secOff.toNat * 2 ^ 18 + (s.img.update.isSome && s.dev.dstate != .start).toNat * 2 ^ 17)

/-- Bring `DEV_STATE` up to date; a change counts in `CHANGES` and raises source 15 (R467, R374). -/
def syncDev (s : State) : State :=
  let w := devState s
  if w = s.dev.stateWord then s
  else raise (s.setDev { s.dev with stateWord := w, changes := s.dev.changes + 1 }) 15

/-- Write one of the three version words; each change counts and raises source 15 (R467). -/
def setVersions (s : State) (fw sr : W32) (cf : BitVec 16) : State :=
  let k := (if fw = s.dev.fwver then 0 else 1) + (if sr = s.dev.srver then 0 else 1) + (if cf = s.dev.cfmt then 0 else 1)
  if k = 0 then s
  else raiseBy (s.setDev { s.dev with fwver := fw, srver := sr, cfmt := cf, changes := s.dev.changes + BitVec.ofNat 32 k }) 15 k

/-! ### Free values -/

/-- The next free value and the state after taking it (log entry 8). -/
def State.takeFree (s : State) : W64 × State := (Config.freeValue s.free, { s with free := s.free + 1 })

end Sys2Proof.Machine
end

