-- ==== Sys2Proof/Machine/Requests.lean ====
section
/-! DEFINITION. The requests of the mailbox (R479): the layout of their fields, their lengths and issuers, the code and the bytes that each
command spells, and when a page holds a command's request. -/

namespace Sys2Proof.Machine

/-! ### Layout and lengths -/

/-- Request fields with their sizes in the layout of R479: each starts at the next multiple of its size, or of 8. -/
def layoutFrom (at_ : Nat) : List (Nat × Nat) → Bytes
  | [] => []
  | (n, v) :: fs =>
    let a := min (max n 1) 8
    let pad := (a - at_ % a) % a
    List.replicate pad 0 ++ leBytes n v ++ layoutFrom (at_ + pad + n) fs

/-- Request fields laid out from the start of the request. -/
def layout (fs : List (Nat × Nat)) : Bytes := layoutFrom 0 fs

/-- Words as layout fields. -/
def words8 (ws : List W64) : List (Nat × Nat) := ws.map (fun w => (8, w.toNat))

/-- Bytes as layout fields. -/
def raw (bs : Bytes) : List (Nat × Nat) := bs.map (fun b => (1, b.toNat))

/-- Two-word entries as layout fields. -/
def pairWords (es : List (W64 × W64)) : List (Nat × Nat) := es.flatMap (fun e => [(8, e.1.toNat), (8, e.2.toNat)])

/-- The fixed request bytes of a command, and whether data may follow them; none for a code that is not in R479. -/
def requestLen (cmd : Nat) : Option (Nat × Bool) :=
  (table.find? (fun x => x.1 == cmd)).map Prod.snd
where
  /-- Group 0x01 and 0x02. -/
  t1 : List (Nat × Nat × Bool) :=
    [(0x0101, 0, false), (0x0102, 0, false), (0x0103, 0, false), (0x0104, 4, false), (0x0105, 4, false), (0x0106, 4, false),
      (0x0107, 0, false), (0x0108, 8, false), (0x0109, 4, false), (0x010A, 4, false), (0x0201, 16, false), (0x0202, 4, false),
      (0x0203, 8, false), (0x0204, 24, false), (0x0205, 12, false), (0x0206, 8, false)]
  /-- Groups 0x03 and 0x04. -/
  t2 : List (Nat × Nat × Bool) :=
    [(0x0301, 0, true), (0x0302, 8, false), (0x0303, 0, false), (0x0304, 0, false), (0x0305, 0, false), (0x0401, 8, false),
      (0x0402, 12, false), (0x0403, 16, false), (0x0404, 4, false), (0x0405, 16, false), (0x0406, 24, false), (0x0407, 16, false),
      (0x0408, 0, false), (0x0409, 104, false), (0x040A, 4, false), (0x040B, 4, false), (0x040C, 16, false)]
  /-- Groups 0x05 and 0x06. -/
  t3 : List (Nat × Nat × Bool) :=
    [(0x0501, 72, false), (0x0502, 16, true), (0x0503, 12, false), (0x0504, 16, true), (0x0505, 16, true), (0x0506, 8, true),
      (0x0507, 16, false), (0x0508, 4, false), (0x0509, 4, false), (0x050A, 8, false), (0x050B, 12, true), (0x050C, 12, false),
      (0x050D, 64, false), (0x050E, 72, false), (0x050F, 8, true), (0x0510, 4, false), (0x0511, 4, false), (0x0601, 200, false),
      (0x0602, 4, false), (0x0603, 8, false), (0x0604, 8, false), (0x0605, 8, false), (0x0606, 4, false)]
  /-- Groups 0x07 and 0x08. -/
  t4 : List (Nat × Nat × Bool) :=
    [(0x0701, 40, false), (0x0702, 64, false), (0x0703, 8, true), (0x0704, 72, false), (0x0705, 4, false), (0x0706, 4, false),
      (0x0707, 4, false), (0x0708, 8, true), (0x0709, 12, false), (0x070A, 16, false), (0x070B, 16, false), (0x070C, 4, false),
      (0x070D, 8, true), (0x070E, 16, false), (0x070F, 56, false), (0x0801, 8, false), (0x0802, 0, false), (0x0803, 0, false)]
  /-- Groups 0x09 and 0x0A. -/
  t5 : List (Nat × Nat × Bool) :=
    [(0x0901, 8, true), (0x0902, 4, false), (0x0903, 0, false), (0x0904, 0, false), (0x0905, 0, false), (0x0A01, 0, false),
      (0x0A02, 0, true), (0x0A03, 40, false), (0x0A04, 8, true), (0x0A05, 0, true), (0x0A06, 40, true), (0x0A07, 4, false),
      (0x0A08, 8, false), (0x0A09, 0, false), (0x0A0A, 0, false)]
  /-- Every command. -/
  table : List (Nat × Nat × Bool) := t1 ++ t2 ++ t3 ++ t4 ++ t5

/-- Commands that partition 0 alone may issue (R479). -/
def ownerOnly (cmd : Nat) : Bool :=
  decide (0x0102 ≤ cmd ∧ cmd ≤ 0x0109) || cmd == 0x0201 || decide (0x0203 ≤ cmd ∧ cmd ≤ 0x0206) || decide (0x0403 ≤ cmd ∧ cmd ≤ 0x0405)
    || decide (0x0409 ≤ cmd ∧ cmd ≤ 0x040C) || decide (0x0501 ≤ cmd ∧ cmd ≤ 0x0511) || decide (0x0701 ≤ cmd ∧ cmd ≤ 0x0703)
    || decide (0x0709 ≤ cmd ∧ cmd ≤ 0x070F) || decide (0x0801 ≤ cmd ∧ cmd ≤ 0x0803) || decide (0x0901 ≤ cmd ∧ cmd ≤ 0x0905)
    || cmd == 0x0A09 || cmd == 0x0A0A

/-- Commands whose object is a container, which goes straight into its slot (R475). -/
def takesContainer (cmd : Nat) : Bool := cmd == 0x0901 || cmd == 0x0301

/-! ### The request that each command spells -/

/-- A request: its code and its bytes. -/
abbrev Request := Nat × Bytes

/-- DEVICE_INFO -/
def Req.deviceInfo : Request := (0x0101, [])

/-- CONTACT_SHEET -/
def Req.contactSheet : Request := (0x0102, [])

/-- HEALTH_CLEAR -/
def Req.healthClear : Request := (0x0103, [])

/-- AUTO_REJOIN -/
def Req.autoRejoin (en : W32) : Request := (0x0104, layout [(4, en.toNat)])

/-- REJOIN -/
def Req.rejoin (region : W32) : Request := (0x0105, layout [(4, region.toNat)])

/-- REGION_OUT -/
def Req.regionOut (region : W32) : Request := (0x0106, layout [(4, region.toNat)])

/-- ROLE_SWAP -/
def Req.roleSwap : Request := (0x0107, [])

/-- ROUTE -/
def Req.route (source toHost : W32) : Request := (0x0108, layout [(4, source.toNat), (4, toHost.toNat)])

/-- LOST_AT_RESET -/
def Req.lostAtReset (qid : W32) : Request := (0x0109, layout [(4, qid.toNat)])

/-- TASK_COUNTERS -/
def Req.taskCounters (slot : W32) : Request := (0x010A, layout [(4, slot.toNat)])

/-- GRANT_WRITE -/
def Req.grantWrite (entry : W32) (w : W64) : Request := (0x0201, layout [(4, entry.toNat), (8, w.toNat)])

/-- GRANT_READ -/
def Req.grantRead (entry : W32) : Request := (0x0202, layout [(4, entry.toNat)])

/-- PARTITION_SET -/
def Req.partitionSet (part budget : W32) : Request := (0x0203, layout [(4, part.toNat), (4, budget.toNat)])

/-- DMA_WINDOW -/
def Req.dmaWindow (part : W32) (base len : W64) : Request := (0x0204, layout [(4, part.toNat), (8, base.toNat), (8, len.toNat)])

/-- LOOP_ASSIGN -/
def Req.loopAssign (first count part : W32) : Request := (0x0205, layout [(4, first.toNat), (4, count.toNat), (4, part.toNat)])

/-- POINT_OWNER -/
def Req.pointOwner (point owner : W32) : Request := (0x0206, layout [(4, point.toNat), (4, owner.toNat)])

/-- PROGRAM_LOAD -/
def Req.programLoad (container : Bytes) : Request := (0x0301, container)

/-- CHANGE -/
def Req.change (tc : W64) : Request := (0x0302, layout [(8, tc.toNat)])

/-- CHANGE_CANCEL -/
def Req.changeCancel : Request := (0x0303, [])

/-- CHANGE_REPORT -/
def Req.changeReport : Request := (0x0304, [])

/-- PROGRAM_INFO -/
def Req.programInfo : Request := (0x0305, [])

/-- POINT_READ -/
def Req.pointRead (first count : W32) : Request := (0x0401, layout [(4, first.toNat), (4, count.toNat)])

/-- VAR_READ -/
def Req.varRead (iid off len : W32) : Request := (0x0402, layout [(4, iid.toNat), (4, off.toNat), (4, len.toNat)])

/-- ATTR_WRITE -/
def Req.attrWrite (point ty : W32) (attr : W64) : Request := (0x0403, layout [(4, point.toNat), (4, ty.toNat), (8, attr.toNat)])

/-- ATTR_READ -/
def Req.attrRead (point : W32) : Request := (0x0404, layout [(4, point.toNat)])

/-- LIMIT_WRITE -/
def Req.limitWrite (idx : W32) (entry : W64) : Request := (0x0405, layout [(4, idx.toNat), (8, entry.toNat)])

/-- FORCE_SET -/
def Req.forceSet (w0 w1 w2 : W64) : Request := (0x0406, layout (words8 [w0, w1, w2]))

/-- FORCE_REMOVE -/
def Req.forceRemove (w0 w1 : W64) : Request := (0x0407, layout (words8 [w0, w1]))

/-- FORCE_LIST -/
def Req.forceList : Request := (0x0408, [])

/-- INTERLOCK_WRITE -/
def Req.interlockWrite (eq : W32) (record : List W64) : Request := (0x0409, layout ((4, eq.toNat) :: words8 record))

/-- INTERLOCK_ACK -/
def Req.interlockAck (eq : W32) : Request := (0x040A, layout [(4, eq.toNat)])

/-- INTERLOCK_READ -/
def Req.interlockRead (eq : W32) : Request := (0x040B, layout [(4, eq.toNat)])

/-- LIO_CONFIG -/
def Req.lioConfig (pin : W32) (w : W64) : Request := (0x040C, layout [(4, pin.toNat), (8, w.toNat)])

/-- CHANNEL_WRITE -/
def Req.channelWrite (c : W32) (record : List W64) : Request := (0x0501, layout ((4, c.toNat) :: words8 record))

/-- FILTER_WRITE -/
def Req.filterWrite (c first : W32) (filters : List (W64 × W64)) : Request :=
  (0x0502, layout ([(4, c.toNat), (4, first.toNat), (4, filters.length)] ++ pairWords filters))

/-- RXBUF_CONFIG -/
def Req.rxbufConfig (c buf w : W32) : Request := (0x0503, layout [(4, c.toNat), (4, buf.toNat), (4, w.toNat)])

/-- MAPPING_WRITE -/
def Req.mappingWrite (c first : W32) (entries : List (W64 × W64)) : Request :=
  (0x0504, layout ([(4, c.toNat), (4, first.toNat), (4, entries.length)] ++ pairWords entries))

/-- TXBUF_WRITE -/
def Req.txbufWrite (c buf : W32) (w t0 t1 : W64) (data : Bytes) : Request :=
  (0x0505, layout ([(4, c.toNat), (4, buf.toNat), (8, w.toNat), (8, t0.toNat), (8, t1.toNat)] ++ raw data))

/-- EMERGENCY_WRITE -/
def Req.emergencyWrite (c num : W32) (h0 h1 h2 : W64) (data : Bytes) : Request :=
  (0x0506, layout ([(4, c.toNat), (4, num.toNat), (8, h0.toNat), (8, h1.toNat), (8, h2.toNat)] ++ raw data))

/-- STATION_WRITE -/
def Req.stationWrite (c node : W32) (w : W64) : Request := (0x0507, layout [(4, c.toNat), (4, node.toNat), (8, w.toNat)])

/-- CHANNEL_RECOVER -/
def Req.channelRecover (c : W32) : Request := (0x0508, layout [(4, c.toNat)])

/-- TM_RESTART -/
def Req.tmRestart (c : W32) : Request := (0x0509, layout [(4, c.toNat)])

/-- RAW_FRAME_READ -/
def Req.rawFrameRead (c buf : W32) : Request := (0x050A, layout [(4, c.toNat), (4, buf.toNat)])

/-- RAW_FRAME_SEND -/
def Req.rawFrameSend (c buf len : W32) (data : Bytes) : Request :=
  (0x050B, layout ([(4, c.toNat), (4, buf.toNat), (4, len.toNat)] ++ raw data))

/-- CHANNEL_COUNTERS -/
def Req.channelCounters (c kind idx : W32) : Request := (0x050C, layout [(4, c.toNat), (4, kind.toNat), (4, idx.toNat)])

/-- VELLEK_WRITE -/
def Req.vellekWrite (record : Bytes) : Request := (0x050D, layout [(64, leNat record)])

/-- VSTATION_WRITE -/
def Req.vstationWrite (st : W32) (record : Bytes) : Request := (0x050E, layout [(4, st.toNat), (64, leNat record)])

/-- VBLOCK_WRITE -/
def Req.vblockWrite (first : W32) (entries : List W64) : Request :=
  (0x050F, layout ([(4, first.toNat), (4, entries.length)] ++ words8 entries))

/-- VSTATION_COUNTERS -/
def Req.vstationCounters (st : W32) : Request := (0x0510, layout [(4, st.toNat)])

/-- STATION_STATE -/
def Req.stationState (st : W32) : Request := (0x0511, layout [(4, st.toNat)])

/-- LOOP_WRITE -/
def Req.loopWrite (slot : W32) (record : List W64) : Request := (0x0601, layout ((4, slot.toNat) :: words8 record))

/-- LOOP_READ -/
def Req.loopRead (slot : W32) : Request := (0x0602, layout [(4, slot.toNat)])

/-- LOOP_RUN -/
def Req.loopRun (slot run : W32) : Request := (0x0603, layout [(4, slot.toNat), (4, run.toNat)])

/-- LOOP_SETPOINT -/
def Req.loopSetpoint (slot v : W32) : Request := (0x0604, layout [(4, slot.toNat), (4, v.toNat)])

/-- LOOP_BANK -/
def Req.loopBank (slot bank : W32) : Request := (0x0605, layout [(4, slot.toNat), (4, bank.toNat)])

/-- LOOP_REMOVE -/
def Req.loopRemove (slot : W32) : Request := (0x0606, layout [(4, slot.toNat)])

/-- PORT_WRITE -/
def Req.portWrite (port : W32) (record : List W64) : Request := (0x0701, layout ((4, port.toNat) :: words8 record))

/-- PAIR_WRITE -/
def Req.pairWrite (r0 r1 : List W64) : Request := (0x0702, layout (words8 (r0 ++ r1)))

/-- NFILTER_WRITE -/
def Req.nfilterWrite (first : W32) (entries : List (W64 × W64)) : Request :=
  (0x0703, layout ([(4, first.toNat), (4, entries.length)] ++ pairWords entries))

/-- QUEUE_WRITE -/
def Req.queueWrite (q : W32) (record : List W64) : Request := (0x0704, layout ((4, q.toNat) :: words8 record))

/-- QUEUE_COUNTERS -/
def Req.queueCounters (q : W32) : Request := (0x0705, layout [(4, q.toNat)])

/-- FRAME_READ -/
def Req.frameRead (q : W32) : Request := (0x0706, layout [(4, q.toNat)])

/-- FRAME_RETURN -/
def Req.frameReturn (q : W32) : Request := (0x0707, layout [(4, q.toNat)])

/-- FRAME_SEND -/
def Req.frameSend (q pcp : W32) (data : Bytes) : Request := (0x0708, layout [(4, q.toNat), (4, pcp.toNat)] ++ data)

/-- PHY_READ -/
def Req.phyRead (port mmd reg : W32) : Request := (0x0709, layout [(4, port.toNat), (4, mmd.toNat), (4, reg.toNat)])

/-- PHY_WRITE -/
def Req.phyWrite (port mmd reg v : W32) : Request := (0x070A, layout [(4, port.toNat), (4, mmd.toNat), (4, reg.toNat), (4, v.toNat)])

/-- TIME_WRITE -/
def Req.timeWrite (r0 r1 : W64) : Request := (0x070B, layout (words8 [r0, r1]))

/-- PTP_READ -/
def Req.ptpRead (ds : W32) : Request := (0x070C, layout [(4, ds.toNat)])

/-- PTP_WRITE -/
def Req.ptpWrite (ds : W32) (data : Bytes) : Request := (0x070D, layout [(4, ds.toNat), (data.length, leNat data)])

/-- LATENCY_WRITE -/
def Req.latencyWrite (port lmode ingress egress : W32) : Request :=
  (0x070E, layout [(4, port.toNat), (4, lmode.toNat), (4, ingress.toNat), (4, egress.toNat)])

/-- MACSEC_CONFIG -/
def Req.macsecConfig (port options window slot prio cknLen : W32) (ckn : Bytes) : Request :=
  (0x070F, layout ([(4, port.toNat), (4, options.toNat), (4, window.toNat), (4, slot.toNat), (4, prio.toNat), (4, cknLen.toNat)] ++ raw ckn))

/-- REC_READ -/
def Req.recRead (slot count : W32) : Request := (0x0801, layout [(4, slot.toNat), (4, count.toNat)])

/-- REC_FREEZE -/
def Req.recFreeze : Request := (0x0802, [])

/-- REC_THAW -/
def Req.recThaw : Request := (0x0803, [])

/-- IMAGE_WRITE -/
def Req.imageWrite (target : W32) (container : Bytes) : Request := (0x0901, leBytes 4 target.toNat ++ container)

/-- UPDATE_START -/
def Req.updateStart (kind : W32) : Request := (0x0902, layout [(4, kind.toNat)])

/-- UPDATE_CONTINUE -/
def Req.updateContinue : Request := (0x0903, [])

/-- UPDATE_CANCEL -/
def Req.updateCancel : Request := (0x0904, [])

/-- SLOT_STATUS -/
def Req.slotStatus : Request := (0x0905, [])

/-- IDENTITY -/
def Req.identity : Request := (0x0A01, [])

/-- KEY_UPDATE -/
def Req.keyUpdate (msg : Bytes) : Request := (0x0A02, msg)

/-- ATTEST -/
def Req.attest (flags slot : W32) (nonce : Bytes) : Request := (0x0A03, layout ([(4, flags.toNat), (4, slot.toNat)] ++ raw nonce))

/-- SEAL -/
def Req.seal (slot sel : W32) (data : Bytes) : Request := (0x0A04, layout [(4, slot.toNat), (4, sel.toNat)] ++ data)

/-- UNSEAL -/
def Req.unseal (blob : Bytes) : Request := (0x0A05, blob)

/-- PMAC -/
def Req.pmac (slot verify : W32) (tag data : Bytes) : Request := (0x0A06, layout ([(4, slot.toNat), (4, verify.toNat)] ++ raw tag) ++ data)

/-- RANDOM -/
def Req.random (len : W32) : Request := (0x0A07, layout [(4, len.toNat)])

/-- SLOT_INFO -/
def Req.slotInfo (first count : W32) : Request := (0x0A08, layout [(4, first.toNat), (4, count.toNat)])

/-- SR_STATUS -/
def Req.srStatus : Request := (0x0A09, [])

/-- SELFTEST -/
def Req.selftest : Request := (0x0A0A, [])

/-- The page and the request of a mailbox command. -/
def requestOf : Instr → Option (BitVec 7 × Request)
  | .deviceInfo p => some (p, Req.deviceInfo)
  | .contactSheet p => some (p, Req.contactSheet)
  | .healthClear p => some (p, Req.healthClear)
  | .autoRejoin p en => some (p, Req.autoRejoin en)
  | .rejoin p region => some (p, Req.rejoin region)
  | .regionOut p region => some (p, Req.regionOut region)
  | .roleSwap p => some (p, Req.roleSwap)
  | .route p source toHost => some (p, Req.route source toHost)
  | .lostAtReset p qid => some (p, Req.lostAtReset qid)
  | .taskCounters p slot => some (p, Req.taskCounters slot)
  | .grantWrite p entry w => some (p, Req.grantWrite entry w)
  | .grantRead p entry => some (p, Req.grantRead entry)
  | .partitionSet p part budget => some (p, Req.partitionSet part budget)
  | .dmaWindow p part base len => some (p, Req.dmaWindow part base len)
  | .loopAssign p first count part => some (p, Req.loopAssign first count part)
  | .pointOwner p point owner => some (p, Req.pointOwner point owner)
  | .programLoad p container => some (p, Req.programLoad container)
  | .change p tc => some (p, Req.change tc)
  | .changeCancel p => some (p, Req.changeCancel)
  | .changeReport p => some (p, Req.changeReport)
  | .programInfo p => some (p, Req.programInfo)
  | .pointRead p first count => some (p, Req.pointRead first count)
  | .varRead p iid off len => some (p, Req.varRead iid off len)
  | .attrWrite p point ty attr => some (p, Req.attrWrite point ty attr)
  | .attrRead p point => some (p, Req.attrRead point)
  | .limitWrite p idx entry => some (p, Req.limitWrite idx entry)
  | .forceSet p w0 w1 w2 => some (p, Req.forceSet w0 w1 w2)
  | .forceRemove p w0 w1 => some (p, Req.forceRemove w0 w1)
  | .forceList p => some (p, Req.forceList)
  | .interlockWrite p eq record => some (p, Req.interlockWrite eq record)
  | .interlockAck p eq => some (p, Req.interlockAck eq)
  | .interlockRead p eq => some (p, Req.interlockRead eq)
  | .lioConfig p pin w => some (p, Req.lioConfig pin w)
  | .channelWrite p c record => some (p, Req.channelWrite c record)
  | .filterWrite p c first filters => some (p, Req.filterWrite c first filters)
  | .rxbufConfig p c buf w => some (p, Req.rxbufConfig c buf w)
  | .mappingWrite p c first entries => some (p, Req.mappingWrite c first entries)
  | .txbufWrite p c buf w t0 t1 data => some (p, Req.txbufWrite c buf w t0 t1 data)
  | .emergencyWrite p c num h0 h1 h2 data => some (p, Req.emergencyWrite c num h0 h1 h2 data)
  | .stationWrite p c node w => some (p, Req.stationWrite c node w)
  | .channelRecover p c => some (p, Req.channelRecover c)
  | .tmRestart p c => some (p, Req.tmRestart c)
  | .rawFrameRead p c buf => some (p, Req.rawFrameRead c buf)
  | .rawFrameSend p c buf len data => some (p, Req.rawFrameSend c buf len data)
  | .channelCounters p c kind idx => some (p, Req.channelCounters c kind idx)
  | .vellekWrite p record => some (p, Req.vellekWrite record)
  | .vstationWrite p st record => some (p, Req.vstationWrite st record)
  | .vblockWrite p first entries => some (p, Req.vblockWrite first entries)
  | .vstationCounters p st => some (p, Req.vstationCounters st)
  | .stationState p st => some (p, Req.stationState st)
  | .loopWrite p slot record => some (p, Req.loopWrite slot record)
  | .loopRead p slot => some (p, Req.loopRead slot)
  | .loopRun p slot run => some (p, Req.loopRun slot run)
  | .loopSetpoint p slot v => some (p, Req.loopSetpoint slot v)
  | .loopBank p slot bank => some (p, Req.loopBank slot bank)
  | .loopRemove p slot => some (p, Req.loopRemove slot)
  | .portWrite p port record => some (p, Req.portWrite port record)
  | .pairWrite p r0 r1 => some (p, Req.pairWrite r0 r1)
  | .nfilterWrite p first entries => some (p, Req.nfilterWrite first entries)
  | .queueWrite p q record => some (p, Req.queueWrite q record)
  | .queueCounters p q => some (p, Req.queueCounters q)
  | .frameRead p q => some (p, Req.frameRead q)
  | .frameReturn p q => some (p, Req.frameReturn q)
  | .frameSend p q pcp data => some (p, Req.frameSend q pcp data)
  | .phyRead p port mmd reg _ => some (p, Req.phyRead port mmd reg)
  | .phyWrite p port mmd reg v => some (p, Req.phyWrite port mmd reg v)
  | .timeWrite p r0 r1 => some (p, Req.timeWrite r0 r1)
  | .ptpRead p ds => some (p, Req.ptpRead ds)
  | .ptpWrite p ds data => some (p, Req.ptpWrite ds data)
  | .latencyWrite p port lmode ingress egress => some (p, Req.latencyWrite port lmode ingress egress)
  | .macsecConfig p port options window slot prio cknLen ckn => some (p, Req.macsecConfig port options window slot prio cknLen ckn)
  | .recRead p slot count => some (p, Req.recRead slot count)
  | .recFreeze p => some (p, Req.recFreeze)
  | .recThaw p => some (p, Req.recThaw)
  | .imageWrite p target container => some (p, Req.imageWrite target container)
  | .updateStart p kind => some (p, Req.updateStart kind)
  | .updateContinue p => some (p, Req.updateContinue)
  | .updateCancel p => some (p, Req.updateCancel)
  | .slotStatus p => some (p, Req.slotStatus)
  | .identity p => some (p, Req.identity)
  | .keyUpdate p msg => some (p, Req.keyUpdate msg)
  | .attest p flags slot nonce => some (p, Req.attest flags slot nonce)
  | .seal p slot sel data => some (p, Req.seal slot sel data)
  | .unseal p blob => some (p, Req.unseal blob)
  | .pmac p slot verify tag data => some (p, Req.pmac slot verify tag data)
  | .random p len => some (p, Req.random len)
  | .slotInfo p first count => some (p, Req.slotInfo first count)
  | .srStatus p => some (p, Req.srStatus)
  | .selftest p _ => some (p, Req.selftest)
  | _ => none

/-! ### What a page holds -/

/-- `BULK`. -/
def Page.bulk (pg : Page) : Bool := bit pg.bctrl 31
/-- `BDIR`: device to host. -/
def Page.toHost (pg : Page) : Bool := bit pg.bctrl 30
/-- `SEGM`. -/
def Page.segm (pg : Page) : Bool := bit pg.bctrl 29
/-- `CMD`. -/
def Page.cmd (pg : Page) : Nat := bits pg.req 31 16

/-- A host-to-device object is on its way by DMA (R474). -/
def Page.moving (pg : Page) : Bool := pg.busy && pg.bulk && !pg.toHost && !pg.segm && !pg.moved

/-- A page holds a request whole: its `CMD`, its fields from 0x040 on, and after them its data, or the object that has been gathered
for it (R470, R474, R475). -/
def Page.holds (pg : Page) (q : Request) : Bool :=
  pg.cmd == q.1 && !pg.moving &&
    if pg.bulk && !pg.toHost then
      let n := ((requestLen q.1).map Prod.fst).getD 0
      pg.reqBuf.readBytes 0x40 n == q.2.take n && pg.gathered == q.2.drop n
    else pg.reqBuf.readBytes 0x40 (bits pg.req 10 0) == q.2

end Sys2Proof.Machine
end

