-- ==== Sys2Proof/Machine/Mailbox.lean ====
section
/-! DEFINITION. What every mailbox command shares: the statuses, the answer, the request that a page holds, the issuer, the objects and the
configuration log (R186, R352, R452, R470 to R481). -/

namespace Sys2Proof.Machine

/-! ### Mailbox responses (R470, R481) -/

/-- Status codes of R481. -/
inductive Stat where
  | ok
  | segmentOk
  | unknownCommand
  | badLength
  | reservedSet
  | outOfRange
  | denied
  | notFound
  | refused
  | conflict
  | noSpace
  | admission
  | ackRefused
  | macMismatch
  | windowFault
  | dmaFailed
  | noDma
  | segmentError
  | segmentTimeout
  | needsBulk
  | unavailable
  | tamperAbort
  | secretsOff
  | powerWarning
  deriving DecidableEq, Repr

/-- The numbers of R481. -/
def Stat.code : Stat → BitVec 16
  | .ok => 0x0000
  | .segmentOk => 0x0001
  | .unknownCommand => 0x0010
  | .badLength => 0x0011
  | .reservedSet => 0x0012
  | .outOfRange => 0x0013
  | .denied => 0x0020
  | .notFound => 0x0021
  | .refused => 0x0030
  | .conflict => 0x0031
  | .noSpace => 0x0032
  | .admission => 0x0033
  | .ackRefused => 0x0034
  | .macMismatch => 0x0035
  | .windowFault => 0x0040
  | .dmaFailed => 0x0041
  | .noDma => 0x0042
  | .segmentError => 0x0043
  | .segmentTimeout => 0x0044
  | .needsBulk => 0x0045
  | .unavailable => 0x0050
  | .tamperAbort => 0x0051
  | .secretsOff => 0x0052
  | .powerWarning => 0x0053

/-- The firmware has taken a doorbell: its bit is clear, and the request falls with the last reason for it (R471; log entry 100). -/
def Evc.answered (e : Evc) (p : BitVec 7) : Evc :=
  if e.bells.contains p then
    let l := e.bells.filter (fun q => q != p)
    { e with bells := l, request := e.request && (e.depth != 0 || !l.isEmpty) }
  else e

/-- A host-to-device object ends with its request, and what has been gathered is gone (R475); a copy that the host reads is kept
(R476). -/
def Page.ended (x : Page) (st : Stat) : Page :=
  if st = .segmentOk ∨ x.object.isSome then x else { x with gatherCmd := none, gathered := [] }

/-- Complete page `p`'s request: response, `MBX_RESP`, `BUSY` 0 and `VALID` 1, then source 32 + p (R470). -/
def complete (s : State) (p : BitVec 7) (st : Stat) (data : Bytes) : State :=
  let pg := (s.page p).ended st
  let s := s.setPage p { pg with resp := data.take 2048, stat := st.code, rlen := min data.length 2048, busy := false, rung := false, valid := true }
  let s := s.setEvc { s.evc with a0 := s.evc.a0.answered p, b0 := s.evc.b0.answered p }
  raise (s.setHr { s.hr with doorbells := s.hr.doorbells.filter (fun q => q != p) }) (32 + p.toNat)

/-- A request that is turned away: one detail word (R481). -/
def turnAway (s : State) (p : BitVec 7) (st : Stat) (detail : Nat := 0) : State := complete s p st (leBytes 4 detail)

/-- A request that is answered OK. -/
def answer (s : State) (p : BitVec 7) (data : Bytes := []) : State := complete s p .ok data

/-- The firmware has this request of page p to act on (R473 to R475, R479): the one that MBX_DOORBELL rang, once the page holds it whole
and every request rung before it that is not still on its way has been taken up. A page that is not rung is taken as holding it
(log entry 121). -/
def State.asks (s : State) (p : BitVec 7) (q : Request) : Bool :=
  !(s.page p).rung ||
    (s.hr.doorbells.contains p && (s.page p).holds q && (s.hr.doorbells.takeWhile (fun k => k != p)).all (fun k => (s.page k).moving))

/-- The firmware takes up the request that was rung on page p (R473). -/
def State.takeUp (s : State) (p : BitVec 7) : State :=
  if (s.page p).rung then s.setHr { s.hr with doorbells := s.hr.doorbells.filter (fun k => k != p) } else s

/-- What a mailbox command meets before its own checks: a powered part, its request, HR running, an issuer that R479 allows. -/
def serve (s : State) (p : BitVec 7) (q : Request) (allowed : Bool) (t : State) : Out :=
  if !s.powered || !s.asks p q then .next s
  else if !s.hr.running then .next (turnAway s p .unavailable)
  else if !allowed then .next (turnAway s p .denied)
  else .next (t.takeUp p)

/-- The DMA range of a request of `n` bytes lies wholly within the partition's window (R474). -/
def dmaInWindow (s : State) (p : BitVec 7) (n : Nat) : Bool :=
  let w := look (0, 0) s.hr.windows p.toNat
  let a := (s.page p).baddr.toNat
  decide (w.1.toNat ≤ a ∧ a + n ≤ w.1.toNat + w.2.toNat)

/-- A DMA range outside the window (R474, R482). -/
def dmaFault (s : State) (p : BitVec 7) : State :=
  let pg := s.page p
  turnAway (recordN s (erNum s.pair.active) 0x8103 p.toNat pg.cmd (bits pg.baddr 43 12)) p .windowFault

/-- Answer with response fields and an object that moves as bulk data when the request asks for it (R474, R476): as a copy
read in segments, or by DMA, which BULK_DMA_COMPLETE ends. Otherwise the object must fit the response buffer. -/
def answerObject (s : State) (p : BitVec 7) (fields obj : Bytes) : State :=
  let pg := s.page p
  let n := obj.length
  let part := obj.take (2048 - fields.length)
  if !pg.bulk || !pg.toHost then
    if fields.length + n ≤ 2048 then answer s p (fields ++ obj) else turnAway s p .needsBulk n
  else if pg.segm then
    answer (s.setPage p { pg with object := some obj, objFields := fields, gatherCmd := some (pg.cmd, 0, []), blen := BitVec.ofNat 32 n, bdone := BitVec.ofNat 32 part.length }) p (fields ++ part)
  else if !s.hr.pcie then turnAway s p .noDma
  else if !dmaInWindow s p n then dmaFault s p
  else s.setPage p { pg with object := some obj, objFields := fields, blen := BitVec.ofNat 32 n, bdone := 0, busy := true, valid := false }

/-- The CURRENT configuration slot. -/
def cfgCurrent1 (g : Img) : Bool := g.cfg1.state == .current

/-- Carry out a commit (R440, R444, R452, R453): a log record goes to the log of the CURRENT configuration slot, and to both logs
while an update runs across formats; a flip lets the program directory name the new image and the partition's floor rise. -/
def Img.commit (g : Img) : Commit → Img
  | .config p code req =>
    let both := (g.update.map Update.formats).getD false
    let one := cfgCurrent1 g
    let g := if !one || both then { g with cfgLog0 := g.cfgLog0 ++ [(p, code, req)] } else g
    if one || both then { g with cfgLog1 := g.cfgLog1 ++ [(p, code, req)] } else g
  | .flip p new =>
    if look none g.directory p = some new then g
    else { g with
      directory := put none g.directory p (some new)
      stores := put 0 g.stores p (1 - look 0 g.stores p)
      partFloors := put 0 g.partFloors p (larger (look 0 g.partFloors p) new.minc) }

/-- A commit to MRAM: after the cutoff of R365 none begins, and it waits for the end of the warning. -/
def State.commit (s : State) (c : Commit) : State :=
  s.setImg (if s.dev.cutoff then { s.img with commits := s.img.commits ++ [c] } else s.img.commit c)

/-- Append an accepted configuration command of partition p to the change log (R452, R453). -/
def logConfig (s : State) (p : BitVec 7) (code : Nat) (req : Bytes) : State := s.commit (.config p code req)

/-- While an update runs across formats, either one must be able to carry a configuration command (R453; log entry 7). -/
def carriable (s : State) (code : Nat) (req : Bytes) : Bool :=
  match s.img.update with
  | some u => !u.formats || (Config.carries s.dev.cfmt code req && Config.carries u.cfmt code req)
  | none => true

/-- A configuration command that is accepted in state s, with effect t, and answered at once. -/
def acceptConfig (s t : State) (p : BitVec 7) (q : Request) : State :=
  if carriable s q.1 q.2 then answer (logConfig t p q.1 q.2) p else turnAway s p .refused

/-- The region of a clock domain that lies in one region (R339, R352): MGMT HR's, SEC SR's, FBUS FR's, MACT and MACR NR's, AON AR's. -/
def domainRegion (domain : Nat) : Nat :=
  if domain = 2 then 6 else if domain = 3 then 5 else if domain = 4 then 2 else if 5 ≤ domain ∧ domain ≤ 7 then 3 else if domain = 8 then 7
  else 4

/-- A crossing into a region is DEAD, so that its requests are refused (R352): a queue's, by its ID, or one that is no queue. -/
def crossingDead (s : State) (region : Nat) : Bool :=
  s.dev.deadCrossings.any (fun d =>
    if d.1 = 0xFFFF then domainRegion d.2 == region else bits d.1 15 13 == region || bits d.1 12 10 == region)

/-- A crossing between HR and the management cores is DEAD (R478). -/
def mailboxDead (s : State) : Bool :=
  s.dev.deadCrossings.any (fun d =>
    if d.1 = 0xFFFF then d.2 == 2
    else (bits d.1 15 13 == 6 && decide (bits d.1 12 10 < 2)) || (bits d.1 12 10 == 6 && decide (bits d.1 15 13 < 2)))

/-- A mailbox command of a region's objects: UNAVAILABLE while its crossing is DEAD (R352, R481). -/
def serveIn (region : Nat) (s : State) (p : BitVec 7) (q : Request) (allowed : Bool) (t : State) : Out :=
  serve s p q allowed (if crossingDead s region then turnAway s p .unavailable else t)

/-- Partition 0 alone may issue the command (R479). -/
def owner0 (p : BitVec 7) : Bool := p == 0

end Sys2Proof.Machine
end

