-- ==== Sys2Proof/WellFormed.lean ====
section
/-! DEFINITION. Which commands are well formed: the units they name exist (R21, R59, R280), and a Golup word passes the
checks that R120 makes on a word alone. -/

namespace Sys2Proof

/-- "integer" of R121. -/
def Ty.integer : Ty → Bool
  | .int32 => true
  | .int64 => true
  | .time => true
  | _ => false

/-- "real" of R121. -/
def Ty.real : Ty → Bool
  | .real32 => true
  | .real64 => true
  | _ => false

/-- "numeric" of R121. -/
def Ty.numeric (t : Ty) : Bool := t.integer || t.real

/-- INT32 or INT64. -/
def Ty.word : Ty → Bool
  | .int32 => true
  | .int64 => true
  | _ => false

/-- INT32, INT64 or BOOL. -/
def Ty.bitwise (t : Ty) : Bool := t.word || t == .bool

/-- INT32 or REAL32. -/
def Ty.narrow : Ty → Bool
  | .int32 => true
  | .real32 => true
  | _ => false

/-- The engine exists (R21). -/
def EngId.exists (e : EngId) : Bool := decide (e.n < 34)

/-- A function block other than RAMP takes `TY` 0b000 (R121). -/
def FFields.plain (f : FFields) : Bool := f.ty == .int32

/-- A line load fills W8, W16 or W24 upward (R120). -/
def MFields.loadOk (f : MFields) : Bool := f.sz != .line || f.wd == 8 || f.wd == 16 || f.wd == 24

/-- A store has no line size and goes to VAR or SCR (R120, R121). -/
def MFields.storeOk (f : MFields) : Bool := f.sz != .line && (f.sp == .var || f.sp == .scr)

/-- EXT: p + w at most 64 (R121). -/
def OFields.extOk (f : OFields) : Bool := decide (f.imm.toNat % 64 + f.imm.toNat / 256 % 128 ≤ 64)

/-- CVT names a type of R116 in `IMM`[2:0]. -/
def OFields.cvtOk (f : OFields) : Bool := decide (f.imm.toNat % 8 < 6)

/-- MUX: `IMM` from 1 to 32 - b (R121). -/
def OFields.muxOk (f : OFields) : Bool := decide (1 ≤ f.imm.toNat ∧ f.imm.toNat + f.wb.toNat ≤ 32)

/-- A branch target is a multiple of 8 (R120). -/
def BFields.targetOk (f : BFields) : Bool := decide (f.tgt.toNat % 8 = 0)

/-- The checks on one command. -/
def Instr.wf : Instr → Bool
  | .runDispatch e | .watchdogAbort e => e.exists
  | .mov e _ | .sel e _ => e.exists
  | .movu e f => e.exists && f.ty == .int64 && f.im
  | .movh e f => e.exists && f.ty == .int64
  | .add e f | .sub e f | .negW e f | .absW e f | .minW e f | .maxW e f | .mul e f | .div e f => e.exists && f.ty.numeric
  | .adds e f | .subs e f | .muls e f | .modW e f => e.exists && f.ty.integer
  | .andW e f | .orW e f | .xorW e f | .andn e f | .notW e f => e.exists && f.ty.bitwise
  | .shl e f | .shr e f | .sar e f => e.exists && f.ty.word
  | .ext e f => e.exists && f.ty == .int64 && f.extOk
  | .fma e f | .sqrt e f => e.exists && f.ty.real
  | .cvt e f => e.exists && f.cvtOk
  | .limit e f => e.exists && f.ty.numeric && f.wb != 31
  | .scale e f => e.exists && f.ty.narrow && f.wb != 31
  | .mux e f => e.exists && f.muxOk
  | .ceq e f | .cne e f | .clt e f | .cle e f | .cgt e f | .cge e f => e.exists && (f.ty.numeric || f.ty == .bool)
  | .cltu e f | .cleu e f | .cgtu e f | .cgeu e f => e.exists && f.ty.word
  | .btst e f => e.exists && f.ty == .int64
  | .clog e f | .movc e f | .rdf e f => e.exists && f.ty == .int32
  | .ld e f => e.exists && f.loadOk
  | .st e f => e.exists && f.storeOk
  | .br e f | .call e f => e.exists && f.targetOk
  | .ret e _ | .endRun e _ => e.exists
  | .out e _ | .lsp e _ | .lbank e _ | .event e _ => e.exists
  | .ton e f | .tof e f | .tp e f | .ctu e f | .ctd e f | .ctud e f | .rtrig e f | .ftrig e f | .sr e f | .rs e f =>
    e.exists && f.plain
  | .ramp e f => e.exists && f.ty.narrow && decide (f.wb.toNat ≤ 29)
  | .refereeHandover _ (.run _ _) unit => decide (unit < 34)
  | .refereeHandover _ (.sample _ _) unit => decide (unit < 9)
  | .loopSample _ lane => decide (lane < 9)
  | .lioLevelChange pin _ | .pwmPeriodStart pin => decide (pin < 48)
  | .receiveDescriptorWait q _ | .transmitFetch q _ => decide (q < 160)
  | _ => true

end Sys2Proof
end

