-- ==== Sys2Proof/Decode.lean ====
section
/-! DEFINITION. Sys2Proof.decodeTableWord (the opcode table gives no row any bits), and the Golup instruction words of R117
and R121: their decoder, which the loader's checks use, and their encoder. -/

namespace Sys2Proof

/-- No row of the opcode table has bits, so no word spells a command. -/
def decodeTableWord (_nbits _w : Nat) : Option Instr := none

namespace Golup

open Sys2Proof.Machine

/-- Format O opcodes (R121). -/
def instrO (e : EngId) (f : OFields) : Nat → Option Instr
  | 0x01 => some (.mov e f)
  | 0x02 => some (.movu e f)
  | 0x03 => some (.movh e f)
  | 0x08 => some (.add e f)
  | 0x09 => some (.sub e f)
  | 0x0A => some (.adds e f)
  | 0x0B => some (.subs e f)
  | 0x0C => some (.negW e f)
  | 0x0D => some (.absW e f)
  | 0x0E => some (.minW e f)
  | 0x0F => some (.maxW e f)
  | 0x10 => some (.andW e f)
  | 0x11 => some (.orW e f)
  | 0x12 => some (.xorW e f)
  | 0x13 => some (.andn e f)
  | 0x14 => some (.notW e f)
  | 0x15 => some (.shl e f)
  | 0x16 => some (.shr e f)
  | 0x17 => some (.sar e f)
  | 0x18 => some (.ext e f)
  | 0x20 => some (.mul e f)
  | 0x21 => some (.muls e f)
  | 0x22 => some (.div e f)
  | 0x23 => some (.modW e f)
  | 0x24 => some (.fma e f)
  | 0x25 => some (.sqrt e f)
  | 0x30 => some (.cvt e f)
  | 0x31 => some (.limit e f)
  | 0x32 => some (.scale e f)
  | 0x33 => some (.mux e f)
  | 0x34 => some (.sel e f)
  | 0x38 => some (.ceq e f)
  | 0x39 => some (.cne e f)
  | 0x3A => some (.clt e f)
  | 0x3B => some (.cle e f)
  | 0x3C => some (.cgt e f)
  | 0x3D => some (.cge e f)
  | 0x3E => some (.cltu e f)
  | 0x3F => some (.cleu e f)
  | 0x40 => some (.cgtu e f)
  | 0x41 => some (.cgeu e f)
  | 0x42 => some (.btst e f)
  | 0x43 => some (.clog e f)
  | 0x44 => some (.movc e f)
  | 0x45 => some (.rdf e f)
  | _ => none

/-- Format M opcodes. -/
def instrM (e : EngId) (f : MFields) : Nat → Option Instr
  | 0x50 => some (.ld e f)
  | 0x51 => some (.st e f)
  | _ => none

/-- Format B opcodes. -/
def instrB (e : EngId) (f : BFields) : Nat → Option Instr
  | 0x60 => some (.br e f)
  | 0x61 => some (.call e f)
  | 0x62 => some (.ret e f)
  | 0x63 => some (.endRun e f)
  | _ => none

/-- Format J opcodes. -/
def instrJ (e : EngId) (f : JFields) : Nat → Option Instr
  | 0x70 => some (.out e f)
  | 0x71 => some (.lsp e f)
  | 0x72 => some (.lbank e f)
  | 0x73 => some (.event e f)
  | _ => none

/-- Format F opcodes. -/
def instrF (e : EngId) (f : FFields) : Nat → Option Instr
  | 0x80 => some (.ton e f)
  | 0x81 => some (.tof e f)
  | 0x82 => some (.tp e f)
  | 0x84 => some (.ctu e f)
  | 0x85 => some (.ctd e f)
  | 0x86 => some (.ctud e f)
  | 0x88 => some (.rtrig e f)
  | 0x89 => some (.ftrig e f)
  | 0x8A => some (.sr e f)
  | 0x8B => some (.rs e f)
  | 0x8C => some (.ramp e f)
  | _ => none

/-- The access size of a code (R117). -/
def szOf : Nat → Option Sz
  | 0 => some .d64
  | 1 => some .s32
  | 2 => some .u32
  | 3 => some .line
  | _ => none

/-- The code of an access size. -/
def szCode : Sz → Nat
  | .d64 => 0
  | .s32 => 1
  | .u32 => 2
  | .line => 3

/-- The space of a code (R117). -/
def spaceOf : Nat → Option Space
  | 0 => some .exp
  | 1 => some .var
  | 2 => some .con
  | 3 => some .scr
  | _ => none

/-- The code of a space. -/
def spaceCode : Space → Nat
  | .exp => 0
  | .var => 1
  | .con => 2
  | .scr => 3

/-- A field of an instruction word. -/
def fld (n : Nat) (w : W64) (hi lo : Nat) : BitVec n := BitVec.ofNat n (bits w hi lo)

/-- Format O (R117): bit [32] is reserved. -/
def fieldsO (w : W64) : Option OFields :=
  match tyOf (bits w 55 53) with
  | some ty =>
    if bit w 32 then none
    else some { ty := ty, wd := fld 5 w 52 48, wa := fld 5 w 47 43, wb := fld 5 w 42 38, cb := fld 3 w 37 35,
                im := bit w 34, cw := bit w 33, imm := fld 32 w 31 0 }
  | none => none

/-- Format M (R117): bits [37:35] are reserved. -/
def fieldsM (w : W64) : Option MFields :=
  match szOf (bits w 55 53), spaceOf (bits w 34 32) with
  | some sz, some sp =>
    if bits w 37 35 ≠ 0 then none
    else some { sz := sz, wd := fld 5 w 52 48, wa := fld 5 w 47 43, wb := fld 5 w 42 38, sp := sp, off := fld 32 w 31 0 }
  | _, _ => none

/-- Format B (R117): bits [55:40] and [34:32] are reserved. -/
def fieldsB (w : W64) : Option BFields :=
  if bits w 55 40 ≠ 0 ∨ bits w 34 32 ≠ 0 then none
  else some { neg := bit w 39, cnd := bit w 38, cb := fld 3 w 37 35, tgt := fld 32 w 31 0 }

/-- Format J (R117): bits [55:48] and [37:32] are reserved. -/
def fieldsJ (w : W64) : Option JFields :=
  if bits w 55 48 ≠ 0 ∨ bits w 37 32 ≠ 0 then none
  else some { wa := fld 5 w 47 43, wb := fld 5 w 42 38, idx := fld 32 w 31 0 }

/-- Format F (R117): bits [22:20] are reserved. -/
def fieldsF (w : W64) : Option FFields :=
  match tyOf (bits w 55 53) with
  | some ty =>
    if bits w 22 20 ≠ 0 then none
    else some { ty := ty, wd := fld 5 w 52 48, wa := fld 5 w 47 43, wb := fld 5 w 42 38, cq := fld 3 w 37 35,
                ci := fld 3 w 34 32, cj := fld 3 w 31 29, ck := fld 3 w 28 26, cl := fld 3 w 25 23, off := fld 20 w 19 0 }
  | none => none

/-- The Golup instruction that a word spells for engine `e`; none for an opcode, a type or a reserved bit that R120
refuses. -/
def decodeWord (e : EngId) (w : W64) : Option Instr :=
  let op := bits w 63 56
  if op < 0x50 then (match fieldsO w with | some f => instrO e f op | none => none)
  else if op < 0x60 then (match fieldsM w with | some f => instrM e f op | none => none)
  else if op < 0x70 then (match fieldsB w with | some f => instrB e f op | none => none)
  else if op < 0x80 then (match fieldsJ w with | some f => instrJ e f op | none => none)
  else (match fieldsF w with | some f => instrF e f op | none => none)

/-- A word of format O. -/
def wordO (op : Nat) (f : OFields) : W64 :=
  BitVec.ofNat 64 (op * 2 ^ 56 + tyCode f.ty * 2 ^ 53 + f.wd.toNat * 2 ^ 48 + f.wa.toNat * 2 ^ 43 + f.wb.toNat * 2 ^ 38
    + f.cb.toNat * 2 ^ 35 + f.im.toNat * 2 ^ 34 + f.cw.toNat * 2 ^ 33 + f.imm.toNat)

/-- A word of format M. -/
def wordM (op : Nat) (f : MFields) : W64 :=
  BitVec.ofNat 64 (op * 2 ^ 56 + szCode f.sz * 2 ^ 53 + f.wd.toNat * 2 ^ 48 + f.wa.toNat * 2 ^ 43 + f.wb.toNat * 2 ^ 38
    + spaceCode f.sp * 2 ^ 32 + f.off.toNat)

/-- A word of format B. -/
def wordB (op : Nat) (f : BFields) : W64 :=
  BitVec.ofNat 64 (op * 2 ^ 56 + f.neg.toNat * 2 ^ 39 + f.cnd.toNat * 2 ^ 38 + f.cb.toNat * 2 ^ 35 + f.tgt.toNat)

/-- A word of format J. -/
def wordJ (op : Nat) (f : JFields) : W64 :=
  BitVec.ofNat 64 (op * 2 ^ 56 + f.wa.toNat * 2 ^ 43 + f.wb.toNat * 2 ^ 38 + f.idx.toNat)

/-- A word of format F. -/
def wordF (op : Nat) (f : FFields) : W64 :=
  BitVec.ofNat 64 (op * 2 ^ 56 + tyCode f.ty * 2 ^ 53 + f.wd.toNat * 2 ^ 48 + f.wa.toNat * 2 ^ 43 + f.wb.toNat * 2 ^ 38
    + f.cq.toNat * 2 ^ 35 + f.ci.toNat * 2 ^ 32 + f.cj.toNat * 2 ^ 29 + f.ck.toNat * 2 ^ 26 + f.cl.toNat * 2 ^ 23
    + f.off.toNat)

/-- The word of a Golup instruction; none for a command that is not one. -/
def encodeWord : Instr → Option W64
  | .mov _ f => some (wordO 0x01 f)
  | .movu _ f => some (wordO 0x02 f)
  | .movh _ f => some (wordO 0x03 f)
  | .add _ f => some (wordO 0x08 f)
  | .sub _ f => some (wordO 0x09 f)
  | .adds _ f => some (wordO 0x0A f)
  | .subs _ f => some (wordO 0x0B f)
  | .negW _ f => some (wordO 0x0C f)
  | .absW _ f => some (wordO 0x0D f)
  | .minW _ f => some (wordO 0x0E f)
  | .maxW _ f => some (wordO 0x0F f)
  | .andW _ f => some (wordO 0x10 f)
  | .orW _ f => some (wordO 0x11 f)
  | .xorW _ f => some (wordO 0x12 f)
  | .andn _ f => some (wordO 0x13 f)
  | .notW _ f => some (wordO 0x14 f)
  | .shl _ f => some (wordO 0x15 f)
  | .shr _ f => some (wordO 0x16 f)
  | .sar _ f => some (wordO 0x17 f)
  | .ext _ f => some (wordO 0x18 f)
  | .mul _ f => some (wordO 0x20 f)
  | .muls _ f => some (wordO 0x21 f)
  | .div _ f => some (wordO 0x22 f)
  | .modW _ f => some (wordO 0x23 f)
  | .fma _ f => some (wordO 0x24 f)
  | .sqrt _ f => some (wordO 0x25 f)
  | .cvt _ f => some (wordO 0x30 f)
  | .limit _ f => some (wordO 0x31 f)
  | .scale _ f => some (wordO 0x32 f)
  | .mux _ f => some (wordO 0x33 f)
  | .sel _ f => some (wordO 0x34 f)
  | .ceq _ f => some (wordO 0x38 f)
  | .cne _ f => some (wordO 0x39 f)
  | .clt _ f => some (wordO 0x3A f)
  | .cle _ f => some (wordO 0x3B f)
  | .cgt _ f => some (wordO 0x3C f)
  | .cge _ f => some (wordO 0x3D f)
  | .cltu _ f => some (wordO 0x3E f)
  | .cleu _ f => some (wordO 0x3F f)
  | .cgtu _ f => some (wordO 0x40 f)
  | .cgeu _ f => some (wordO 0x41 f)
  | .btst _ f => some (wordO 0x42 f)
  | .clog _ f => some (wordO 0x43 f)
  | .movc _ f => some (wordO 0x44 f)
  | .rdf _ f => some (wordO 0x45 f)
  | .ld _ f => some (wordM 0x50 f)
  | .st _ f => some (wordM 0x51 f)
  | .br _ f => some (wordB 0x60 f)
  | .call _ f => some (wordB 0x61 f)
  | .ret _ f => some (wordB 0x62 f)
  | .endRun _ f => some (wordB 0x63 f)
  | .out _ f => some (wordJ 0x70 f)
  | .lsp _ f => some (wordJ 0x71 f)
  | .lbank _ f => some (wordJ 0x72 f)
  | .event _ f => some (wordJ 0x73 f)
  | .ton _ f => some (wordF 0x80 f)
  | .tof _ f => some (wordF 0x81 f)
  | .tp _ f => some (wordF 0x82 f)
  | .ctu _ f => some (wordF 0x84 f)
  | .ctd _ f => some (wordF 0x85 f)
  | .ctud _ f => some (wordF 0x86 f)
  | .rtrig _ f => some (wordF 0x88 f)
  | .ftrig _ f => some (wordF 0x89 f)
  | .sr _ f => some (wordF 0x8A f)
  | .rs _ f => some (wordF 0x8B f)
  | .ramp _ f => some (wordF 0x8C f)
  | _ => none

end Golup

end Sys2Proof
end

