-- ==== Sys2Proof/Machine/Points.lean ====
section
/-! DEFINITION. Points of one region's copy: point words, attributes, limits, grants, the image writer's updates, clamps and
substitute values (R42 to R74), and forces on points (R154 to R158). -/

namespace Sys2Proof.Machine

/-! ### Types and words -/

/-- `TYPE` codes of R46. -/
def tyNone : Nat := 0
/-- BOOL. -/
def tyBool : Nat := 1
/-- INT32. -/
def tyInt : Nat := 2
/-- UINT32. -/
def tyUint : Nat := 3
/-- REAL32. -/
def tyReal : Nat := 4
/-- COUNT48, first word. -/
def tyCount : Nat := 5
/-- COUNT48, second word. -/
def tyCount2 : Nat := 6

/-- The pin whose point owns a local point of pin n (R59): capture, edge-count and capture-overwrite points. -/
def pinOf (i : Nat) : Option Nat :=
  if i < 0x30 then some i
  else if 0xB0 ≤ i ∧ i < 0xE0 then some (i - 0xB0)
  else if 0xE0 ≤ i ∧ i < 0x110 then some (i - 0xE0)
  else if 0x110 ≤ i ∧ i < 0x140 then some (i - 0x110)
  else none

/-- The fixed types of the local station (R59); none for LIO pin points and points outside it. -/
def fixedType (i : Nat) : Option Nat :=
  if i < 0x30 then none
  else if i < 0xB0 then some tyBool
  else if i < 0x140 then some tyUint
  else if i < 0x200 then some tyNone
  else none

/-- The fixed attribute words of the local station (R59). -/
def fixedAttr (i : Nat) : Option W64 :=
  if i < 0x30 then none
  else if i < 0x70 then some (BitVec.ofNat 64 (7 * 2 ^ 61))
  else if i < 0x140 then some (BitVec.ofNat 64 (2 * 2 ^ 61))
  else if i < 0x200 then some 0
  else none

/-- A point's attribute word. -/
def attrOf (r : Region) (i : Nat) : W64 := (fixedAttr i).getD (look 0 r.attr i)

/-- A point's `TYPE`. -/
def typeOf (r : Region) (i : Nat) : Nat := (fixedType i).getD (bits (look 0 r.image i) 15 8)

/-- A point's `OWNER`: local points of a pin follow the pin's point, flags and trip states are partition 0's (R59). -/
def ownerOf (r : Region) (i : Nat) : Nat :=
  match pinOf i with
  | some n => bits (look 0 r.image n) 22 16
  | none => if i < 0x200 then 0 else bits (look 0 r.image i) 22 16

/-- The point word with `OWNER` and `TYPE` in place and `AGE` zero (R42). -/
def pointWord (r : Region) (i : Nat) : W64 := setBits (setBits (look 0 r.image i) 15 8 (typeOf r i)) 22 16 (ownerOf r i)

/-- `MODE` of R54. -/
def modeOf (r : Region) (i : Nat) : Nat := bits (attrOf r i) 63 61
/-- `STATION` of R55. -/
def stationOf (r : Region) (i : Nat) : Nat := bits (attrOf r i) 60 48
/-- `VIDX`. -/
def vidxOf (w : W64) : Nat := bits w 47 32
/-- `CIDX`. -/
def cidxOf (w : W64) : Nat := bits w 31 16
/-- `RIDX`. -/
def ridxOf (w : W64) : Nat := bits w 15 0

/-- Input modes of R54. -/
def isInput (m : Nat) : Bool := decide (2 ≤ m ∧ m ≤ 4)
/-- Output modes. -/
def isOutput (m : Nat) : Bool := decide (5 ≤ m ∧ m ≤ 7)
/-- Memo. -/
def isMemo (m : Nat) : Bool := m == 1

/-- A limit-table entry (R57). -/
def limitOf (r : Region) (i : Nat) : W64 := look 0 r.limits i

/-- `AGE` of a stamp at tick t (R44). -/
def ageAt (t : W64) (stamp : W32) : Nat := min 255 ((t.setWidth 32 - stamp).toNat / 100)

/-- A point word as it is copied out of the image with T = t: `AGE` filled, but for COUNT48's second word (R44). -/
def copyOut (r : Region) (t : W64) (i : Nat) : W64 :=
  if typeOf r i = tyCount2 then pointWord r i else setBits (pointWord r i) 7 0 (ageAt t (look 0 r.stamps i))

/-- The word of R63: only `BAD` set. -/
def deniedWord : W64 := 0x02000000

/-- A grant of R61 gives partition p read access to point i. -/
def granted (r : Region) (p i : Nat) : Bool :=
  r.grants.any (fun g => bit g.2 63 && bits g.2 62 56 == p && decide (bits g.2 19 0 ≤ i ∧ i ≤ bits g.2 51 32))

/-- Partition p may read point i (R60). -/
def mayRead (r : Region) (p i : Nat) : Bool := ownerOf r i == p || granted r p i

/-- The word that a read by partition p returns (R63). -/
def readableWord (r : Region) (t : W64) (p i : Nat) : W64 := if mayRead r p i then copyOut r t i else deniedWord

/-- Is a 32-bit value a REAL32 NaN for this type. -/
def nanOf (ty : Nat) (v : W32) : Bool := ty == tyReal && fmt32.isNan v.toNat

/-- A value as its type holds it: BOOL keeps bit [0] (R46). -/
def holdPoint (ty : Nat) (v : W32) : W32 := if ty = tyBool then v &&& 1 else if ty = tyNone then 0 else v

/-- Order of two values in a point's type; none when a REAL32 side is a NaN (R102). -/
def pointCmp (ty : Nat) (a b : W32) : Option Int :=
  if ty = tyReal then realCmp a b
  else if ty = tyInt then some (a.toInt - b.toInt)
  else some ((a.toNat : Int) - b.toNat)

/-- Clamp to [minimum, maximum] in the point's type (R57, R72): a NaN is never clamped. DESIGN CHOICE (log entry 75): a range with
a NaN bound, which the spec neither refuses nor explains, clamps to neither bound. -/
def clampTo (ty : Nat) (range : W64) (v : W32) : W32 × Bool :=
  let lo : W32 := range.setWidth 32
  let hi : W32 := BitVec.ofNat 32 (bits range 63 32)
  match pointCmp ty v lo, pointCmp ty v hi with
  | some a, some b => if a < 0 then (lo, true) else if b > 0 then (hi, true) else (v, false)
  | _, _ => (v, false)

/-- The clamp of R72 from the point's `CIDX`. -/
def clampPoint (r : Region) (i : Nat) (v : W32) : W32 × Bool :=
  let c := cidxOf (attrOf r i)
  if c = 0 then (v, false) else clampTo (typeOf r i) (limitOf r c) v

/-- The value that a policy word selects, as the point's type holds it: hold, value at `VIDX`, type default (R46, R54, R67, R68). -/
def policyValue (r : Region) (i : Nat) (held : W32) : W32 :=
  holdPoint (typeOf r i) (match modeOf r i with
    | 2 => held
    | 5 => held
    | 3 => (limitOf r (vidxOf (attrOf r i))).setWidth 32
    | 6 => (limitOf r (vidxOf (attrOf r i))).setWidth 32
    | _ => 0)

/-- `VALUE` of a point word. -/
def valueOf (w : W64) : W32 := BitVec.ofNat 32 (bits w 63 32)

/-! ### Status bits (R42) -/

/-- GOOD. -/
def sGood : Nat := 31
/-- STALE. -/
def sStale : Nat := 30
/-- SUBSTITUTE. -/
def sSub : Nat := 29
/-- FORCED. -/
def sForced : Nat := 28
/-- CLAMPED. -/
def sClamped : Nat := 27
/-- OVERRANGE. -/
def sOver : Nat := 26
/-- BAD. -/
def sBad : Nat := 25
/-- INTERLOCKED. -/
def sInter : Nat := 24

/-- Write `VALUE`. -/
def withValue (w : W64) (v : W32) : W64 := setBits w 63 32 v.toNat

/-- Clear every status bit. -/
def clearStatus (w : W64) : W64 := setBits w 31 24 0

/-- Write a point word into the image. -/
def setWord (r : Region) (i : Nat) (w : W64) : Region := { r with image := put 0 r.image i w }

/-- Renew a point's stamp (R44). -/
def renew (r : Region) (t : W64) (i : Nat) : Region := { r with stamps := put 0 r.stamps i (t.setWidth 32) }

/-- The point force on point i, if any (R154). -/
def forceOn (r : Region) (i : Nat) : Option Force := r.forces.find? (fun f => !f.vkey && f.point.toNat == i)

/-- Write the `SHADOW` of the force on point i (R156). -/
def setShadow (r : Region) (i : Nat) (v : W32) : Region :=
  { r with forces := r.forces.map (fun f => if !f.vkey && f.point.toNat == i then { f with shadow := v.setWidth 64 } else f) }

/-- `FVALUE` as the type of the forced point holds it (R46, R154). -/
def forcedValue (r : Region) (f : Force) : W32 := holdPoint (typeOf r f.point.toNat) (f.fvalue.setWidth 32)

/-- An input point takes a value: a force keeps `VALUE` and moves the value to `SHADOW` (R156). -/
def inputValue (r : Region) (i : Nat) (v : W32) : Region × W64 :=
  match forceOn r i with
  | some f => (setShadow r i v, setBit (withValue (look 0 r.image i) (forcedValue r f)) sForced true)
  | none => (r, setBit (withValue (look 0 r.image i) v) sForced false)

/-- An update of an input point (R42, R43): OVERRANGE shows a value that scaling saturated or that lies outside the valid range of
`CIDX`. -/
def updateInput (r : Region) (t : W64) (i : Nat) (v : W32) (bad ovr : Bool) : Region :=
  if !isInput (modeOf r i) then r
  else
    let ty := typeOf r i
    let isBad := bad || nanOf ty v
    let (r, w) := inputValue r i (holdPoint ty v)
    let w := setBit (setBit (setBit (setBit (setBit w sGood (!isBad)) sBad isBad) sStale false) sSub false) sOver (ovr || (clampPoint r i (holdPoint ty v)).2)
    renew (setWord r i w) t i

/-- An update of a COUNT48 point (R49): the count, its base and epoch, and the status of its first word. -/
def updateCount (r : Region) (t : W64) (i : Nat) (raw : BitVec 16) (width : Nat) (epoch : Byte) (bad : Bool) : Region :=
  if typeOf r i ≠ tyCount then r
  else
    let w0 := look 0 r.image i
    let w1 := look 0 r.image (i + 1)
    let count := bits w1 47 32 * 2 ^ 32 + bits w0 63 32
    let delta :=
      if !bit w1 24 then 0
      else if bits w1 7 0 ≠ epoch.toNat then raw.toNat
      else (raw.toNat + 2 ^ width - bits w1 63 48 % 2 ^ width) % 2 ^ width
    let count' := (count + delta) % 2 ^ 48
    let w0 := setBits w0 63 32 (count' % 2 ^ 32)
    let w0 := setBit (setBit (setBit (setBit (setBit w0 sGood (!bad)) sBad bad) sStale false) sSub false) sOver false
    let w1 := setBit (setBits (setBits (setBits w1 63 48 raw.toNat) 47 32 (count' / 2 ^ 32)) 7 0 epoch.toNat) 24 true
    renew (setWord (setWord r i w0) (i + 1) w1) t i

/-- A released or fixed value (R43, R66): the release cell has decided value and status. A point that an earlier group of the tick
has made an input, or unused, takes none: `CLAMPED` and `INTERLOCKED` are never set there. -/
def updateReleased (r : Region) (t : W64) (i : Nat) (v : W32) (good bad clamped forced inter : Bool) : Region :=
  let w := withValue (look 0 r.image i) v
  let w := setBit (setBit (setBit (setBit (setBit w sGood good) sBad bad) sClamped clamped) sForced forced) sInter inter
  if isOutput (modeOf r i) || isMemo (modeOf r i) then renew (setWord r i w) t i else r

/-- Points that a station carries. -/
def stationPoints (r : Region) (st : Nat) : List Nat :=
  (r.attr.filter (fun a => bits a.2 60 48 == st && bits a.2 63 61 ≥ 2)).map Prod.fst

/-- STALE group of a missed cycle (R43, R257): the stamp is not renewed (R44). -/
def markStale (r : Region) (i : Nat) : Region :=
  if isInput (modeOf r i) then setWord r i (setBit (look 0 r.image i) sStale true) else r

/-- Substitution of one input point (R51, R67): the stamp stays, and a COUNT48 point keeps its count. -/
def substitute (r : Region) (i : Nat) : Region :=
  if !isInput (modeOf r i) then r
  else
    let (r, w) := if typeOf r i = tyCount then (r, look 0 r.image i)
      else inputValue r i (policyValue r i
        (match forceOn r i with
         | some f => f.shadow.setWidth 32
         | none => valueOf (look 0 r.image i)))
    setWord r i (setBit (setBit (setBit w sSub true) sGood false) sStale false)

/-- The status bits of a word that R43 never sets in a point of direction m are clear. -/
def neverSet (m : Nat) (w : W64) : W64 :=
  let off (w : W64) (bs : List Nat) : W64 := bs.foldl (fun w b => setBit w b false) w
  if isInput m then off w [sClamped, sInter]
  else if isOutput m then off w [sStale, sSub, sOver]
  else if isMemo m then off w [sStale, sSub, sOver, sInter]
  else w

/-- A point's new type and attribute word (R53): a type change takes the default, clears the status and renews the stamp. DESIGN
CHOICE (log entry 92): a write that changes the direction alone clears the bits that the new direction never sets (R43), and leaves
the others as they stand. -/
def setType (r : Region) (t : W64) (i ty : Nat) (w : W64) : Region :=
  let r := { r with attr := put 0 r.attr i w }
  if typeOf r i = ty then setWord r i (neverSet (modeOf r i) (look 0 r.image i))
  else renew (setWord r i (setBits (setBits (setBits (look 0 r.image i) 63 24 0) 15 8 ty) 7 0 0)) t i

/-- An attribute write (R53): COUNT48 configures both of its words. -/
def setAttr (r : Region) (t : W64) (i ty : Nat) (w : W64) : Region :=
  let was := typeOf r i
  let r := setType r t i ty w
  if ty = tyCount then
    let r := setType r t (i + 1) tyCount2 0
    setWord r (i + 1) (setBits (look 0 r.image (i + 1)) 22 16 (bits (look 0 r.image i) 22 16))
  else if was = tyCount then setType r t (i + 1) tyNone 0
  else r

/-- HALT in the image (R43, R69): every output point shows its SAFELIGHT value with `GOOD` clear, but for an LIO point on which a
trip keeps its level. -/
def haltOutputs (r : Region) (safe : Nat → W32) (kept : Nat → Bool) : Region :=
  (r.image.filter (fun e => isOutput (modeOf r e.1))).foldl (fun r e =>
    let w := setBit e.2 sGood false
    setWord r e.1 (if kept e.1 then w else withValue w (safe e.1))) r

/-- An owner change (R64): both words of a COUNT48 point together (R47). -/
def setOwner (r : Region) (i p : Nat) : Region :=
  let one (r : Region) (i : Nat) := setWord r i (setBits (look 0 r.image i) 22 16 p)
  if typeOf r i = tyCount then one (one r i) (i + 1) else one r i

/-- The same key: a force change replaces the entry it names (R154). -/
def sameForce (a b : Force) : Bool :=
  a.vkey == b.vkey && (if a.vkey then a.part == b.part && a.iid == b.iid && a.voff == b.voff else a.point == b.point)

/-- Enter a force in the table. -/
def addForce (fs : List Force) (f : Force) : List Force :=
  if fs.any (sameForce f) then fs.map (fun g => if sameForce f g then f else g) else fs ++ [f]

/-- The force that request words 0x00 to 0x17 describe (R154). -/
def forceOf (p : BitVec 7) (w0 w1 w2 : W64) (t : W64) : Force :=
  { part := p, vkey := bit w0 62, ty := bits w0 61 59, point := BitVec.ofNat 20 (bits w0 51 32), iid := w0.setWidth 32,
    voff := bits w1 31 0, fvalue := w2, shadow := 0, tf0 := t }

/-- A force starts (R156): an input point takes `FVALUE` and keeps its own value in `SHADOW`. -/
def startForce (r : Region) (f : Force) : Region :=
  let i := f.point.toNat
  if f.vkey then { r with forces := addForce r.forces f }
  else if isInput (modeOf r i) then
    let w := look 0 r.image i
    let own : W64 := match forceOn r i with
      | some g => g.shadow
      | none => (valueOf w).setWidth 64
    let r := { r with forces := addForce r.forces { f with shadow := own } }
    setWord r i (setBit (withValue w (forcedValue r f)) sForced true)
  else { r with forces := addForce r.forces f }

/-- A force ends (R158): an input takes its `SHADOW`; an output or memo point keeps its last value. -/
def endForce (r : Region) (f : Force) : Region :=
  match r.forces.find? (sameForce f) with
  | none => r
  | some g =>
    let i := g.point.toNat
    let r := { r with forces := r.forces.filter (fun h => !sameForce f h) }
    if g.vkey then r
    else
      let w := setBit (look 0 r.image i) sForced false
      setWord r i (if isInput (modeOf r i) then withValue w (g.shadow.setWidth 32) else w)

/-! ### Programs -/

/-- The program that runs in a partition. -/
def programOf (r : Region) (p : Nat) : Option Program := look none r.programs p

/-- The task that a slot holds: of the one loaded program that has it. -/
def taskOf (r : Region) (slot : BitVec 9) : Option Task :=
  (r.programs.findSome? (fun e => e.2.bind (fun g => g.tasks.find? (fun k => k.slot == slot))))

/-- The error task of a partition (R104). -/
def errorTask (r : Region) (p : Nat) : Option Task :=
  (programOf r p).bind (fun g => g.tasks.find? (fun k => k.kind == .error))

/-- Partition p exposes point i: some task of its program lists it. -/
def exposes (r : Region) (p i : Nat) : Bool :=
  match programOf r p with
  | some g => g.tasks.any (fun k => k.xlist.any (fun x => x.toNat == i))
  | none => false

/-- A valid loop record of partition p names point i. -/
def loopNames (l : Loop) (i : Nat) : Bool :=
  let w0 := look 0 l.words 0
  let w1 := look 0 l.words 1
  let w2 := look 0 l.words 2
  bit w0 63 && (bits w0 51 32 == i || bits w2 19 0 == i || (bits w1 63 62 == 0 && bits w1 51 32 == i)
    || ((bits w1 61 60 == 1 || bits w1 61 60 == 2) && bits w2 51 32 == i))

/-- A loaded program references point i: an exposure or output list, or a trigger. -/
def programNames (g : Program) (i : Nat) : Bool :=
  g.tasks.any (fun k => k.xlist.any (fun x => x.toNat == i) || k.outs.any (fun x => x.toNat == i)
    || (decide (1 ≤ k.trig ∧ k.trig ≤ 4) && k.tpoint.toNat == i) || (k.trig == 5 && k.tpoint.toNat + 0xE0 == i))

/-- A loaded or waiting program or a loop record of any partition references point i (R56, R59). -/
def referenced (r : Region) (i : Nat) : Bool :=
  r.programs.any (fun e => (e.2.map (fun g => programNames g i)).getD false)
    || r.waiting.any (fun e => (e.2.map (fun g => programNames g i)).getD false)
    || r.loops.any (fun l => loopNames l.2 i)

/-- The same of one partition's program and loops (R64). -/
def referencedBy (r : Region) (p i : Nat) : Bool :=
  ((programOf r p).map (fun g => programNames g i)).getD false
    || ((look none r.waiting p).map (fun g => programNames g i)).getD false
    || r.loops.any (fun l => l.2.owner.toNat == p && loopNames l.2 i)

/-! ### Causes (R104) -/

/-- Put a cause into a partition's queue: 64 entries, further ones counted; without an error task it is to be recorded. -/
def queueCause (r : Region) (p code param : Nat) : Region × Bool :=
  match errorTask r p with
  | none => (r, true)
  | some _ =>
    let q := look {} r.causes p
    let q := if q.items.length < 64 then { q with items := q.items ++ [{ code := BitVec.ofNat 16 code, param := BitVec.ofNat 48 param }] }
      else { q with lost := satInc q.lost }
    ({ r with causes := put {} r.causes p q }, false)

/-! ### Checks that requests and apply phases share -/

/-- Bits [hi:lo] are zero. -/
def zeroBits {w : Nat} (x : BitVec w) (hi lo : Nat) : Bool := bits x hi lo == 0

/-- A value inside a range, in the point's type (R56). -/
def inRange (ty : Nat) (w : W64) (v : W32) : Bool :=
  match pointCmp ty v (w.setWidth 32), pointCmp ty v (valueOf w) with
  | some a, some b => decide (a ≥ 0) && decide (b ≤ 0)
  | _, _ => false

end Sys2Proof.Machine
end

