-- ==== Sys2Proof/Machine/Law.lean ====
section
/-! DEFINITION. Loop records, the law of R173 with its inputs, tracking, anti-windup and voltage compensation, and what a sample
leaves of its loop (R164 to R168, R171 to R179). -/

namespace Sys2Proof.Machine

/-! ### Loop slots (R163, R164) -/

/-- A loop slot. -/
def loopOf (r : Region) (slot : Nat) : Loop := look {} r.loops slot

/-- Write a loop slot. -/
def setLoop (r : Region) (slot : Nat) (l : Loop) : Region := { r with loops := put {} r.loops slot l }

/-- Word n of a loop record. -/
def Loop.word (l : Loop) (n : Nat) : W64 := look 0 l.words n

/-- Write word n of a loop record. -/
def Loop.setWord (l : Loop) (n : Nat) (w : W64) : Loop := { l with words := put 0 l.words n w }

/-- The loop is valid. -/
def Loop.valid (l : Loop) : Bool := bit (l.word 0) 63

/-- Change one sample of a region. -/
def modSample (r : Region) (slot : BitVec 13) (tick : W64) (f : Sample → Sample) : Region :=
  let one (x : Sample) : Sample := if x.slot == slot && x.tick == tick then f x else x
  { r with samples := r.samples.map one, keptSamples := r.keptSamples.map one }

/-- One sample of a region. -/
def findSample (r : Region) (slot : BitVec 13) (tick : W64) : Option Sample :=
  (r.samples ++ r.keptSamples).find? (fun x => x.slot == slot && x.tick == tick)

/-! ### Arithmetic of R173 -/

/-- Saturate to w bits, signed; the flag says that the value changed. -/
def satBits (w : Nat) (v : Int) : Int × Bool :=
  if v > 2 ^ (w - 1) - 1 then (2 ^ (w - 1) - 1, true) else if v < -2 ^ (w - 1) then (-2 ^ (w - 1), true) else (v, false)

/-- A value and whether any saturation so far changed one (`OSAT`). -/
abbrev Lv := Int × Bool

/-- sat32. -/
def Lv.sat32 (a : Lv) : Lv := let r := satBits 32 a.1; (r.1, a.2 || r.2)
/-- A sum of 48-bit quantities. -/
def Lv.add (a b : Lv) : Lv := let r := satBits 48 (a.1 + b.1); (r.1, a.2 || b.2 || r.2)
/-- A difference of 48-bit quantities. -/
def Lv.sub (a b : Lv) : Lv := let r := satBits 48 (a.1 - b.1); (r.1, a.2 || b.2 || r.2)
/-- sat32 of an exact difference of 32-bit quantities. -/
def Lv.diff (a b : Lv) : Lv := let r := satBits 32 (a.1 - b.1); (r.1, a.2 || b.2 || r.2)

/-- The product m(x, c, s) of R173. -/
def Lv.times (x : Lv) (c : Int) (s : Nat) : Lv :=
  let p := x.1 * c + (if s > 0 then 2 ^ (s - 1) else 0)
  let r := satBits 48 (p / 2 ^ s)
  (r.1, x.2 || r.2)

/-- m with a coefficient word of R165. -/
def Lv.coef (x : Lv) (k : W64) : Lv := x.times (BitVec.ofNat 32 (bits k 63 32)).toInt (bits k 4 0)

/-- A point word read as an input (R173). -/
def lawInput (w : W64) : Lv :=
  let v := valueOf w
  if bits w 15 8 = tyUint then (if v.toNat > 2 ^ 31 - 1 then (2 ^ 31 - 1, true) else (v.toNat, false)) else (v.toInt, false)

/-- An input point word is usable (R175). -/
def usable (w : W64) : Bool := bit w sGood && !bit w sBad

/-- The upper half of a word, signed. -/
def upper (w : W64) : Int := (BitVec.ofNat 32 (bits w 63 32)).toInt
/-- The lower half of a word, signed. -/
def lower (w : W64) : Int := (BitVec.ofNat 32 (bits w 31 0)).toInt
/-- A word of two signed halves. -/
def halves (hi lo : Int) : W64 := BitVec.ofNat 64 ((BitVec.ofInt 32 hi).toNat * 2 ^ 32 + (BitVec.ofInt 32 lo).toNat)

/-- A gain limited to 2^31 - 1, with `OSAT` (R178). -/
def gainOf (num den : Nat) : Lv :=
  let q := if den = 0 then 2 ^ 31 - 1 else num / den
  if q > 2 ^ 31 - 1 then (2 ^ 31 - 1, true) else (q, false)

/-! ### One sample -/

/-- What an evaluation gives: the journal entry, the state words, and whether the sample held. -/
structure LawResult where
  entry : List W64
  words : SMap W64
  flags : Byte
  held : Bool
  deriving DecidableEq, Repr

/-- The two-word journal entry of R180. -/
def loopEntry (slot : BitVec 13) (tick : W64) (flags : Byte) (u : Int) (integ : Int) (yf : Int) : List W64 :=
  let i : BitVec 48 := BitVec.ofInt 48 integ
  let y : W32 := BitVec.ofInt 32 yf
  let h (x : Nat) : BitVec 16 := BitVec.ofNat 16 x
  let res := h (bits i 15 0) ^^^ h (bits i 31 16) ^^^ h (bits i 47 32) ^^^ h (bits y 15 0) ^^^ h (bits y 31 16)
  [BitVec.ofNat 64 (flags.toNat * 2 ^ 56 + slot.toNat * 2 ^ 32 + (BitVec.ofInt 32 u).toNat),
   BitVec.ofNat 64 (res.toNat * 2 ^ 48 + tick.toNat % 2 ^ 48)]

/-- Flags in the order of R174. -/
def flagByte (l : List Bool) : Byte := BitVec.ofNat 8 (l.foldl (fun n b => 2 * n + b.toNat) 0)

/-- The state words that every sample writes: `LTICK`, `LFLAGS`, the counters (R166, R174, R175). -/
def countSample (w : SMap W64) (tick : W64) (flags : Byte) : SMap W64 :=
  let w29 := look 0 w 29
  let w30 := look 0 w 30
  let sat := bits w29 31 0 + (bit flags 5).toNat
  let held := bits w30 63 32 + (bit flags 7).toNat
  let w := put 0 w 27 tick
  let w := put 0 w 28 (setBits (look 0 w 28) 7 0 flags.toNat)
  let w := put 0 w 29 (setBits (setBits w29 63 32 (bits w29 63 32 + 1)) 31 0 (min sat (2 ^ 32 - 1)))
  put 0 w 30 (setBits w30 63 32 (min held (2 ^ 32 - 1)))

/-- Evaluate a sample from its record and inputs (R173 to R178). DESIGN CHOICE (log entry 97): ua of R177 is the output point's
`VALUE` read as an input (R173, R176), so that a UINT32 above 2^31 - 1 is limited to it and sets `OSAT`. -/
def loopLaw (x : Sample) : LawResult :=
  let w (n : Nat) : W64 := look 0 x.words n
  let spPoint := bits (w 1) 63 62 = 0
  let ffMode := bits (w 1) 61 60
  let st := w 28
  let first := !bit st 62
  let k (n : Nat) : W64 := w ((if bit st 63 then 16 else 8) + n)
  let integ0 : Int := (BitVec.ofNat 48 (bits (w 24) 47 0)).toInt
  let usat := lower (w 25)
  let auxBad := (ffMode = 1 ∨ ffMode = 2) && !usable x.ff
  if !usable x.meas || (spPoint && !usable x.setp) then
    let flags := flagByte [true, first, false, false, false, false, auxBad, first]
    { entry := loopEntry x.slot x.tick flags usat integ0 (upper (w 25)), words := countSample x.words x.tick flags, flags := flags, held := true }
  else
    let y := lawInput x.meas
    let spint := upper (w 26)
    let setSp := first && !spPoint && !bit st 61
    let sp : Lv := if spPoint then lawInput x.setp else if setSp then y else (spint, false)
    let yf : Lv := if first then y else (upper (w 25), false)
    let e := Lv.diff sp y
    let yn := Lv.sat32 (Lv.add yf (Lv.coef (Lv.diff y yf) (k 4)))
    let pt := Lv.coef e (k 0)
    let dt := Lv.coef (Lv.diff yf yn) (k 3)
    let a : Lv := if auxBad then (0, false) else lawInput x.ff
    let ft := Lv.add (Lv.coef sp (k 5)) (if ffMode = 1 then Lv.coef a (k 6) else (0, false))
    let ugain := bits (w 26) 31 0
    let vnom := bits (w 5) 63 32
    let vmin := lower (w 5)
    let vin := lawInput x.ff
    let vlow := ffMode = 2 && !auxBad && decide (vin.1 < vmin)
    let vi := (max vin.1 vmin).toNat
    let q : Lv := if ffMode ≠ 2 then (0, false)
      else if auxBad then (if ugain = 0 then 2 ^ 24 else ugain, false)
      else let g := gainOf (vnom * 2 ^ 24 + vi / 2) vi; (g.1, g.2 || vin.2)
    let qi : Lv := if ffMode ≠ 2 then (0, false)
      else if auxBad then gainOf (2 ^ 48 + q.1.toNat / 2) q.1.toNat
      else gainOf (vi * 2 ^ 24 + vnom / 2) vnom
    let track := first || bit x.outp sForced || bit x.outp sInter
    let ov := lawInput x.outp
    let wt : Lv := if ffMode = 2 then let r := Lv.times ov qi.1 24; (r.1, r.2 || qi.2) else ov
    let imax := upper (w 4)
    let imin := lower (w 4)
    let clampi (v : Int) : Int × Bool := clampI imin imax v
    let tr := Lv.sub (Lv.sub (Lv.sub wt pt) dt) ft
    let (integ1, isat1) := if track then clampi tr.1 else (integ0, false)
    let v := Lv.add (Lv.add (Lv.add pt (integ1, false)) dt) ft
    let uc : Lv := if ffMode = 2 then let r := Lv.times (Lv.sat32 v) q.1 24; (r.1, r.2 || q.2) else v
    let us := Lv.sat32 uc
    let u := min (upper (w 3)) (max (lower (w 3)) us.1)
    let ua : Lv := if bit x.outp sClamped then ov else (u, false)
    let wind := Lv.add (Lv.add (integ0, false) (Lv.coef e (k 1))) (Lv.coef (Lv.sat32 (Lv.sub ua uc)) (k 2))
    let (integ2, isat2) := if track then (integ1, isat1) else clampi wind.1
    let osat := e.2 || yn.2 || pt.2 || dt.2 || ft.2 || us.2 || (if track then tr.2 else wind.2)
    let flags := flagByte [false, track, decide (u ≠ uc.1), isat2, osat, vlow, auxBad, first]
    let words := put 0 x.words 24 (BitVec.ofNat 64 (BitVec.ofInt 48 integ2).toNat)
    let words := put 0 words 25 (halves yn.1 u)
    let gain : Int := if ffMode = 2 && !auxBad then q.1 else ugain
    let words := put 0 words 26 (halves (if setSp then y.1 else spint) gain)
    let words := put 0 words 28 (setBit st 62 true)
    { entry := loopEntry x.slot x.tick flags u integ2 yn.1, words := countSample words x.tick flags, flags := flags, held := false }
where
  /-- Limit a value to [lo, hi]; the flag says that it changed. -/
  clampI (lo hi v : Int) : Int × Bool := let r := min hi (max lo v); (r, decide (r ≠ v))

/-! ### Samples and their loop (R168, R171, R179) -/

/-- The loop after a sample wrote its state; the count of samples that were not released stays (R181). -/
def writeBack (l : Loop) (res : LawResult) : Loop :=
  let w := look 0 res.words 30
  { l with words := put 0 res.words 30 (setBits w 31 0 (bits (l.word 30) 31 0)), held := res.held }

/-- A sample as it is evaluated: from the loop's record and state as they stand, or, once settled, as they stood then. -/
def Sample.read (x : Sample) (l : Loop) : Sample := if x.settled then x else { x with words := l.words, wasHeld := l.held }

/-- Settle the samples of a loop that are still to be evaluated, in order, before an item changes the loop: each takes the record
and the state that it reads and leaves its own behind, since no result depends on the instant at which a lane evaluates it (R171;
log entry 99). -/
def settleLoop (r : Region) (slot : Nat) : Region :=
  (r.samples.filter (fun x => x.slot.toNat == slot && !x.evaluated && !x.settled)).foldl (fun r x =>
    let l := loopOf r slot
    let y := x.read l
    setLoop (modSample r x.slot x.tick (fun _ => { y with settled := true })) slot (writeBack l (loopLaw y))) r

/-- Change a loop once its earlier samples are settled. -/
def changeLoop (r : Region) (slot : Nat) (f : Loop → Loop) : Region :=
  let r := settleLoop r slot
  setLoop r slot (f (loopOf r slot))

end Sys2Proof.Machine
end

