-- ==== Sys2Proof/Machine/Clock.lean ====
section
/-! DEFINITION. One CORE edge: the advance of DTIME (R310) and of AR's operating time (R361). -/

namespace Sys2Proof.Machine

/-- Parts of a nanosecond that the time unit keeps: 2^40 (R308, R310). -/
def nsParts : Int := 2 ^ 40

/-- The nominal advance of R310, 0.8 * (1 + rate * 10^-12) ns, in 2^-40 ns, truncated (log entry 15). -/
def rateAdvance (rate : W32) : Int := Int.tdiv (4 * nsParts * (10 ^ 12 + rate.toInt)) (5 * 10 ^ 12)

/-- The magnitude of a slew at one edge, 0.8 * s * 10^-12 ns in 2^-40 ns (R310). -/
def slewMagnitude (slewMax : BitVec 27) : Nat := 4 * 2 ^ 40 * slewMax.toNat / (5 * 10 ^ 12)

/-- `extra` of R310 over n edges: n times the magnitude, no larger than the remainder, in 2^-40 ns. -/
def slewExtra (slewMax : BitVec 27) (rem : Int) (n : Nat) : Int :=
  let m : Int := n * slewMagnitude slewMax
  let e : Int := if rem > 0 then m else if rem < 0 then -m else 0
  if e.natAbs > rem.natAbs then rem else e

/-- DTIME with its fraction, in 2^-40 ns. -/
def Time.full (t : Time) : Nat := t.dtime.toNat * 2 ^ 40 + t.frac.toNat

/-- The advance of DTIME over n CORE edges (R310). -/
def Time.advance (t : Time) (n : Nat := 1) : Time :=
  let extra := slewExtra t.slewMax t.slewRem n
  let v := ((t.full : Int) + n * rateAdvance t.rate + extra).toNat
  { t with dtime := BitVec.ofNat 64 (v / 2 ^ 40), frac := BitVec.ofNat 40 v, slewRem := t.slewRem - extra }

/-- CORE edges in one second of operating time (R9, R361). -/
def edgesPerSecond : Nat := 1250000000

/-- One AON period of 30,517.578125 ns in DORMANT: 128 of them are 3,906,250 ns (R9). -/
def aonEdge (d : Dev) : Dev :=
  let k := d.aonPhase.toNat
  { d with aonPhase := d.aonPhase + 1, rtc := d.rtc + BitVec.ofNat 64 (3906250 * (k + 1) / 128 - 3906250 * k / 128) }

/-- DTIME's place in the second that begins at `PPSOFF`, in ns (R320). -/
def Time.ppsPhase (t : Time) : Nat := (((t.dtime.toNat : Int) - (BitVec.ofNat 32 (bits t.rec0 31 0)).toInt) % 1000000000).toNat

/-- The high time of PPS_OUT in ns: `PPSW` ms (R320). -/
def Time.ppsWidth (t : Time) : Nat := bits t.rec0 60 52 * 1000000

/-- PPS_OUT after DTIME has moved from `was` to `now`: high while `PPSEN` is set, when the last rise lay in between or the pin was
high, and `PPSW` ms have not passed since that rise (R320). -/
def ppsLevel (was now : Time) : Bool :=
  bit now.rec0 61 && decide (now.ppsPhase < now.ppsWidth) && (now.ppsOut || decide (now.ppsPhase < now.dtime.toNat - was.dtime.toNat))

/-- n CORE edges pass: DTIME advances and drives PPS_OUT (R320), AR's real-time counter keeps pace, and operating time counts the
seconds spent in START, RUN or HALT (R310, R361). -/
def coreEdges (s : State) (n : Nat) : State :=
  let t := s.time.advance n
  let e := s.time.edges + n
  (s.setTime { t with edges := e % edgesPerSecond, ppsOut := ppsLevel s.time t }).setDev
    { s.dev with rtc := s.dev.rtc + (t.dtime - s.time.dtime), opTime := satAdd s.dev.opTime (e / edgesPerSecond) }

/-- What an idle block does (log entry 1): one CORE edge while its domains run, one AON period in DORMANT. -/
def coreEdge (s : State) : State :=
  if s.powered then coreEdges s 1
  else if s.dev.dstate = .dormant then s.setDev (aonEdge s.dev)
  else s

end Sys2Proof.Machine
end

