-- ==== Sys2Proof/Machine/Fabric.lean ====
section
/-! DEFINITION. Fabric queues with their ledgers, the input sequencer and its staging streams (R30 to R36, R86). -/

namespace Sys2Proof.Machine

/-! ### Queues (R30, R32, R34) -/

/-- A queue ID (R32). -/
def queueId (src dst num : Nat) : Nat := src * 8192 + dst * 1024 + num

/-- The sequencer's input queue of a source: the management path of a region, a field channel, the Vellek engine, IR
(log entry 3). -/
inductive Source where
  | mgmt (er : Er)
  | field (c : Nat)
  | vellek
  | ir
  deriving DecidableEq, Repr

/-- The execution region of a number. -/
def erOf (n : Nat) : Option Er := if n = 0 then some .A else if n = 1 then some .B else none

/-- The queue of a source. -/
def sourceQueue : Source → Nat
  | .mgmt er => queueId (erNum er) 0 0
  | .field c => queueId 2 0 c
  | .vellek => queueId 3 0 0
  | .ir => queueId 4 0 0

/-- The sources in the order of R33 rule 3. -/
def sources : List Source :=
  [.mgmt .A, .mgmt .B] ++ (List.range 32).map Source.field ++ [.vellek, .ir]

/-- Is a queue one of the sequencer's input queues. -/
def isInputQueue (q : Nat) : Bool := sources.any (fun x => sourceQueue x == q)

/-- A fabric queue. -/
def State.queue (s : State) (q : Nat) : FQueue := look {} s.fab.queues q

/-- The queue from the input sequencer into a region's staging queue (log entry 3). -/
def stagingQueue (er : Er) : Nat := queueId (erNum er) (erNum er) 1

/-- Is a queue one that the input sequencer alone empties or fills: only groups and tokens pass there, whole (R33). -/
def sequenced (q : Nat) : Bool := isInputQueue q || q == stagingQueue .A || q == stagingQueue .B

/-- Write a fabric queue. -/
def State.setQueue (s : State) (q : Nat) (v : FQueue) : State := s.setFab { s.fab with queues := put {} s.fab.queues q v }

/-- A queue that takes entries: armed, neither frozen nor dead (R36, R352, R356). -/
def FQueue.open (q : FQueue) : Bool := q.armed && !q.frozen && !q.dead

/-- The entries of a group in a queue. -/
def Group.size (g : Group) : Nat := max g.items.length 1

/-- The producer writes n entries against n credits (R30, R34). -/
def FQueue.write (q : FQueue) (n : Nat) : FQueue := { q with avail := q.avail - n, flight := q.flight + n, occ := q.occ + n }

/-- n returned credits arrive at the producer, which sees the occupancy as it stands (R34). -/
def FQueue.credit (q : FQueue) (n : Nat) : FQueue :=
  { q with avail := q.avail + n, flight := q.flight - n, returned := q.returned + BitVec.ofNat 16 n, lastSeen := BitVec.ofNat 32 q.occ }

/-- The consumer removes n entries; the credits arrive at once unless the producer waits for them (log entry 16), or is in reset: the
consumer holds them until the re-arm (R356). -/
def FQueue.remove (q : FQueue) (n : Nat) : FQueue :=
  let q := { q with occ := q.occ - n, removed := q.removed + BitVec.ofNat 16 n }
  if q.waiting.isEmpty && q.armed then q.credit n else q

/-- Both sides of a queue start again: it holds nothing, the producer holds every credit, the counts restart (R356). -/
def FQueue.clear (q : FQueue) : FQueue :=
  { q with occ := 0, held := [], part := 0, avail := q.cap, flight := 0, removed := 0, returned := 0 }

/-- The producer runs ahead: of the groups that wait it writes as many entries as it holds credits for, and waits for the rest
(R30, R32). A group is complete when its last entry is written (R33 rule 2). -/
def FQueue.pump (now : W64) (q : FQueue) : List Group → FQueue
  | [] => { q with waiting := [] }
  | g :: rest =>
    if q.open then
      let n := min q.avail (g.size - q.part)
      if q.part + n = g.size then pump now { q.write n with held := q.held ++ [{ g with arr := now }], part := 0 } rest
      else { q.write n with waiting := g :: rest, part := q.part + n }
    else { q with waiting := g :: rest }

/-- The producer presents a group to its queue; a DEAD crossing refuses it (R352). -/
def FQueue.submit (now : W64) (q : FQueue) (g : Group) : FQueue := if q.dead then q else q.pump now (q.waiting ++ [g])

/-- The check of R35 that a queue's ledger fails: 1 sum, 2 occupancy, 3 return; 0 when its invariant holds. -/
def FQueue.violation (q : FQueue) : Nat :=
  if q.avail + q.flight ≠ q.cap then 1
  else if q.occ > q.cap ∨ q.occ > q.flight then 2
  else if q.removed - q.returned ≠ BitVec.ofNat 16 (q.flight - q.occ) then 3
  else 0

/-- Write an input queue back. A group that becomes the head of its queue has its turn from then on: it waits for at most one
group of each other queue (R223). -/
def State.setInput (s : State) (q : Nat) (v : FQueue) : State :=
  s.setQueue q (if (s.queue q).held.isEmpty then { v with turn := s.fab.taken } else v)

/-- A source presents a group to the input sequencer (R33). -/
def submitGroup (s : State) (x : Source) (items : List Item) (page : Option (BitVec 7 × BitVec 16) := none)
    (buf : Option Nat := none) : State :=
  let q := sourceQueue x
  s.setInput q ((s.queue q).submit s.time.dtime { items := items, page := page, arr := s.time.dtime, buf := buf })

/-- A mailbox command presents a group (R186): its page stays busy until the group is applied. A DEAD queue refuses it (R352). -/
def present (s : State) (p : BitVec 7) (items : List Item) : State :=
  let pg := s.page p
  if s.dev.deadCrossings.any (fun d => d.1.toNat == sourceQueue (.mgmt s.pair.active)) then turnAway s p .unavailable
  else submitGroup (s.setPage p { pg with busy := true, valid := false }) (.mgmt s.pair.active) items (some (p, pg.seqNo))

/-! ### Staging streams (R33, R34, R86) -/

/-- The entries that a group or a token is. -/
def Stage.size : Stage → Nat
  | .group g => g.size
  | .token _ => 1

/-- Entries held in a staging queue. -/
def stagingSize (l : List Stage) : Nat := l.foldl (fun n e => n + e.size) 0

/-- Tokens held in a staging queue (R34). -/
def tokensHeld (l : List Stage) : Nat := (l.filter (fun e => match e with | .token _ => true | .group _ => false)).length

/-- Regions whose staging queue the sequencer writes: those in service, and the joining region once its final pass has
ended (R33, R219). -/
def staged (s : State) (er : Er) : Bool :=
  s.serving er || (match s.pair.rejoin with
    | some j => j.er == er && decide (j.phase ≥ 5)
    | none => false)

/-- The sequencer holds n credits for a staging queue (R33 rule 5). -/
def stagingRoom (s : State) (n : Nat) (er : Er) : Bool := !staged s er || decide (n ≤ (s.queue (stagingQueue er)).avail)

/-- Write one entry to every staging queue that is written, as one replicated entry, against its credits (R30, R33 rule 5). -/
def stage (s : State) (e : Stage) : State :=
  let one (s : State) (er : Er) : State :=
    if staged s er then
      (s.setRegion er { s.region er with staging := (s.region er).staging ++ [e] }).setQueue (stagingQueue er)
        ((s.queue (stagingQueue er)).write e.size)
    else s
  one (one s .A) .B

/-- A region's apply phase has removed n entries from its staging queue, whose credits return (R30, R87). -/
def unstage (s : State) (er : Er) (n : Nat) : State := s.setQueue (stagingQueue er) ((s.queue (stagingQueue er)).remove n)

/-- The CORE edges until DTIME has reached an instant (R310): first those that slew, then the rest. -/
def Time.edgesTo (t : Time) (ns : Nat) : Nat :=
  let d : Int := (ns * 2 ^ 40 : Nat) - (t.full : Int)
  let step := rateAdvance t.rate
  let m := slewMagnitude t.slewMax
  let k := t.slewRem.natAbs / m
  let slewing := step + t.slewRem.sign * m
  if d ≤ 0 then 0
  else if d ≤ k * slewing then ((d + slewing - 1) / slewing).toNat
  else max (if m = 0 then 1 else k + 1) ((d - (if m = 0 then 0 else t.slewRem) + step - 1) / step).toNat

/-- Let the CORE edges pass until DTIME has reached an instant that a rule fixes, never back (log entry 1). -/
def advanceTo (s : State) (ns : Nat) : State := coreEdges s (s.time.edgesTo ns)

/-- The sequencer runs in RUN, and in HALT for the interlock groups; before RUN no token is inserted (R363). -/
def sequencing (s : State) : Bool := s.dev.dstate == .run

/-- Insert the next tick's token (R86): DTIME has reached its boundary. -/
def insertToken (s : State) : State :=
  if stagingRoom s 1 .A && stagingRoom s 1 .B then
    let t := s.fab.nextTick
    let s := stage (advanceTo s (t.toNat * 10000)) (.token t)
    s.setFab { s.fab with nextTick := t + 1, issued := s.fab.issued + 1 }
  else s

/-- TICK_TOKEN_INSERT (R86). -/
def execTickTokenInsert (s : State) : Out := .next (if sequencing s then insertToken s else s)

/-- The class of a source's traffic (R31): mailbox requests are Management, point updates Input. -/
def Source.cls : Source → Nat
  | .mgmt _ => 3
  | _ => 1

/-- Does group g of source x, at the head of its queue since take t, go before group h of y, at the head since take u: the higher
class, then the older turn, then the earlier arrival (R26, R31, R223, R33). -/
def goesBefore (x : Source) (t : Nat) (g : Group) (y : Source) (u : Nat) (h : Group) : Bool :=
  decide (x.cls < y.cls) || (x.cls == y.cls && (decide (t < u) || (t == u && decide (g.arr.toNat < h.arr.toNat))))

/-- The next complete group: of the heads of the queues that of the highest class, there the one whose turn came first, then the
earliest, and of those complete together the lowest source (R31, R33 rule 3, R223). A frozen queue gives none (R36), a DEAD one
what has crossed already (R356). -/
def nextGroup (s : State) : Option (Source × Group) :=
  (sources.foldl (fun (best : Option (Source × Group × Nat)) x =>
    let q := s.queue (sourceQueue x)
    match (if q.frozen then none else q.held.head?), best with
    | none, b => b
    | some g, none => some (x, g, q.turn)
    | some g, some (y, h, u) => if goesBefore x q.turn g y u h then some (x, g, q.turn) else some (y, h, u)) none).map
    (fun b => (b.1, b.2.1))

/-- A tick's token is due before any group (R33 rule 4). -/
def tokenDue (s : State) : Bool := decide (s.fab.nextTick.toNat * 10000 ≤ s.time.dtime.toNat)

/-- The sequencer takes a whole group and replicates it, holding credit in both staging queues (R33 rules 2, 5). -/
def takeGroup (s : State) : State :=
  match nextGroup s with
  | none => s
  | some (x, g) =>
    if stagingRoom s g.size .A && stagingRoom s g.size .B then
      let q := s.queue (sourceQueue x)
      let s := s.setFab { s.fab with taken := s.fab.taken + 1 }
      stage (s.setQueue (sourceQueue x) ({ q with held := q.held.tail, turn := s.fab.taken }.remove g.size)) (.group g)
    else s

/-- GROUP_TAKEN (R33): a due token goes first. -/
def execGroupTaken (s : State) : Out :=
  .next (if !sequencing s then s else if tokenDue s then s else takeGroup s)

/-- A returned credit arrives, and the producer that waited writes against it (R30, R32). -/
def FQueue.onCredit (now : W64) (q : FQueue) : FQueue :=
  let q := if q.flight > q.occ then q.credit 1 else q
  q.pump now q.waiting

/-- The same for a queue whose entries carry nothing the model names: one entry is written. -/
def FQueue.onCreditBare (q : FQueue) : FQueue :=
  let q := if q.flight > q.occ then q.credit 1 else q
  if q.open && decide (0 < q.avail) then q.write 1 else q

/-- QUEUE_WRITE_ON_CREDIT (R30). Into a staging queue the sequencer alone writes, replicated, when it takes a group or inserts a
token (R33 rule 5), so there no producer waits on a credit. -/
def execQueueWriteOnCredit (qid : BitVec 16) (s : State) : Out :=
  let q := s.queue qid.toNat
  whenPowered s
    (if isInputQueue qid.toNat then s.setInput qid.toNat (q.onCredit s.time.dtime)
     else if sequenced qid.toNat then s else s.setQueue qid.toNat q.onCreditBare)

/-- Two queues feed one port of the switch: their destinations agree, and an execution region takes bulk traffic at a port of its
own (R29). -/
def onePort (q u : Nat) : Bool :=
  q / 1024 % 8 == u / 1024 % 8 &&
    (!decide (q / 1024 % 8 < 2) || decide (Config.queueClass q = 4) == decide (Config.queueClass u = 4))

/-- A region's port has a token or a complete group of class Input ready, for which the sequencer holds staging credit (R31, R33). -/
def inputReady (s : State) (er : Er) : Bool :=
  sequencing s && staged s er &&
    if tokenDue s then stagingRoom s 1 .A && stagingRoom s 1 .B
    else match nextGroup s with
      | some (x, g) => x.cls == 1 && stagingRoom s g.size .A && stagingRoom s g.size .B
      | none => false

/-- The port of the switch that a queue feeds: its destination, and whether it is an execution region's port for bulk traffic (R29). -/
def fabricPort (q : Nat) : Nat := q / 1024 % 8 * 2 + (decide (q / 1024 % 8 < 2) && decide (Config.queueClass q = 4)).toNat

/-- How far region r is from its turn at a port where region `last` was served last: the regions go round-robin (R26). DESIGN CHOICE
(log entry 112): a port that has served none begins with region 0, and the blocks of one region, for whose round R26 gives no weights,
are served in the order of their commands. -/
def turnsUntil (last r : Nat) : Nat := (r + 7 - last) % 8

/-- An entry at the port that queue q feeds is served before q's (R26, R31): one of a higher class, the sequencer's Input traffic for
an execution region among it, or, of the same class, that of a region whose turn comes before. What waits for staging credit
blocks no other class. -/
def outranked (s : State) (q : Nat) : Bool :=
  s.fab.queues.any (fun e => e.1 != q && !sequenced e.1 && decide (0 < e.2.occ) && e.2.open && onePort e.1 q &&
      (decide (Config.queueClass e.1 < Config.queueClass q) ||
        (decide (Config.queueClass e.1 = Config.queueClass q) &&
          decide (turnsUntil (look 7 s.fab.served (fabricPort q)) (e.1 / 8192 % 8) < turnsUntil (look 7 s.fab.served (fabricPort q)) (q / 8192 % 8)))))
    || (match erOf (q / 1024 % 8) with
        | some er => (Config.queueClass q == 2 || Config.queueClass q == 3) && inputReady s er
        | none => false)

/-- QUEUE_ENTRY_REMOVED (R30, R31): the sequencer's input queues are emptied by whole groups (R33) and the staging queues by the
apply phase (R87), so there the command finds no consumer. -/
def execQueueEntryRemoved (qid : BitVec 16) (s : State) : Out :=
  let q := s.queue qid.toNat
  whenPowered s (
    if sequenced qid.toNat || q.frozen || decide (q.occ = 0) || outranked s qid.toNat then s
    else (s.setFab { s.fab with served := put 7 s.fab.served (fabricPort qid.toNat) (qid.toNat / 8192 % 8) }).setQueue qid.toNat (q.remove 1))

end Sys2Proof.Machine
end

