-- ==== Sys2Proof/Machine/Program.lean ====
section
/-! DEFINITION. Facts of a loaded program image that changes, releases and reports need: periods, budgets, migration cost and
carried instances (R91, R140 to R151), and conversions of migrated values. -/

namespace Sys2Proof.Machine

/-- The image of a partition that runs no program yet: its first image replaces it by an on-line change (log entry 26). -/
def emptyProgram (p : Nat) : Program :=
  { part := BitVec.ofNat 7 p, build := 0, edgeInit := false, tasks := [], funcs := [], code := [], const := [], vinit := [], insts := [],
    retain := [], obuild := none, drain := 0, migr := [], bodyLen := 0, minc := 0 }

/-- The image that an on-line change of a partition replaces. -/
def oldProgram (r : Region) (p : Nat) : Program := (programOf r p).getD (emptyProgram p)

/-- A region's runs of one slot, oldest first. -/
def runsOf (r : Region) (slot : BitVec 9) : List Run := r.runs.filter (fun x => x.slot == slot)

/-- One run; a run whose referee outlived its FIXED notice is kept for it (R199, R200). -/
def findRun (r : Region) (slot : BitVec 9) (no : W32) : Option Run := (r.runs ++ r.kept).find? (fun x => x.slot == slot && x.no == no)

/-- Change one run. -/
def modRun (r : Region) (slot : BitVec 9) (no : W32) (f : Run → Run) : Region :=
  let one (x : Run) : Run := if x.slot == slot && x.no == no then f x else x
  { r with runs := r.runs.map one, kept := r.kept.map one }

/-- A slot's counters. -/
def slotOf (r : Region) (slot : BitVec 9) : Slot := look {} r.slots slot.toNat

/-- Write a slot's counters. -/
def setSlot (r : Region) (slot : BitVec 9) (v : Slot) : Region := { r with slots := put {} r.slots slot.toNat v }

/-- Tasks in ascending slot order (R87 step 4). -/
def insertTask (k : Task) : List Task → List Task
  | [] => [k]
  | x :: xs => if k.slot.toNat ≤ x.slot.toNat then k :: x :: xs else x :: insertTask k xs

/-- All tasks of a region's loaded programs, in ascending slot order. -/
def allTasks (r : Region) : List Task :=
  (r.programs.flatMap (fun e => ((e.2.map Program.tasks).getD []))).foldr insertTask []

/-- Source and destination element sizes of a conversion (R140). -/
def convSizes : Nat → Option (Nat × Nat)
  | 0x00 => some (4, 4)
  | 0x01 => some (4, 8)
  | 0x02 => some (8, 4)
  | 0x03 => some (4, 8)
  | 0x04 => some (4, 4)
  | 0x05 => some (4, 4)
  | 0x06 => some (4, 8)
  | 0x07 => some (8, 4)
  | 0x08 => some (4, 8)
  | 0x09 => some (8, 8)
  | 0x0A => some (8, 8)
  | _ => none

/-- The destination length of an entry (R140). -/
def destLen (m : Migr) : Nat :=
  match convSizes m.conv with
  | some (a, b) => m.len / a * b
  | none => 0

/-- One element converted (R140). -/
def convElem (conv : Nat) (v : Nat) : Nat :=
  let w : W64 := BitVec.ofNat 64 v
  let sx : W64 := ((BitVec.ofNat 32 v).signExtend 64)
  match conv with
  | 0x01 => sx.toNat
  | 0x02 => (cvtResult .int64 .int32 false w).1.toNat % 2 ^ 32
  | 0x03 => v
  | 0x04 => (cvtResult .int32 .real32 false sx).1.toNat
  | 0x05 => (cvtResult .real32 .int32 false w).1.toNat % 2 ^ 32
  | 0x06 => (cvtResult .real32 .real64 false w).1.toNat
  | 0x07 => (cvtResult .real64 .real32 false w).1.toNat
  | 0x08 => (cvtResult .int32 .real64 false sx).1.toNat
  | 0x09 => (cvtResult .int64 .real64 false w).1.toNat
  | 0x0A => (cvtResult .real64 .int64 false w).1.toNat
  | _ => v

/-- Convert n elements from ascending addresses (R140). -/
def convElems (conv ss ds : Nat) (src : Mem) : Nat → Nat → Bytes
  | _, 0 => []
  | a, n + 1 => leBytes ds (convElem conv (leNat (src.readBytes a ss))) ++ convElems conv ss ds src (a + ss) n

/-- The bytes that an entry writes. -/
def migrBytes (m : Migr) (src : Mem) : Bytes :=
  if m.conv = 0 then src.readBytes m.ooff m.len
  else
    match convSizes m.conv with
    | some (a, b) => convElems m.conv a b src m.ooff (m.len / a)
    | none => []

/-- Instances of the new image that an old instance of the same `IID` and `KIND` carries into it (R151). -/
def carried (old new : Program) : List (Inst × Inst) :=
  new.insts.filterMap (fun n =>
    if n.kind == 1 then none
    else (old.insts.find? (fun o => o.iid == n.iid && o.kind == n.kind)).map (fun o => (o, n)))

/-- The migration cost M in FAB cycles (R141). -/
def migrationCost (old new : Program) : Nat :=
  (new.migr.foldl (fun n e => n + 16 + (if e.conv = 0 then (e.len + 63) / 64
    else match convSizes e.conv with
      | some (a, _) => e.len / a
      | none => 0)) 0) + 2 * (carried old new).length + 64

/-- The migration length m in ticks (R141). -/
def migrationTicks (old new : Program) : Nat := (migrationCost old new + 6249) / 6250

/-- The smallest period of the cyclic tasks of two images. -/
def leastPeriod (l : List Task) : Option Nat :=
  l.foldl (fun b k => if k.kind == .cyclic then some (match b with | some x => min x k.period | none => k.period) else b) none

/-- The change budget B (R143). -/
def budgetOf (budget : W32) (old new : Program) : Nat :=
  let b := budget.toNat
  if b ≠ 0 then b
  else
    match leastPeriod (old.tasks ++ new.tasks) with
    | some k => 2 * k
    | none => 1000

/-- The predicted gap G (R144). -/
def predictedGap (old new : Program) : Nat := (new.drain + 12499) / 12500 + 2 + migrationTicks old new

/-- The watchdog limit L in CORE cycles (R100). -/
def watchdogLimit (k : Task) : Nat := (k.wdt + 1) * (match k.kind with | .cyclic => k.period | _ => 100) * 12500

/-- The deadline tick of a run's result (R200). -/
def deadlineTick (k : Task) (x : Run) : Nat := x.tick.toNat + (match k.kind with | .cyclic => k.period | _ => 100)

/-- The VAR byte ranges (offset, width) that variable forces of a partition cover in a slot (R154, R157). -/
def forcedWords (r : Region) (g : Program) (slot : BitVec 9) : List (Nat × Nat × W64) :=
  r.forces.filterMap (fun f =>
    if f.vkey && f.part == g.part then
      (g.insts.find? (fun b => b.iid == f.iid && b.kind == 1 && b.slot == slot)).map
        (fun b => (b.voff + f.voff, (if f.ty = 0 ∨ f.ty = 2 ∨ f.ty = 4 then 4 else 8), f.fvalue))
    else none)

/-- A range meets some forced word (R157). -/
def touchesForced (fs : List (Nat × Nat × W64)) (a n : Nat) : Bool := fs.any (fun f => decide (f.1 < a + n ∧ a < f.1 + f.2.1))

/-- Write the forced values into a variable area (R157). -/
def applyForced (fs : List (Nat × Nat × W64)) (v : Mem) : Mem :=
  fs.foldl (fun v f => v.writeBytes f.1 (leBytes f.2.1 f.2.2.toNat)) v

/-- The release decisions of tick t wait for the partition's flip, or for the abandonment of its change: the flip is at tick t, or
the drain has not ended at the last tick that the budget allows (R145, R148, R149). -/
def decisionsWait (r : Region) (t : W64) (p : Nat) : Bool :=
  match look none r.changes p with
  | some c => (c.phase == .migrating && decide (c.tf.toNat ≤ t.toNat))
      || (c.phase == .draining && decide (c.tc.toNat + c.budget ≤ t.toNat + c.m))
  | none => false

/-- FIXED_TICK of a partition in one region; 0 covers every partition (R106). A tick whose release decisions wait is not fixed. -/
def fixedTickOf (r : Region) (p : Nat) : Nat :=
  let mine (q : Nat) : Bool := p == 0 || q == p
  let partOf (slot : BitVec 9) : Nat := ((taskOf r slot).map (fun k => k.part.toNat)).getD 0
  let newest := if r.changes.any (fun e => mine e.1 && decisionsWait r r.tick e.1) then r.tick.toNat - 1 else r.tick.toNat
  let f := r.runs.foldl (fun f x => if mine (partOf x.slot) then min f (x.tick.toNat - 1) else f) newest
  r.samples.foldl (fun f x => if mine x.owner.toNat then min f (x.tick.toNat - 1) else f) f

end Sys2Proof.Machine
end

