-- ==== Sys2Proof/Machine/Regions.lean ====
section
/-! DEFINITION. What every way out of service shares (R184, R192 to R196, R217, R221), and the trial of new firmware, which any
failing criterion ends (R449 to R451). -/

namespace Sys2Proof.Machine

/-! ### Image slots (R436, R441, R442) -/

/-- The image that mapping and build read: the ACTIVE region's, equal in both regions. -/
def State.image (s : State) : Region := s.region s.pair.active

/-- A field of a container's header (R436). -/
def hdr (c : Bytes) (off n : Nat) : Nat := fieldLE c off n

/-- Bytes of a container's header (R436). -/
def hdrBytes (c : Bytes) (off n : Nat) : Bytes := fitBytes n ((c.take 32768).drop off)

/-- The container of a type in a slot. -/
def ISlot.image (x : ISlot) (ty : Nat) : Bytes := look [] x.images ty

/-- `VERSION` of a container. -/
def imgVersion (c : Bytes) : W32 := BitVec.ofNat 32 (hdr c 0x8C 4)
/-- `TWIN` of a container: 0 selects 600 s (R436). -/
def imgTwin (c : Bytes) : Nat := let n := hdr c 0xB8 4; if n = 0 then 600 else n
/-- `CFMT` of a container. -/
def imgCfmt (c : Bytes) : BitVec 16 := BitVec.ofNat 16 (hdr c 0xB4 2)

/-- A region's firmware slot. -/
def fwSlot (g : Img) (er : Er) (one : Bool) : ISlot :=
  match er, one with
  | .A, false => g.fwA0
  | .A, true => g.fwA1
  | .B, false => g.fwB0
  | .B, true => g.fwB1

/-- Write a region's firmware slot. -/
def setFwSlot (g : Img) (er : Er) (one : Bool) (v : ISlot) : Img :=
  match er, one with
  | .A, false => { g with fwA0 := v }
  | .A, true => { g with fwA1 := v }
  | .B, false => { g with fwB0 := v }
  | .B, true => { g with fwB1 := v }

/-- An SR firmware slot. -/
def srSlot (g : Img) (one : Bool) : ISlot := if one then g.sr1 else g.sr0
/-- Write an SR firmware slot. -/
def setSrSlot (g : Img) (one : Bool) (v : ISlot) : Img := if one then { g with sr1 := v } else { g with sr0 := v }

/-- A configuration slot. -/
def cfgSlot (g : Img) (one : Bool) : ISlot := if one then g.cfg1 else g.cfg0
/-- Write a configuration slot. -/
def setCfgSlot (g : Img) (one : Bool) (v : ISlot) : Img := if one then { g with cfg1 := v } else { g with cfg0 := v }

/-- A region's CURRENT firmware slot; the other is where new images go. -/
def fwCurrent1 (g : Img) (er : Er) : Bool := (fwSlot g er true).state == .current
/-- The CURRENT SR firmware slot. -/
def srCurrent1 (g : Img) : Bool := g.sr1.state == .current

/-- A region's firmware slot that is not CURRENT. -/
def newFw (g : Img) (er : Er) : ISlot := fwSlot g er (!fwCurrent1 g er)
/-- Write it. -/
def setNewFw (g : Img) (er : Er) (v : ISlot) : Img := setFwSlot g er (!fwCurrent1 g er) v
/-- The SR firmware slot that is not CURRENT. -/
def newSr (g : Img) : ISlot := srSlot g (!srCurrent1 g)
/-- Write it. -/
def setNewSr (g : Img) (v : ISlot) : Img := setSrSlot g (!srCurrent1 g) v

/-- A slot that runs new firmware: TRIAL or PASSED (R442). -/
def ISlot.trying (x : ISlot) : Bool := x.state == .trial || x.state == .passed

/-- A TRIAL or PASSED slot returns to READY (R451). -/
def ISlot.back (x : ISlot) : ISlot := if x.trying then { x with state := .ready } else x

/-! ### Releases, notices and retracted work (R93, R99, R105) -/

/-- Append to one fixer's releases. -/
def pushRelease (s : State) (er : Er) (x : Release) : State :=
  match er with
  | .A => s.setIr { s.ir with relA := s.ir.relA ++ [x] }
  | .B => s.setIr { s.ir with relB := s.ir.relB ++ [x] }

/-- Append to one fixer's notices. -/
def pushNotice (s : State) (er : Er) (x : Notice) : State :=
  match er with
  | .A => s.setIr { s.ir with notA := s.ir.notA ++ [x] }
  | .B => s.setIr { s.ir with notB := s.ir.notB ++ [x] }

/-- Do something for every region in service, ER-A first. -/
def eachServing (s : State) (f : State → Er → State) : State :=
  let s := if s.serving .A then f s .A else s
  if s.serving .B then f s .B else s

/-- The region that executes and fixes the works released before the join tick (R219, R220): the one that was ACTIVE when its partner
joined, whatever its role since (R187), or the one that is alone in service. -/
def State.lead (s : State) : Er := if s.duplex then s.pair.lead else s.pair.active

/-- The LOOPS_FIXED notices that are due: of each tick, in order, whose samples are all decided (R181). Of ticks before the
join tick the fixer that decides them alone sends them (R219). -/
def loopNotices (s : State) (er : Er) : State :=
  let ticks := ((s.region er).samples.filter (fun x => !x.noticed)).map (fun x => x.tick)
  ticks.foldl (fun s t =>
    let xs := (s.region er).samples
    let due := xs.any (fun x => x.tick == t && !x.noticed)
    if due && xs.all (fun x => x.decided || decide (t.toNat < x.tick.toNat)) then
      let s := s.setRegion er { s.region er with samples := xs.map (fun x => if x.tick = t then { x with noticed := true } else x) }
      if er = s.lead ∨ s.pair.tj.toNat ≤ t.toNat then pushNotice s er (.loopsFixed t) else s
    else s) s

/-! ### Leaving service (R192 to R196, R217, R221) -/

/-- `n` entries or groups discarded at a reset, counted by the queue's producer (R38, R357); kind H, source 591 (R375). -/
def countLost (s : State) (qid n : Nat) : State :=
  let q := s.queue qid
  let v := q.lostAtReset + BitVec.ofNat 32 n
  raiseIf (halfEvent 32 q.lostAtReset.toNat v.toNat) 591 (s.setQueue qid { q with lostAtReset := v })

/-- A region out counts towards the third within 3,600 s (R217). -/
def countOut (s : State) (er : Er) : State × Nat :=
  let now := s.dev.opTime.toNat
  let keep (l : List Nat) : List Nat := l.filter (fun t => decide (now < t + 3600)) ++ [now]
  match er with
  | .A => let l := keep s.pair.outsA; (s.setPair { s.pair with outsA := l, outSinceA := s.dev.opTime }, l.length)
  | .B => let l := keep s.pair.outsB; (s.setPair { s.pair with outsB := l, outSinceB := s.dev.opTime }, l.length)

/-- The region stops: its fixer's releases and notices are dropped, its staging queue is discarded, its runs and samples end. -/
def emptyRegion (s : State) (er : Er) : State :=
  let r := s.region er
  let n := stagingSize r.staging
  let s := s.setRegion er { r with staging := [], runs := [], kept := [], samples := [], keptSamples := [], engines := [] }
  let s := s.setQueue (stagingQueue er) (s.queue (stagingQueue er)).clear
  let s := match er with
    | .A => s.setIr { s.ir with relA := [], notA := [] }
    | .B => s.setIr { s.ir with relB := [], notB := [] }
  if n = 0 then s else countLost s (stagingQueue er) n

/-- The state in which a region is out: UNFIT for a needed block (R207), and so until the module is replaced (R501; log entry 119). -/
def outState (s : State) (er : Er) (unfit : Bool) (st : RegState) : State :=
  if unfit then (s.setHealth { s.health with unfit := s.health.unfit.erase er ++ [er] }).setRegState er .unfit else s.setRegState er st

/-- A region in service goes OUT with its record; no partner takes its place (R26, R27, R193). -/
def regionDown (s : State) (er : Er) (block cause : Nat) : State :=
  if s.serving er then
    let s := raise (recordN s (erNum er) 0x2102 (erNum er) block cause) 1
    syncDev (outState (emptyRegion s er) er (cause == 10) .out)
  else s

/-- A rejoin is abandoned: the joining region is OUT again (R221). -/
def abandonRejoin (s : State) (block : Nat) (unfit : Bool := false) : State :=
  match s.pair.rejoin with
  | none => s
  | some j =>
    let (s, n) := countOut (emptyRegion s j.er) j.er
    let s := outState s j.er unfit (if n ≥ 3 then .held else .out)
    let s := s.setPair { s.pair with rejoin := none }
    syncDev (raise (raise (recordN s (erNum s.pair.active) 0x210A (erNum j.er) j.phase block) 2) 1)

/-- Change a slot's counters in every region in service. -/
def modSlots (s : State) (slot : BitVec 9) (f : Slot → Slot) : State :=
  eachServing s (fun s er => s.setRegion er (setSlot (s.region er) slot (f (slotOf (s.region er) slot))))

/-- Count the entries of a journal that is not fixed (R99): `EKIND` 1 to 3 as outputs, 4 as events, without the close words; source
589 at half range (R375). -/
def retract (s : State) (slot : BitVec 9) (j : List W64) : State :=
  let body := (j.take (j.length - 2)).map (fun e => bits e 63 60)
  let outs := body.filter (fun k => decide (1 ≤ k ∧ k ≤ 3))
  let evs := body.filter (fun k => k == 4)
  let old := slotOf s.image slot
  let s := modSlots s slot (fun x => { x with
    retractedOut := x.retractedOut + BitVec.ofNat 32 outs.length
    retractedEv := x.retractedEv + BitVec.ofNat 32 evs.length })
  let new := slotOf s.image slot
  raiseIf (halfEvent 32 old.retractedOut.toNat new.retractedOut.toNat || halfEvent 32 old.retractedEv.toNat new.retractedEv.toNat) 589 s

/-- Count a discarded sample in every region in service and record it (R181); source 590 at half range (R375). -/
def retractSample (s : State) (slot : BitVec 13) (tick : W64) : State :=
  let n := slot.toNat
  let old := bits ((loopOf s.image n).word 30) 31 0
  let s := eachServing s (fun s er =>
    let l := loopOf (s.region er) n
    s.setRegion er (setLoop (s.region er) n (l.setWord 30 (setBits (l.word 30) 31 0 (bits (l.word 30) 31 0 + 1)))))
  let s := raiseIf (halfEvent 32 old ((old + 1) % 2 ^ 32)) 590 s
  raise (recordN s (erNum s.pair.active) 0x1504 n (loopOf s.image n).owner.toNat (tick.toNat % 2 ^ 32)) 13

/-- The runs and samples that a new ACTIVE region inherited and whose results left with its partner are discarded, and counted as
R99 and R181 say: the entries of each journal that closed. -/
def discardInherited (s : State) (er : Er) : State :=
  let r := s.region er
  let runs := r.runs.filter (fun x => x.inherited && !x.decided)
  let samples := r.samples.filter (fun x => x.inherited && !x.decided)
  let s := s.setRegion er { r with
    runs := r.runs.map (fun x => if x.inherited then { x with decided := true, closedSent := true } else x)
    samples := r.samples.map (fun x =>
      if x.inherited then { x with evaluated := true, decided := true, discarded := x.discarded || !x.decided, inherited := false } else x) }
  let s := runs.foldl (fun s x =>
    pushNotice (if x.phase == .closed then retract s x.slot x.journal else s) er (.fixed x.slot x.no .discarded [])) s
  loopNotices (samples.foldl (fun s x => retractSample s x.slot x.tick) s) er

/-- The mirror ends with the region it wrote into (R220): what waited for it alone, the CLOSED notice of a run that is decided, is
sent. -/
def endMirror (s : State) (er : Er) : State :=
  let xs := (s.region er).runs.filter (fun x => x.decided && !x.closedSent && !x.inherited)
  let s := s.setPair { s.pair with mirror := [] }
  xs.foldl (fun s x => pushNotice (s.setRegion er (modRun (s.region er) x.slot x.no (fun y => { y with closedSent := true }))) er (.closed x.slot x.no)) s

/-- Region er goes on alone: inherited work is its own from now on, and what its partner executed for it is discarded. -/
def takeWork (s : State) (er : Er) : State := discardInherited (endMirror (s.setPair { s.pair with lead := er }) er) er

/-- FIXED_TICK of a partition as the device shows it (R106): it never falls back when a region that is behind becomes ACTIVE. -/
def State.fixedTick (s : State) (p : Nat) : Nat := max (look 0 s.pair.fixedMarks p) (fixedTickOf s.image p)

/-- Keep every partition's FIXED_TICK across a change of the ACTIVE region. -/
def markFixed (s : State) : State :=
  s.setPair { s.pair with fixedMarks := (List.range 128).foldl (fun m p => put 0 m p (s.fixedTick p)) s.pair.fixedMarks }

/-- The partner becomes ACTIVE (R194, R374): reason of SWITCH_OVER. -/
def switchOver (s : State) (new : Er) (reason : Nat) : State :=
  let s := markFixed s
  let s := s.setPair { s.pair with active := new, switches := satInc s.pair.switches }
  let s := s.setRegState new .active
  raise (raise (recordT s (erNum new) 0x2101 (erNum new) reason) 0) 1

/-- The groups that a region's firmware had still to write when its partner became ACTIVE are presented again by that partner (R196,
R477); what was written of the first is no group and goes (R33 rule 2). -/
def presentAgain (s : State) (old : Er) : State :=
  let q := sourceQueue (.mgmt old)
  let x := s.queue q
  if x.waiting.isEmpty then s
  else
    let s := s.setQueue q ({ x with waiting := [], part := 0 }.remove x.part)
    (x.waiting.filter (fun g => g.page.isSome)).foldl (fun s g => submitGroup s (.mgmt (otherEr old)) g.items g.page) s

/-- Region er leaves service for a cause of R192, its partner being in service. -/
def leave (s : State) (er : Er) (block cause reason : Nat) : State :=
  let s := takeWork (if er = s.pair.active then presentAgain (switchOver (abandonRejoin s 0xFFFF) (otherEr er) reason) er else s) (otherEr er)
  let s := raise (recordN s (erNum er) 0x2102 (erNum er) block cause) 1
  let (s, n) := countOut (emptyRegion s er) er
  let s := outState s er (cause == 10) (if n ≥ 3 then .held else .out)
  syncDev (raise s 14)

/-! ### The trial of an update (R448 to R451) -/

/-- Regions that run new firmware. -/
def onNew (s : State) (er : Er) : Bool := (newFw s.img er).trying

/-- Regions that must load their CURRENT set leave, the STANDBY first; one that is alone in service waits for its partner's
rejoin (log entry 27). -/
def reloadRegions (s : State) : State :=
  let one (s : State) (er : Er) : State :=
    if s.img.reload.contains er && s.duplex then
      leave (s.setImg { s.img with reload := s.img.reload.erase er }) er 0xFFFF 11 5
    else s
  one (one s (otherEr s.pair.active)) s.pair.active

/-- An update ends without completion (R451): cause, and the failed `CRIT` bit or 0xFF. -/
def endUpdate (s : State) (cause crit : Nat) : State :=
  match s.img.update with
  | none => s
  | some u =>
    let who := if u.sr then 5 else erNum (u.trialOf.getD s.pair.active)
    let new := [Er.A, Er.B].filter (onNew s)
    let srBack := u.sr && (u.onTrial || !s.sec.running)
    let g := s.img
    let s := s.setImg { g with
      fwA0 := g.fwA0.back, fwA1 := g.fwA1.back, fwB0 := g.fwB0.back, fwB1 := g.fwB1.back, sr0 := g.sr0.back, sr1 := g.sr1.back
      update := none, reload := new.filter s.serving }
    let s := s.setSec { s.sec with announce := none, storeCopy := none, running := s.sec.running && !srBack }
    let s := syncDev (raise (recordN s (if u.sr then 5 else erNum s.pair.active) 0x7204 who cause crit) 667)
    let s := match s.pair.rejoin with
      | some j => if new.contains j.er || u.trialOf == some j.er then
          let s := (emptyRegion s j.er).setRegState j.er .out
          syncDev (raise (raise (s.setPair { s.pair with rejoin := none }) 2) 1) else s
      | none => s
    reloadRegions s

/-- The container whose `TWIN`, `TMIN` and `CRIT` govern the running trial. -/
def trialImage (s : State) (u : Update) : Bytes :=
  if u.sr then (newSr s.img).image 1 else (newFw s.img (u.trialOf.getD s.pair.active)).image 3

/-- A trial of R448 is under way for a region, or for SR. -/
def onTrialOf (s : State) (er : Option Er) : Bool :=
  (s.img.update.map (fun u => u.onTrial && (match er with | some e => !u.sr && u.trialOf == some e | none => u.sr))).getD false

/-- A criterion of R449 has failed: the trial ends at once when `CRIT` selects it (R450). -/
def critFails (s : State) (b : Nat) : State :=
  match s.img.update with
  | none => s
  | some u => if u.onTrial && (hdr (trialImage s u) 0xC0 4).testBit b then endUpdate s 2 b else s

/-- Criterion [4]: `TSTATE` is LOCKED when `TSRC` is 0b01. -/
def trialLock (s : State) : State := if bits s.time.rec0 63 62 = 1 && s.time.tstate != 2 then critFails s 4 else s

/-- Criterion [2]: the device is in DUPLEX. -/
def trialDuplex (s : State) : State := if s.duplex then s else critFails s 2

/-- FIXED_TICK of every partition that runs a program. -/
def fixedTicks (s : State) : List (Nat × Nat) := (s.image.programs.map Prod.fst).map (fun p => (p, s.fixedTick p))

/-- A trial starts (R450): at the join tick of a region, or when SR has restarted. -/
def startTrial (s : State) : State :=
  match s.img.update with
  | none => s
  | some u =>
    let er := u.trialOf.getD s.pair.active
    let g := if u.sr then setNewSr s.img { newSr s.img with state := .trial } else setNewFw s.img er { newFw s.img er with state := .trial }
    let s := s.setImg { g with update := some { u with onTrial := true, trialStart := s.dev.opTime, lastFixed := fixedTicks s } }
    let who := if u.sr then 5 else erNum er
    let s := raise (recordT s (if u.sr then 5 else erNum s.pair.active) 0x7202 who (imgTwin (trialImage s u))) 665
    trialLock (trialDuplex s)

/-- A region in service leaves while its partner stays (R192): a region on trial loses criterion [0], and the loss of DUPLEX
is criterion [2]. -/
def takeOut (s : State) (er : Er) (block cause reason : Nat) : State :=
  let mine := onTrialOf s (some er)
  let s := leave s er block cause reason
  if mine then critFails s 0 else trialDuplex s

/-- A region in service leaves and no partner takes its place: a region on trial loses criterion [0] with it (R449). -/
def endRegion (s : State) (er : Er) (block cause : Nat) : State :=
  let mine := onTrialOf s (some er)
  let s := regionDown s er block cause
  if mine then critFails s 0 else s

end Sys2Proof.Machine
end

