-- ==== Sys2Proof/Machine/Tasks.lean ====
section
/-! DEFINITION. The apply phase of one region: staged groups, triggers, run notices, release decisions and the loop gather;
the stamp sweep, exposure and dispatch of runs (R45, R85 to R107, R142 to R146, R169, R170). -/

namespace Sys2Proof.Machine

/-- What a region's apply phase asks of the rest of the device. Events of the staging stream are submitted once, by the
ACTIVE region (R391); a release goes to the region's own fixer. -/
inductive Eff where
  | record (code p1 p2 p3 : Nat)
  | raise (n : Nat)
  | done (page : BitVec 7 × BitVec 16) (st : Stat)
  | refuse (why : Stat)
  | swap
  | lio (pin : Nat) (w : W64)
  | eqWrite (eq : Nat) (words : List W64) (page : Option (BitVec 7 × BitVec 16))
  | eqAck (eq : Nat) (part : BitVec 7) (page : Option (BitVec 7 × BitVec 16))
  | release (x : Release)
  deriving DecidableEq, Repr

/-! ### Items (R53, R62, R67, R142, R154, R163 to R168, R179) -/

/-- An accepted record write (R168): bytes 0x00 to 0xBF, the state kept or cleared. DESIGN CHOICE (log entry 115): a write that keeps
the state clears `SPSET` too, which R166 defines from the record's last write on. -/
def writeLoop (l : Loop) (ws : List W64) : Loop :=
  let keep := l.valid && bits (l.word 2) 19 0 == bits (ws.getD 2 0) 19 0
  let started := !bit (l.word 0) 62 && bit (ws.getD 0 0) 62
  let l := { l with words := putAll 0 l.words 0 (ws.take 24) }
  let l := if keep then l else { l with words := putAll 0 l.words 24 [0, 0, 0, 0, 0], held := false }
  let w := setBit (l.word 28) 61 false
  l.setWord 28 (if started then setBit w 62 false else w)

/-- A change of `RUN` (R168). -/
def runLoop (l : Loop) (on : Bool) : Loop :=
  let l' := l.setWord 0 (setBit (l.word 0) 62 on)
  if on && !bit (l.word 0) 62 then l'.setWord 28 (setBit (l'.word 28) 62 false) else l'

/-- The attribute word and type that a pin mode gives the pin's point (R59, R82). -/
def pinPoint (cfg : W64) : Nat × Nat :=
  match bits cfg 2 0 with
  | 1 => (tyBool, 2)
  | 2 => (tyBool, 7)
  | 3 => (tyUint, 7)
  | 4 => (tyUint, 2)
  | _ => (tyNone, 0)

/-- A pin configuration at the image (R59): a new type resets the point, a new direction takes its attribute word. -/
def configPin (r : Region) (t : W64) (pin : Nat) (cfg : W64) : Region :=
  let (ty, mode) := pinPoint cfg
  let old := modeOf r pin
  let same := typeOf r pin == ty && (old == mode || (isOutput old && isOutput mode))
  if same then r else setType r t pin ty (BitVec.ofNat 64 (mode * 2 ^ 61))

/-- A change report without records (R160, R161). -/
def bareReport (result : Nat) (tc t : W64) (g b : Nat) : Report :=
  { result := BitVec.ofNat 32 result, tc := tc, tend := t, gapp := BitVec.ofNat 16 (min g 65535),
    budget := BitVec.ofNat 16 (min b 65535), recs := [] }

/-- Write a partition's change report. -/
def setReport (r : Region) (p : Nat) (x : Report) : Region := { r with reports := put none r.reports p (some x) }

/-- Discard a waiting image and its change. -/
def dropWaiting (r : Region) (p : Nat) : Region :=
  { r with waiting := put none r.waiting p none, changes := put none r.changes p none }

/-- A change request applied at tick t (R142, R144), with the budget that stood when it was presented. -/
def requestChange (r : Region) (t : W64) (p : Nat) (tc : W64) (budget : W32) : Region × List Eff :=
  match look none r.waiting p with
  | some new =>
    let old := oldProgram r p
    let g := predictedGap old new
    let b := budgetOf budget old new
    let tc := if t.toNat ≥ tc.toNat then t + 1 else tc
    if g > b then
      (setReport (dropWaiting r p) p (bareReport 1 tc t g b), [.record 0x1402 p g b, .raise 10, .refuse .refused])
    else
      let c : Change := { phase := .requested, tc := tc, td := 0, tf := 0, gap := g, budget := b, m := migrationTicks old new }
      ({ r with changes := put none r.changes p (some c), reports := put none r.reports p none }, [])
  | none => (r, [.refuse .refused])

/-- A cancel applied at tick t (R142): only before the change point. Without a change request the waiting image alone goes, and
the last request's report stays (R160). -/
def cancelChange (r : Region) (t : W64) (p : Nat) : Region × List Eff :=
  match look none r.changes p, look none r.waiting p with
  | none, some _ => (dropWaiting r p, [])
  | some c, some _ =>
    if c.phase == .requested && decide (t.toNat < c.tc.toNat) then
      (setReport (dropWaiting r p) p (bareReport 3 c.tc t c.gap c.budget), [])
    else (r, [.refuse .refused])
  | _, _ => (r, [.refuse .refused])

/-- Give a task slot one trigger or more (R101, R103). -/
def addTriggers (r : Region) (slot : BitVec 9) (n : W32) : Region :=
  match taskOf r slot with
  | some k =>
    if k.kind == .event then let x := slotOf r slot; setSlot r slot { x with pendingTrigs := x.pendingTrigs + n } else r
  | none => r

/-- The cause of a station drop-out for every partition that owns or exposes one of the station's points (R104). -/
def dropOutCauses (r : Region) (st : Nat) (pts : List Nat) : Region × List Eff :=
  (List.range 128).foldl (fun (acc : Region × List Eff) p =>
    if pts.any (fun i => ownerOf acc.1 i == p || exposes acc.1 p i) then
      let (r, un) := queueCause acc.1 p 2 st
      (r, if un then acc.2 ++ [.record 0x1104 p 2 (st % 2 ^ 32)] else acc.2)
    else acc) (r, [])

/-- The sum of R182 over the valid loops of a table, in units of 2^-40 samples per tick. -/
def loopLoad (loops : SMap Loop) : Nat :=
  loops.foldl (fun n e =>
    let k := bits (e.2.word 0) 26 0
    if e.2.valid && k != 0 then n + (2 ^ 40 + k - 1) / k else n) 0

/-- The admission rule (R182). -/
def admitted (loops : SMap Loop) : Bool := decide (loopLoad loops ≤ 4000 * 2 ^ 40)

/-- Reserved fields of a loop record, and fields that must be zero in its modes (R164, R165). -/
def loopClean (ws : List W64) : Bool :=
  let w (k : Nat) : W64 := ws.getD k 0
  let ff := bits (w 1) 61 60
  zeroBits (w 0) 61 59 && zeroBits (w 0) 31 27 && decide (bits (w 1) 63 62 < 2) && decide (ff < 3) && zeroBits (w 1) 59 52
    && zeroBits (w 1) 31 27 && zeroBits (w 2) 63 52 && zeroBits (w 2) 31 20 && (bits (w 1) 63 62 == 0 || bits (w 1) 51 32 == 0)
    && (ff != 0 || bits (w 2) 51 32 == 0) && (ff == 2 || w 5 == 0) && w 6 == 0 && w 7 == 0 && w 15 == 0 && w 23 == 0
    && (List.range 7).all (fun k => zeroBits (w (8 + k)) 31 5 && zeroBits (w (16 + k)) 31 5)

/-- A 32-bit integer point. -/
def intPoint (r : Region) (i : Nat) : Bool := typeOf r i == tyInt || typeOf r i == tyUint

/-- The checks of R167 but for admission, when the request is served and again at its apply phase (R168). -/
def loopRecordOk (r : Region) (p : BitVec 7) (slot : Nat) (ws : List W64) : Bool :=
  let w (k : Nat) : W64 := ws.getD k 0
  let s32 (k hi lo : Nat) : Int := (BitVec.ofNat 32 (bits (w k) hi lo)).toInt
  let ff := bits (w 1) 61 60
  let readable (i : Nat) : Bool := mayRead r p.toNat i && intPoint r i
  let o := bits (w 2) 19 0
  let omax := s32 3 63 32
  let omin := s32 3 31 0
  let lists := ((programOf r p.toNat).toList ++ (look none r.waiting p.toNat).toList).any (fun g => g.tasks.any (fun k => k.outs.any (fun x => x.toNat == o)))
  let c := cidxOf (attrOf r o)
  let ty := typeOf r o
  bit (w 0) 63 && bits (w 0) 58 52 == p.toNat && loopClean ws
    && decide (2 ≤ bits (w 0) 26 0 ∧ bits (w 0) 26 0 ≤ 100000000 ∧ bits (w 1) 26 0 < bits (w 0) 26 0)
    && readable (bits (w 0) 51 32) && (bits (w 1) 63 62 != 0 || readable (bits (w 1) 51 32)) && (ff == 0 || readable (bits (w 2) 51 32))
    && ownerOf r o == p.toNat && isOutput (modeOf r o) && intPoint r o && !lists
    && !r.loops.any (fun e => e.1 != slot && e.2.valid && bits (e.2.word 2) 19 0 == o)
    && decide (omin ≤ omax) && decide (s32 4 31 0 ≤ s32 4 63 32) && !(ty == tyUint && decide (omin < 0))
    && (c == 0 || (inRange ty (limitOf r c) (BitVec.ofInt 32 omin) && inRange ty (limitOf r c) (BitVec.ofInt 32 omax)))
    && (ff != 2 || (decide (0 < s32 5 63 32) && decide (0 < s32 5 31 0)))

/-- A slot of a range holds a valid record of another partition, and is not reassigned (R163). -/
def assignTaken (r : Region) (first count : Nat) (part : BitVec 7) : Bool :=
  r.loops.any (fun e => decide (first ≤ e.1 ∧ e.1 < first + count) && e.2.valid && e.2.owner != part)

/-- A force of the partition replaces an entry that it already holds. -/
def holdsForce (r : Region) (f : Force) : Bool := r.forces.any (fun g => sameForce f g && g.part == f.part)

/-- The force table and the partition's share of it have room for a force (R154). -/
def forceRoom (r : Region) (f : Force) : Bool :=
  holdsForce r f || (decide ((r.forces.filter (fun g => g.part == f.part)).length < 1024) && decide (r.forces.length < 16384))

/-- The image writer and firmware apply one entry of a group at tick t (R87 step 1). Run notices are step 3. Nothing outside the
region decides what an entry does, so both regions do the same (R88). -/
def applyItem (r : Region) (t : W64) : Item → Region × List Eff
  | .input i v bad ovr => (updateInput r t i.toNat v bad ovr, [])
  | .count48 i raw w e bad => (updateCount r t i.toNat raw w e bad, [])
  | .shortField i =>
    let own := match forceOn r i.toNat with
      | some f => f.shadow.setWidth 32
      | none => valueOf (look 0 r.image i.toNat)
    (updateInput r t i.toNat own true false, [])
  | .released i v good bad clamped forced inter => (updateReleased r t i.toNat v good bad clamped forced inter, [])
  | .status i clr =>
    (if clr then setWord r i.toNat (setBit (look 0 r.image i.toNat) sGood false) else r, [])
  | .interlocked i v on =>
    (if isOutput (modeOf r i.toNat) then renew (setWord r i.toNat (setBit (withValue (look 0 r.image i.toNat) v) sInter on)) t i.toNat
      else r, [])
  | .stale st => ((stationPoints r st.toNat).foldl markStale r, [])
  | .dropOut st =>
    let pts := stationPoints r st.toNat
    dropOutCauses (pts.foldl substitute r) st.toNat pts
  | .tripState eq on task =>
    let i := 0x70 + eq.toNat
    let r := renew (setWord r i (setBit (withValue (look 0 r.image i) (if on then 1 else 0)) sGood true)) t i
    (match task with
      | some slot => if on then addTriggers r slot 1 else r
      | none => r, [])
  | .closed _ _ => (r, [])
  | .fixed _ _ _ _ => (r, [])
  | .loopsFixed _ => (r, [])
  | .setpoint slot v =>
    (if (loopOf r slot.toNat).valid then
      changeLoop r slot.toNat (fun l =>
        let l := l.setWord 26 (setBits (l.word 26) 63 32 v.toNat)
        l.setWord 28 (setBit (l.word 28) 61 true))
    else r, [])
  | .bank slot b =>
    if (loopOf r slot.toNat).valid then
      (changeLoop r slot.toNat (fun l => l.setWord 28 (setBit (l.word 28) 63 b)), [.record 0x1505 slot.toNat b.toNat (t.toNat % 2 ^ 32)])
    else (r, [])
  | .grant e w => ({ r with grants := put 0 r.grants e.toNat w }, [])
  | .attr i ty w => (setAttr r t i.toNat ty.toNat w, [])
  | .limit i w => ({ r with limits := put 0 r.limits i.toNat w }, [])
  | .owner i p => (setOwner r i.toNat p.toNat, [])
  | .loopWrite slot p ws =>
    let n := slot.toNat
    let r' := changeLoop r n (fun l => writeLoop l ws)
    if (loopOf r n).owner != p then (r, [.refuse .notFound])
    else if !loopRecordOk r p n ws then (r, [.record 0x1502 n p.toNat 2, .raise 13, .refuse .refused])
    else if admitted r'.loops then (r', [.record 0x1501 n p.toNat (t.toNat % 2 ^ 32)])
    else (r, [.record 0x1502 n p.toNat 1, .raise 13, .refuse .admission])
  | .loopRun slot on =>
    (if (loopOf r slot.toNat).valid then changeLoop r slot.toNat (fun l => runLoop l on) else r, [])
  | .loopAssign first count part =>
    if assignTaken r first count part then (r, [.refuse .refused])
    else ((List.range count).foldl (fun r n =>
      if (loopOf r (first + n)).owner = part then r
      else changeLoop r (first + n) (fun l => { (l.setWord 29 0).setWord 30 0 with owner := part })) r, [])
  | .loopRemove slot => (changeLoop r slot.toNat (fun l => { l with words := putAll 0 l.words 0 (List.replicate 24 0) }), [])
  | .forceSet p w0 w1 w2 =>
    let f := forceOf p w0 w1 w2 t
    if !forceRoom r f then (r, [.refuse .noSpace]) else
    let i := f.point.toNat
    let (v, c) := clampPoint r i (holdPoint (typeOf r i) (f.fvalue.setWidth 32))
    let out := !f.vkey && !isInput (modeOf r i)
    (startForce r f,
      [.record 0x1405 p.toNat (if f.vkey then f.iid.toNat else i) (t.toNat % 2 ^ 32)]
        ++ (if out then [.release (.value none f.point v false c true t)] else []))
  | .forceRemove p w0 w1 =>
    let f := forceOf p w0 w1 0 t
    (endForce r f, [.record 0x1406 p.toNat (if f.vkey then f.iid.toNat else f.point.toNat) (t.toNat % 2 ^ 32)])
  | .change p tc b => requestChange r t p.toNat tc b
  | .changeCancel p => cancelChange r t p.toNat
  | .roleSwap => (r, [.swap])
  | .lio pin w => (configPin r t pin w, [.lio pin w])
  | .eqWrite eq ws => (r, [.eqWrite eq.toNat ws none])
  | .eqAck eq p => (r, [.eqAck eq.toNat p none])

/-- Apply one group: its entries in order, then the answer to the request that presented it (R186). -/
def applyGroup (t : W64) (acc : Region × List Eff) (g : Group) : Region × List Eff :=
  let (r, es) := g.items.foldl (fun (a : Region × List Eff) x =>
    let (r, e) := applyItem a.1 t x
    (r, a.2 ++ e)) (acc.1, [])
  let refusal : Option Stat := es.findSome? (fun e => match e with | .refuse why => some why | _ => none)
  -- IR decides an equation's rewrite and its acknowledge, and so their answer
  let inIr := es.any (fun e => match e with | .eqWrite _ _ _ => true | .eqAck _ _ _ => true | _ => false)
  let es := es.filterMap (fun e => match e with
    | .refuse _ => none
    | .eqWrite n ws _ => some (.eqWrite n ws g.page)
    | .eqAck n p _ => some (.eqAck n p g.page)
    | e => some e)
  (r, acc.2 ++ es ++ (match g.page with | some p => if inIr then [] else [.done p (refusal.getD .ok)] | none => []))

/-! ### Triggers and notices (R93, R101 to R104) -/

/-- The triggers that one event task's own condition gives after the apply phase (R101, R102). -/
def pointTriggers (r : Region) (k : Task) : W32 :=
  let i := k.tpoint.toNat
  let ty := typeOf r i
  let was := look 0 r.prev i
  let now := look 0 r.image i
  let cmp (w : W64) := pointCmp ty (valueOf w) k.tlevel
  let one (b : Bool) : W32 := if b then 1 else 0
  match k.trig with
  | 1 => one (match cmp now, cmp was with | some a, some b => decide (a > 0) && !decide (b > 0) | _, _ => false)
  | 2 => one (match cmp now, cmp was with | some a, some b => decide (a < 0) && !decide (b < 0) | _, _ => false)
  | 3 => one (valueOf now != valueOf was && (match pointCmp ty (valueOf now) (valueOf was) with | some d => d != 0 | none => true))
  | 4 => one (!bit now sGood && bit was sGood)
  | 5 => valueOf (look 0 r.image (0xE0 + i)) - valueOf (look 0 r.prev (0xE0 + i))
  | _ => 0

/-- Trigger evaluation of the given tasks (R87 step 2). -/
def evalTriggers (r : Region) (ks : List Task) : Region :=
  ks.foldl (fun r k =>
    if k.kind == .event then
      let n := pointTriggers r k
      if n = 0 then r else addTriggers r k.slot n
    else r) r

/-- Queue a cause and record it where the partition has no error task (R104). -/
def causeEff (r : Region) (p code param : Nat) : Region × List Eff :=
  let (r, un) := queueCause r p code param
  (r, if un then [.record 0x1104 p code (param % 2 ^ 32)] else [])

/-- One run notice (R93): a run counts as closed, or is fixed, discarded or aborted and its exposure freed. -/
def applyNotice (acc : Region × List Eff) : Item → Region × List Eff
  | .closed slot no => (modRun acc.1 slot no (fun x => { x with closedApplied := true }), acc.2)
  | .fixed slot no out evs =>
    let r := acc.1
    let k := taskOf r slot
    let p := (k.map (fun k => k.part.toNat)).getD 0
    let isErr := (k.map (fun k => k.kind == .error)).getD false
    let mine (x : Run) : Bool := x.slot == slot && x.no == no
    let r := { r with kept := r.kept ++ r.runs.filter (fun x => mine x && x.refereeing), runs := r.runs.filter (fun x => !mine x) }
    let param := slot.toNat * 2 ^ 32 + no.toNat
    match out with
    | .fixed => (evs.foldl (fun r e => addTriggers r e.1 (e.2.setWidth 32)) r, acc.2)
    | .discarded => let (r, e) := causeEff r p 4 param; (r, acc.2 ++ e)
    | .aborted => if isErr then (r, acc.2) else let (r, e) := causeEff r p 1 param; (r, acc.2 ++ e)
  | .loopsFixed t =>
    let r := acc.1
    let done (x : Sample) : Bool := decide (x.tick.toNat ≤ t.toNat)
    ({ r with keptSamples := r.keptSamples ++ r.samples.filter (fun x => done x && x.refereeing), samples := r.samples.filter (fun x => !done x) }, acc.2)
  | _ => acc

/-- The denials of the previous tick enter the cause queues (R63, R104). -/
def applyDenials (acc : Region × List Eff) : Region × List Eff :=
  let ds := acc.1.denials
  ds.foldl (fun (a : Region × List Eff) d =>
    let (r, e) := causeEff a.1 d.1.toNat 3 d.2.2.toNat
    (r, a.2 ++ e)) ({ acc.1 with denials := [] }, acc.2)

/-! ### On-line change at an apply phase (R145, R146) -/

/-- Advance a partition's change at tick t: the change point is reached, the drain ends, if it ends in time (R146, R148). -/
def advanceChange (r : Region) (t : W64) (p : Nat) (c : Change) : Change :=
  let c := if c.phase == .requested && decide (t.toNat ≥ c.tc.toNat) then { c with phase := .draining } else c
  let open_ := r.runs.any (fun x => ((taskOf r x.slot).map (fun k => k.part.toNat == p)).getD false && decide (x.tick.toNat < c.tc.toNat))
  if c.phase == .draining && !open_ && decide (t.toNat + c.m ≤ c.tc.toNat + c.budget) then { c with phase := .migrating, td := t, tf := t + BitVec.ofNat 64 c.m } else c

/-- Advance every change. -/
def advanceChanges (r : Region) (t : W64) : Region :=
  { r with changes := r.changes.map (fun e => (e.1, e.2.map (advanceChange r t e.1))) }

/-- Releases of partition p are held (R92, R145). -/
def heldByChange (r : Region) (p : Nat) : Bool :=
  match look none r.changes p with
  | some c => c.phase != .requested
  | none => false

/-- The change of some partition has its flip at tick t and its migration has not ended (R147). -/
def awaitsMigration (r : Region) (t : W64) : Bool :=
  r.changes.any (fun e => match e.2 with
    | some c => c.phase == .migrating && !c.migrated && decide (c.tf.toNat ≤ t.toNat)
    | none => false)

/-! ### Release decisions (R91, R92, R94) -/

/-- A task is due at tick t (R91). -/
def taskDue (r : Region) (t : W64) (k : Task) : Bool :=
  match k.kind with
  | .cyclic => decide (t.toNat ≥ k.phase) && (t.toNat - k.phase) % k.period == 0
  | .event => r.prevTrig.contains k.slot.toNat && (slotOf r k.slot).pendingTrigs != 0
  | .error => r.prevCause.contains k.part.toNat && !(look {} r.causes k.part.toNat).items.isEmpty

/-- A cause as a header word. -/
def causeWord (c : Cause) : W64 := BitVec.ofNat 64 (c.code.toNat * 2 ^ 48 + c.param.toNat)

/-- Release run (slot, runs + 1) at tick t: the run header takes the pending triggers or causes (R94, R103, R104), and the
run keeps the variable forces in force at its release (R157). -/
def releaseRun (r : Region) (t : W64) (k : Task) : Region :=
  let x := slotOf r k.slot
  let no := x.runNo + 1
  let q := look {} r.causes k.part.toNat
  let taken := if k.kind == .error then q.items.take 4 else []
  let trigs : W32 := match k.kind with
    | .event => x.pendingTrigs
    | .error => BitVec.ofNat 32 taken.length
    | .cyclic => 0
  let lost : W32 := if k.kind == .error then q.lost else 0
  let word (hi lo : W32) : W64 := BitVec.ofNat 64 (hi.toNat * 2 ^ 32 + lo.toNat)
  let header := [t, t * 10000, word trigs no, word lost (BitVec.ofNat 32 taken.length)]
    ++ (taken.map causeWord ++ List.replicate (4 - taken.length) 0)
  let left : W32 := if k.kind == .event then 0 else x.pendingTrigs
  let r := setSlot r k.slot { x with runNo := no, runs := x.runs + 1, triggers := x.triggers + trigs, pendingTrigs := left }
  let r := if k.kind == .error then { r with causes := put {} r.causes k.part.toNat { items := q.items.drop 4, lost := 0 } } else r
  let fs := ((programOf r k.part.toNat).map (fun g => forcedWords r g k.slot)).getD []
  { r with runs := r.runs ++ [{ slot := k.slot, no := no, tick := t, prio := k.prio, header := header, forced := fs }] }

/-- A skipped release (R92): the overrun counter is kind H (R105, R375). -/
def skipRelease (r : Region) (t : W64) (k : Task) (code : Nat) : Region × List Eff :=
  let x := slotOf r k.slot
  let n := x.overrun + 1
  (setSlot r k.slot { x with overrun := n },
    [.record code k.slot.toNat k.part.toNat (t.toNat % 2 ^ 32), .raise 11]
      ++ (if halfEvent 32 x.overrun.toNat n.toNat then [.raise 589] else []))

/-- The release decision of one due task (R92). -/
def decideRelease (t : W64) (acc : Region × List Eff) (k : Task) : Region × List Eff :=
  let r := acc.1
  if !taskDue r t k then acc
  else if heldByChange r k.part.toNat then
    (if k.kind == .cyclic then let x := slotOf r k.slot; setSlot r k.slot { x with heldReleases := x.heldReleases + 1 } else r, acc.2)
  else
    let xs := runsOf r k.slot
    let running := match xs.getLast? with
      | some x => !x.closedApplied
      | none => false
    if running then let (r, e) := skipRelease r t k 0x1101; (r, acc.2 ++ e)
    else if xs.length ≥ 2 then let (r, e) := skipRelease r t k 0x1102; (r, acc.2 ++ e)
    else (releaseRun r t k, acc.2)

/-! ### Loop gather (R169, R170) -/

/-- A loop is due at tick t (R169). -/
def loopDue (t : W64) (l : Loop) : Bool :=
  let k := bits (l.word 0) 26 0
  let ph := bits (l.word 1) 26 0
  l.valid && bit (l.word 0) 62 && decide (k ≠ 0) && decide (t.toNat ≥ ph) && (t.toNat - ph) % k == 0

/-- Gather one sample's inputs (R170). -/
def gatherSample (r : Region) (t : W64) (slot : Nat) (l : Loop) : Sample :=
  let p := l.owner.toNat
  let rd (i : Nat) : W64 := readableWord r t p i
  { slot := BitVec.ofNat 13 slot, tick := t, owner := l.owner, words := l.words, meas := rd (bits (l.word 0) 51 32),
    setp := if bits (l.word 1) 63 62 = 0 then rd (bits (l.word 1) 51 32) else 0,
    ff := if bits (l.word 1) 61 60 = 0 then 0 else rd (bits (l.word 2) 51 32),
    outp := rd (bits (l.word 2) 19 0) }

/-- The loop gather of tick t, in ascending slot order. -/
def gatherLoops (r : Region) (t : W64) : Region :=
  { r with samples := r.samples ++ (r.loops.filter (fun e => loopDue t e.2)).map (fun e => gatherSample r t e.1 e.2) }

/-! ### The apply phase -/

/-- The groups before the first token, the token's tick and the rest of the stream. -/
def splitStaging : List Stage → Option (List Group × W64 × List Stage)
  | [] => none
  | .token t :: rest => some ([], t, rest)
  | .group g :: rest => (splitStaging rest).map (fun x => (g :: x.1, x.2.1, x.2.2))

/-- Steps 1 to 4 of R87 for tick t, and the loop gather. -/
def applyTick (r : Region) (gs : List Group) (t : W64) (rest : List Stage) : Region × List Eff :=
  let pendT := (r.slots.filter (fun e => e.2.pendingTrigs != 0)).map Prod.fst
  let pendC := (r.causes.filter (fun e => !e.2.items.isEmpty)).map Prod.fst
  let r := { r with staging := rest, applied := r.applied + 1, tick := t, prev := r.image, prevTrig := pendT, prevCause := pendC }
  let (r, es) := gs.foldl (applyGroup t) (r, [])
  let flips (k : Task) : Bool := match look none r.changes k.part.toNat with
    | some c => c.phase == .migrating && decide (c.tf.toNat ≤ t.toNat)
    | none => false
  let r := evalTriggers r ((allTasks r).filter (fun k => !flips k))
  let (r, es) := gs.foldl (fun a g => g.items.foldl applyNotice a) (r, es)
  let (r, es) := applyDenials (r, es)
  let r := advanceChanges r t
  let (r, es) := ((allTasks r).filter (fun k => !decisionsWait r t k.part.toNat)).foldl (decideRelease t) (r, es)
  (gatherLoops r t, es)

/-- Complete a request whose group was applied at tick t (R186, R479): the response carries the tick. -/
def finishPage (s : State) (t : W64) (page : BitVec 7 × BitVec 16) (st : Stat) : State :=
  let pg := s.page page.1
  if s.hr.running && pg.busy && pg.seqNo == page.2 then (if st = .ok then answer s page.1 (leBytes 8 t.toNat) else turnAway s page.1 st) else s

end Sys2Proof.Machine
end

