-- ==== Sys2Proof/Machine/Field.lean ====
section
/-! DEFINITION. Field channels (R223 to R264, R490, R505): receive buffers and the mapping unit, transmit buffers, the time
master, station supervision, error confinement, stop and isolation; and the meanings of the channel events. -/

namespace Sys2Proof.Machine

/-! ### Access -/

/-- Change one channel. -/
def modChan (s : State) (c : Nat) (f : Channel → Channel) : State := s.setChan c (f (s.chan c))

/-- A receive buffer. -/
def Channel.rxb (ch : Channel) (b : Nat) : RxBuf := look {} ch.rx b
/-- A transmit buffer. -/
def Channel.txb (ch : Channel) (b : Nat) : TxBuf := look {} ch.tx b
/-- A station record. -/
def Channel.st (ch : Channel) (n : Nat) : Station := look {} ch.stations n

/-- Change a receive buffer. -/
def modRx (s : State) (c b : Nat) (f : RxBuf → RxBuf) : State :=
  modChan s c (fun ch => { ch with rx := put {} ch.rx b (f (ch.rxb b)) })
/-- Change a transmit buffer. -/
def modTx (s : State) (c b : Nat) (f : TxBuf → TxBuf) : State :=
  modChan s c (fun ch => { ch with tx := put {} ch.tx b (f (ch.txb b)) })
/-- Change a station. -/
def modSt (s : State) (c n : Nat) (f : Station → Station) : State :=
  modChan s c (fun ch => { ch with stations := put {} ch.stations n (f (ch.st n)) })

/-- A source of channel c (R264). -/
def chanSource (s : State) (c k : Nat) : State := raise s (288 + 8 * c + k)

/-- Word k of the channel record (R226). -/
def Channel.cw (ch : Channel) (k : Nat) : W64 := ch.record.getD k 0
/-- `OPMODE`. -/
def Channel.opmode (ch : Channel) : Nat := bits (ch.cw 0) 62 60
/-- `TMEN`. -/
def Channel.tmen (ch : Channel) : Bool := bit (ch.cw 0) 55

/-- What drives the pins of a channel (R225): the integrated transceiver drives FBn_H and FBn_L and leaves FBn_TXD and FBn_RXD at
high impedance; or the controller drives FBn_TXD and reads FBn_RXD, with mode signalling by PWM symbols in XL FAST mode, and FBn_H
and FBn_L are at high impedance. -/
inductive BusPins where
  | integrated
  | external (pwm : Bool)
  deriving DecidableEq, Repr

/-- The pins that the channel record selects (R225). -/
def Channel.pins (ch : Channel) : BusPins := if bit (ch.cw 0) 59 then .external (bit (ch.cw 0) 56) else .integrated

/-! ### Counters (R262, R263) -/

/-- Kind of channel counter i, in the order of R262: 0 H, 1 W, 2 S. -/
def chanKind (i : Nat) : Nat :=
  if i ∈ [0, 3, 4, 5, 6, 7, 8, 9] then 0 else if i ∈ [1, 2, 18, 19] then 1 else 2

/-- Add n to channel counter i (R13, R262); a kind H counter raises source 556 + c at half range (R375). -/
def countCh (s : State) (c i n : Nat) : State :=
  let old := look 0 (s.chan c).counters i
  let new := if chanKind i = 2 then satNat 32 old n else wrapNat 32 old n
  let s := modChan s c (fun ch => { ch with counters := put 0 ch.counters i new })
  raiseIf (chanKind i == 0 && halfEvent 32 old new) (556 + c) s

/-- A kind H counter of a buffer or station rises by n (R263, R375). -/
def halfCh (s : State) (c : Nat) (old : W32) (n : Nat) : State :=
  raiseIf (halfEvent 32 old.toNat (wrapNat 32 old.toNat n)) (556 + c) s

/-- A transmit buffer's counter rises by one: 0 built, 1 sent, 2 cancelled, 3 failed, 4 discarded, 5 superseded (R263). -/
def countTx (s : State) (c b i : Nat) : State :=
  let t := (s.chan c).txb b
  let old := match i with | 0 => t.built | 1 => t.sent | 2 => t.cancelled | 3 => t.failed | 4 => t.discarded | _ => t.superseded
  let s := modTx s c b (fun t => match i with
    | 0 => { t with built := t.built + 1 }
    | 1 => { t with sent := t.sent + 1 }
    | 2 => { t with cancelled := t.cancelled + 1 }
    | 3 => { t with failed := t.failed + 1 }
    | 4 => { t with discarded := t.discarded + 1 }
    | _ => { t with superseded := t.superseded + 1 })
  halfCh s c old 1

/-! ### Fields and scaling (R236 to R239) -/

/-- Data bit positions of a field, least significant first (R237); none when it reaches below byte 0. -/
def fieldBits (big : Bool) (byte bitn w : Nat) : Option (List Nat) :=
  if big then
    if (bitn + w - 1) / 8 > byte then none
    else some ((List.range w).map (fun k => 8 * (byte - (bitn + k) / 8) + (bitn + k) % 8))
  else some ((List.range w).map (fun k => 8 * byte + bitn + k))

/-- Positions of an entry's field. -/
def entryBits (w0 : W64) : List Nat := (fieldBits (bit w0 61) (bits w0 31 20) (bits w0 19 17) (bits w0 56 52 + 1)).getD []

/-- Positions of a COUNT48 entry's epoch field. -/
def epochBits (w0 w1 : W64) : List Nat := (fieldBits (bit w0 61) (bits w1 63 52) (bits w1 51 49) (bits w1 48 46 + 1)).getD []

/-- Data bit i. -/
def dataBit (d : Bytes) (i : Nat) : Bool := bit (d.getD (i / 8) 0) (i % 8)

/-- Read a field; none when a bit lies beyond the frame (R237). -/
def readField (d : Bytes) (pos : List Nat) : Option Nat :=
  if pos.any (fun i => decide (i ≥ 8 * d.length)) then none
  else some (pos.zipIdx.foldl (fun x p => if dataBit d p.1 then x + 2 ^ p.2 else x) 0)

/-- Write the bits of a field that lie within the frame (R237). -/
def writeField (d : Bytes) (pos : List Nat) (x : Nat) : Bytes :=
  pos.zipIdx.foldl (fun d p =>
    if p.1 < 8 * d.length then setAt d (p.1 / 8) (setBit (d.getD (p.1 / 8) 0) (p.1 % 8) (x.testBit p.2)) else d) d

/-- Clamp an integer; the flag says that it changed. -/
def clampInt (lo hi v : Int) : Int × Bool := if v < lo then (lo, true) else if v > hi then (hi, true) else (v, false)

/-- ((x * GAIN + 2^15) >> 16) + OFFSET (R238). -/
def scaleFixed (x : Int) (w1 : W64) : Int :=
  (x * (BitVec.ofNat 32 (bits w1 63 32)).toInt + 2 ^ 15) / 2 ^ 16 + (BitVec.ofNat 32 (bits w1 31 0)).toInt

/-- x * GAIN + OFFSET in binary64 (R238). -/
def scaleFloat (x : Nat) (w1 : W64) : Nat :=
  let g := (fmt32.convert fmt64 false (bits w1 63 32)).1
  let o := (fmt32.convert fmt64 false (bits w1 31 0)).1
  (fmt64.add (fmt64.mul x g).1 o).1

/-- The signed or unsigned value of a w-bit field. -/
def fieldInt (signed : Bool) (w x : Nat) : Int := if signed && x.testBit (w - 1) then (x : Int) - 2 ^ w else x

/-- A received field scaled to its point: value and overrange mark (R238). -/
def scaleIn (ty : Nat) (w0 w1 : W64) (x : Nat) : W32 × Bool :=
  let v := fieldInt (bit w0 60) (bits w0 56 52 + 1) x
  if ty = tyBool then (if x = 0 then 0 else 1, false)
  else if ty = tyReal then
    let r := (fmt64.convert fmt32 false (scaleFloat (fmt64.ofInt false v).1 w1)).1
    (BitVec.ofNat 32 r, r == fmt32.inf false || r == fmt32.inf true)
  else
    let (r, sat) := if ty = tyInt then clampInt (-2 ^ 31) (2 ^ 31 - 1) (scaleFixed v w1) else clampInt 0 (2 ^ 32 - 1) (scaleFixed v w1)
    (BitVec.ofInt 32 r, sat)

/-- A point value scaled to its field: raw bits and transmit saturation (R238). -/
def scaleOut (ty : Nat) (w0 w1 : W64) (v : W32) : Nat × Bool :=
  let w := bits w0 56 52 + 1
  let (lo, hi) : Int × Int := if bit w0 60 then (-2 ^ (w - 1), 2 ^ (w - 1) - 1) else (0, 2 ^ w - 1)
  if ty = tyBool then (v.toNat % 2, false)
  else if ty = tyReal then
    let z := scaleFloat (fmt32.convert fmt64 false v.toNat).1 w1
    if fmt64.isNan z then (0, true)
    else
      let (i, sat) := fmt64.toSigned false 64 z
      let (r, cut) := clampInt lo hi i
      ((BitVec.ofInt w r).toNat, sat || cut)
  else
    let (r, cut) := clampInt lo hi (scaleFixed (if ty = tyInt then v.toInt else v.toNat) w1)
    ((BitVec.ofInt w r).toNat, cut)

/-! ### Mapping a received frame (R235, R239, R240) -/

/-- Entries of one direction of a buffer, in ascending entry number. -/
def entriesOf (ch : Channel) (transmit : Bool) (b : Nat) : List (W64 × W64) :=
  (ch.map.map Prod.snd).filter (fun e => bit e.1 63 && bit e.1 62 == transmit && bits e.1 15 8 == b)

/-- The quality of a frame and the entries that lie beyond it (R237, R239). -/
def frameQuality (es : List (W64 × W64)) (d : Bytes) : Bool × Nat :=
  es.foldl (fun a e =>
    if bits e.1 59 57 = 2 then
      match readField d (entryBits e.1) with
      | some x => (a.1 || x == 0, a.2)
      | none => (true, a.2 + 1)
    else a) (false, 0)

/-- The update of one entry, and 1 when the field lies beyond the frame. -/
def entryUpdate (r : Region) (d : Bytes) (bad : Bool) (e : W64 × W64) : Option Item × Nat :=
  let i : BitVec 20 := BitVec.ofNat 20 (bits e.1 51 32)
  match bits e.1 59 57 with
  | 0 => match readField d (entryBits e.1) with
    | some x => let (v, ovr) := scaleIn (typeOf r i.toNat) e.1 e.2 x; (some (.input i v bad ovr), 0)
    | none => (some (.shortField i), 1)
  | 1 => match readField d (entryBits e.1), readField d (epochBits e.1 e.2) with
    | some x, some q => (some (.count48 i (BitVec.ofNat 16 x) (bits e.1 56 52 + 1) (BitVec.ofNat 8 q) bad), 0)
    | _, _ => (some (.shortField i), 1)
  | _ => (none, 0)

/-- The group of a frame and its short fields. -/
def frameUpdates (r : Region) (es : List (W64 × W64)) (d : Bytes) : List Item × Nat :=
  let (bad, n) := frameQuality es d
  es.foldl (fun a e => let (x, k) := entryUpdate r d bad e; (a.1 ++ x.toList, a.2 + k)) ([], n)

/-- A frame leaves a buffer to its reader: delivered counts it, and the shadow takes its place (R233). -/
def RxBuf.unlock (rx : RxBuf) : RxBuf :=
  { rx with delivered := if rx.buf.isSome then rx.delivered + 1 else rx.delivered, buf := rx.shadow, shadow := none, mapLock := false }

/-- The mapping unit maps a full, unlocked buffer of its own (R235, R240); a frame without receive entries is delivered at
once, and then the shadow's frame is mapped. -/
def mapBuf : Nat → State → Nat → Nat → State
  | 0, s, _, _ => s
  | n + 1, s, c, b =>
    let ch := s.chan c
    let rx := ch.rxb b
    match rx.buf with
    | none => s
    | some f =>
      if rx.mapLock || rx.supLock || bit rx.cfg 30 then s
      else
        let es := entriesOf ch false b
        if es.isEmpty then mapBuf n (modRx s c b RxBuf.unlock) c b
        else
          let (items, short) := frameUpdates s.image es (f.data.take f.len)
          let s := if short = 0 then s else countCh s c 14 short
          submitGroup (modRx s c b (fun rx => { rx with mapLock := true })) (.field c) items none (some b)

/-! ### Builds (R242 to R247, R258) -/

/-- The release cell of a point. -/
def State.cell (s : State) (i : Nat) : Cell := look {} s.ir.cells i

/-- The SAFELIGHT value of a point, with the given last released value (R68). -/
def safelight (s : State) (i : Nat) (held : W32) : W32 := policyValue s.image i held

/-- What the release cell of a point gives: its last accepted value, or the SAFELIGHT value before the first release and in
HALT (R69, R70, R243). DESIGN CHOICE (log entry 95): a change of the point's type leaves cell and rate state as they stand. -/
def cellValue (s : State) (i : Nat) : W32 :=
  let c := s.cell i
  if s.dev.dstate = .halt then safelight s i (if c.released then c.v else 0)
  else if c.released then c.v else safelight s i 0

/-- The stations of a buffer's mapped points, one for each entry. -/
def txStations (s : State) (c b : Nat) : List Nat :=
  (entriesOf (s.chan c) true b).map (fun e => stationOf s.image (bits e.1 51 32))

/-- A station of channel c is DOWN. -/
def stationDown (s : State) (c n : Nat) : Bool := n / 128 == c && ((s.chan c).st (n % 128)).state == .down

/-- Raw field values of a buffer's entries, and the saturations. -/
def txRaws (s : State) (c b : Nat) : List Nat × Nat :=
  (entriesOf (s.chan c) true b).foldl (fun a e =>
    let i := bits e.1 51 32
    let (x, sat) := scaleOut (typeOf s.image i) e.1 e.2 (cellValue s i)
    (a.1 ++ [x], a.2 + sat.toNat)) ([], 0)

/-- Count the discarded outputs of every DOWN station among the buffer's entries (R258 step 4). -/
def countDown (s : State) (c b : Nat) : State :=
  (txStations s c b).foldl (fun s n =>
    if stationDown s c n then
      let old := ((s.chan c).st (n % 128)).discardedOut
      halfCh (modSt s c (n % 128) (fun t => { t with discardedOut := t.discardedOut + 1 })) c old 1
    else s) s

/-- Every mapped point of the buffer belongs to a DOWN station. -/
def allDown (s : State) (c b : Nat) : Bool :=
  let ns := txStations s c b
  !ns.isEmpty && ns.all (stationDown s c)

/-- A new frame waits: it replaces the waiting frame, and goes after a committed one (R244). -/
def placeFrame (s : State) (c b : Nat) (f : Frame) : State :=
  let t := (s.chan c).txb b
  let s := if t.waiting.isSome then countTx s c b 2 else s
  let s := if t.committed.isSome then countTx s c b 5 else s
  modTx s c b (fun t => { t with waiting := some f, waitingNo := t.builds })

/-- Build a transmit buffer's frame from the release cells (R237, R238, R243, R258). -/
def buildTx (s : State) (c b : Nat) : State :=
  let t := (s.chan c).txb b
  match t.template with
  | none => s
  | some f =>
    if !bit t.ctrl 63 then s
    else
      let es := entriesOf (s.chan c) true b
      let (raws, sats) := txRaws s c b
      let d := fitBytes f.len f.data
      let d' := (es.zip raws).foldl (fun d p => writeField d (entryBits p.1.1) p.2) d
      let short := (es.filter (fun e => (entryBits e.1).any (fun i => decide (i ≥ 8 * f.len)))).length
      let s := if short = 0 then s else countCh s c 14 short
      let s := if sats = 0 then s else countCh s c 15 sats
      let s := countTx s c b 0
      let s := modTx s c b (fun t => { t with lastRaw := some raws, builds := t.builds + 1 })
      let down := allDown s c b
      let s := countDown s c b
      if down then countTx s c b 4 else placeFrame s c b { f with data := d' }

/-- A RETURNING station still waits for this buffer, whose build has failed (R259). -/
def returnDue (ch : Channel) (b : Nat) : Bool :=
  let t := ch.txb b
  t.waiting.isNone && t.committed.isNone && ch.stations.any (fun e => e.2.state == .returning && e.2.toSend.any (fun x => x.1 == b))

/-- Builds for one release group that sets the given points (R243); a build that a returning station needs and that failed is
repeated whatever its `TRIG` (R259). -/
def releaseBuilds (s : State) (points : List Nat) : State :=
  s.chans.foldl (fun s e =>
    e.2.tx.foldl (fun s t =>
      let es := entriesOf (s.chan e.1) true t.1
      if bit t.2.ctrl 63 && es.any (fun x => points.contains (bits x.1 51 32)) then
        if returnDue (s.chan e.1) t.1 then buildTx s e.1 t.1
        else match bits t.2.ctrl 62 61 with
        | 0 => buildTx s e.1 t.1
        | 1 => if some (txRaws s e.1 t.1).1 = t.2.lastRaw then s else buildTx s e.1 t.1
        | _ => s
      else s) s) s

/-- Discard a waiting frame (R247). -/
def discardWaiting (s : State) (c b : Nat) : State :=
  if ((s.chan c).txb b).waiting.isSome then countTx (modTx s c b (fun t => { t with waiting := none })) c b 4 else s

/-- A committed frame fails, and the channel raises its transmit failure source (R246, R247, R264). -/
def failCommitted (s : State) (c b : Nat) : State :=
  if ((s.chan c).txb b).committed.isSome then
    chanSource (countTx (modTx s c b (fun t => { t with committed := none, inFlight := false })) c b 3) c 3 else s

/-- Transmit buffers of a channel. -/
def txList (s : State) (c : Nat) : List Nat := (s.chan c).tx.map Prod.fst

/-! ### Stations (R256 to R259) -/

/-- The supervisor releases a buffer's lock: the held frame, or the shadow's, is mapped. -/
def releaseLock (s : State) (c b : Nat) : State :=
  let s := modRx s c b (fun rx =>
    let rx := { rx with supLock := false }
    if rx.buf.isNone then { rx with buf := rx.shadow, shadow := none } else rx)
  mapBuf 3 s c b

/-- Buffers whose `NODE` is n. -/
def nodeBuffers (s : State) (c n : Nat) : List Nat :=
  ((s.chan c).rx.filter (fun e => bits e.2.cfg 6 0 == n)).map Prod.fst

/-- Release every lock that the supervisor holds for node n. -/
def releaseLocks (s : State) (c n : Nat) : State :=
  (nodeBuffers s c n).foldl (fun s b => if ((s.chan c).rxb b).supLock then releaseLock s c b else s) s

/-- Apply one write of partition 0 to a running channel (R228, R229, R231, R236, R242, R247, R248, R254, R256): the supervisor holds the
lock of a buffer that names a RETURNING station from then on, and lets it go with its node (R259). -/
def applyWrite (s : State) (c : Nat) : ChanWrite → State
  | .record r => modChan s c (fun ch => { ch with record := r, foreign := false })
  | .filters first es => modChan s c (fun ch => { ch with filters := putAll (0, 0) ch.filters first es })
  | .rxbuf b w =>
    let held := bits w 6 0 != 0 && ((s.chan c).st (bits w 6 0)).state == .returning
    let s' := modRx s c b (fun rx => { rx with cfg := w, supLock := held })
    if ((s.chan c).rxb b).supLock && !held then releaseLock s' c b else s'
  | .map first es => modChan s c (fun ch => { ch with map := putAll (0, 0) ch.map first es })
  | .tx b w f =>
    let s := modTx s c b (fun t => { t with ctrl := w, template := some f })
    if bit w 63 then s else discardWaiting s c b
  | .emerg n f => modChan s c (fun ch => { ch with emerg := put none ch.emerg n (some f) })
  | .station n w =>
    let was := ((s.chan c).st n).state
    let st : StState := if bit w 63 then .waiting else .unconfigured
    let s := releaseLocks (modSt s c n (fun t => { t with word := w, state := st, heard := false, missed := 0, toSend := [] })) c n
    if was = st then s else chanSource s c 4

/-- Between two frames, the channel's own or one that won arbitration against it, with no buffer locked by the mapping unit
(R228). -/
def Channel.between (ch : Channel) : Bool := ch.sending == .nothing && !ch.otherOn && ch.rx.all (fun e => !e.2.mapLock)

/-- The channel with every write that waits applied. -/
def planned (s : State) (c : Nat) : State := (s.chan c).writes.foldl (fun s w => applyWrite s c w) (modChan s c (fun ch => { ch with writes := [] }))

/-- The writes that wait take effect together between two frames (R228). -/
def flushWrites (s : State) (c : Nat) : State := if (s.chan c).between then planned s c else s

/-- An accepted write of partition 0 takes effect at the next instant that R228 allows. -/
def writeChan (s : State) (c : Nat) (w : ChanWrite) : State := flushWrites (modChan s c (fun ch => { ch with writes := ch.writes ++ [w] })) c

/-- The mapping unit's lock ends once its group is in the channel's input queue (R235); writes that waited take effect before
the shadow's frame is mapped (R228). -/
def unlockBuf (s : State) (c b : Nat) : State :=
  if !((s.chan c).rxb b).mapLock || (s.queue (sourceQueue (.field c))).waiting.any (fun g => g.buf == some b) then s
  else mapBuf 3 (flushWrites (modRx s c b RxBuf.unlock) c) c b

/-- A RETURNING station becomes UP (R259 step 3). -/
def stationUp (s : State) (c n : Nat) : State :=
  let over_ := ((s.chan c).st n).heldOver
  let s := modSt s c n (fun t => { t with state := .up, toSend := [], heldOver := 0 })
  let s := releaseLocks (recordT s 2 0x3203 (128 * c + n) over_.toNat) c n
  chanSource s c 4

/-- Transmit buffers that carry a point of station n. -/
def stationTx (s : State) (c n : Nat) : List Nat :=
  (txList s c).filter (fun b =>
    let t := (s.chan c).txb b
    bit t.ctrl 63 && t.template.isSome && (txStations s c b).contains (128 * c + n))

/-- A WAITING or DOWN station is heard (R259). -/
def stationReturning (s : State) (c n : Nat) : State :=
  let bs := stationTx s c n
  let s := modSt s c n (fun t => { t with state := .returning, heldOver := 0, toSend := [] })
  let s := chanSource (recordT s 2 0x3202 (128 * c + n) bs.length) c 4
  if bs.isEmpty then stationUp s c n
  else
    let s := (nodeBuffers s c n).foldl (fun s b => modRx s c b (fun rx => { rx with supLock := true })) s
    bs.foldl (fun s b =>
      let s := buildTx s c b
      modSt s c n (fun t => { t with toSend := t.toSend ++ [(b, ((s.chan c).txb b).builds)] })) s

/-- A supervised station is heard (R256). -/
def hearStation (s : State) (c n : Nat) : State :=
  let t := (s.chan c).st n
  if n = 0 || !bit t.word 63 then s
  else
    let s := modSt s c n (fun t => { t with heard := true })
    match t.state with
    | .waiting => stationReturning s c n
    | .down => stationReturning s c n
    | _ => s

/-- A frame of transmit buffer b, build number no, was sent (R259 step 3). -/
def stationsSent (s : State) (c b no : Nat) : State :=
  (s.chan c).stations.foldl (fun s e =>
    let t := (s.chan c).st e.1
    if t.state == .returning && t.toSend.any (fun x => x.1 == b && decide (x.2 ≤ no)) then
      let left := t.toSend.filter (fun x => x.1 != b)
      let s := modSt s c e.1 (fun t => { t with toSend := left })
      if left.isEmpty then stationUp s c e.1 else s
    else s) s

/-- A station drops out (R258). -/
def stationDrop (s : State) (c n : Nat) : State :=
  let s := modSt s c n (fun t => { t with state := .down, toSend := [], dropOuts := satInc t.dropOuts })
  let s := submitGroup s (.field c) [.dropOut (BitVec.ofNat 13 (128 * c + n))]
  let s := (txList s c).foldl (fun s b =>
    if ((s.chan c).txb b).waiting.isSome && allDown s c b then countDown (discardWaiting s c b) c b else s) s
  chanSource (recordT s 2 0x3201 (128 * c + n) ((s.chan c).st n).missed) c 4

/-! ### Reception (R230 to R233, R254) -/

/-- A filter matches a frame (R230). -/
def filterMatches (f : Frame) (w : W64 × W64) : Bool :=
  let ff := bits w.1 60 59
  let fmtOk := match f.fmt with
    | .classical => ff == 0 || ff == 1
    | .fd => ff == 0 || ff == 2
    | .xl => ff == 3
  let ide := f.ide && f.fmt != .xl
  let a := bits w.2 60 32
  let b := bits w.2 28 0
  bit w.1 63 && fmtOk && bit w.1 58 == ide
    && (if bits w.1 62 61 = 0 then (f.id.toNat ^^^ a) &&& b == 0 else decide (a ≤ f.id.toNat ∧ f.id.toNat ≤ b))

/-- The receive buffer of a frame (R230). -/
def filterTarget (ch : Channel) (f : Frame) : Option Nat :=
  (ch.filters.find? (fun e => filterMatches f e.2)).map (fun e =>
    let w := e.2
    bits w.1 57 50 + (if bits w.1 62 61 = 0 then 0 else f.id.toNat - bits w.2 60 32))

/-- Data capacity of a receive buffer (R231). -/
def rxCapacity (b : Nat) : Nat := if b < 240 then 64 else 2048
/-- Data capacity of a transmit buffer (R242). -/
def txCapacity (b : Nat) : Nat := if b < 56 then 64 else 2048

/-- A frame record as the device keeps it (R232): the fields that its format does not use are zero. -/
def normFrame (f : Frame) : Frame :=
  let xl := f.fmt == .xl
  { f with
    ide := f.ide && !xl
    brs := f.brs && f.fmt == .fd
    esi := f.esi && f.fmt == .fd
    sec := f.sec && xl
    sdt := if xl then f.sdt else 0
    vcid := if xl then f.vcid else 0
    af := if xl then f.af else 0
    data := f.data.take f.len }

/-- A frame accepted into buffer b (R233), with its overwrite source and its station. -/
def acceptFrame (s : State) (c b : Nat) (f : Frame) : State :=
  let rx := (s.chan c).rxb b
  let locked := rx.mapLock || rx.supLock
  let over_ := if locked then rx.shadow.isSome else rx.buf.isSome
  let n := bits rx.cfg 6 0
  let s := modRx s c b (fun rx =>
    let rx := if locked then { rx with shadow := some f } else { rx with buf := some f }
    { rx with received := rx.received + 1, overwritten := if over_ then rx.overwritten + 1 else rx.overwritten })
  let s := if over_ then chanSource (halfCh s c rx.overwritten 1) c 6 else s
  let s := if over_ && rx.supLock then modSt s c n (fun t => { t with heldOver := satInc t.heldOver }) else s
  let s := if bit rx.cfg 30 then chanSource s c 0 else s
  mapBuf 3 (hearStation s c n) c b

/-- The format of the reference message (R253). -/
def refFmt (ch : Channel) : FFmt :=
  match bits (ch.cw 4) 31 30 with
  | 2 => .fd
  | 3 => .xl
  | _ => .classical

/-- A received frame has the format and identifier of the channel's own reference (R254). -/
def isReference (ch : Channel) (f : Frame) : Bool :=
  ch.tmen && f.fmt == refFmt ch && (f.ide == bit (ch.cw 4) 29 || f.fmt == .xl) && f.id.toNat == bits (ch.cw 4) 28 0

/-- Reception of a valid data frame that the channel did not send (R230, R231, R254). -/
def receiveFrame (s : State) (c : Nat) (f : Frame) (own : Bool) : State :=
  let ch := s.chan c
  let s := countCh s c 0 1
  let s := if isReference ch f && !own then
      chanSource (recordT (modChan s c (fun ch => { ch with foreign := true, refDue := false })) 2 0x3105 c f.id.toNat) c 5
    else s
  match filterTarget ch f with
  | none => countCh s c 1 1
  | some b =>
    if !bit (ch.rxb b).cfg 31 then countCh s c 1 1
    else if f.fmt == .xl && decide (f.len > rxCapacity b) then countCh s c 3 1
    else acceptFrame s c b f

/-- The channel's format is enabled (R505). DESIGN CHOICE (log entry 118): an XL frame looks at `XLEN` alone, though its FDF bit is
recessive too. -/
def fmtEnabled (ch : Channel) : FFmt → Bool
  | .classical => true
  | .fd => bit (ch.cw 0) 58
  | .xl => bit (ch.cw 0) 57

/-- The channel takes part in bus traffic, or completes the frame in progress at a stop (R261). -/
def Channel.onBus (ch : Channel) : Bool :=
  (ch.state == .running || ch.state == .stopping) && (ch.err == .active || ch.err == .passive)

/-- A frame of a disabled format occupies the bus until integration (R505). -/
def protocolException (s : State) (c : Nat) : State :=
  countCh (modChan s c (fun ch => { ch with state := if ch.state == .stopping then .stopping else .exception })) c 1 1

/-- The frame that won arbitration against the channel is over. -/
def otherOver (s : State) (c : Nat) : State := modChan s c (fun ch => { ch with otherOn := false })

/-- A valid frame of another node (R230): internal loopback receives its own frames only (R249); a channel that stops completes
the frame in progress (R261). -/
def frameValid (s : State) (n : Nat) (f : Frame) (remote : Bool) : State :=
  let ch := s.chan n
  if !ch.onBus || ch.opmode == 3 then s
  else if !fmtEnabled ch f.fmt then protocolException s n
  else
    let (free, s) := if decide (ch.rxErr.toNat > 127) && ch.opmode == 0 then s.takeFree else (0, s)
    let e := ch.rxErr.toNat
    let less : Byte := BitVec.ofNat 8 (if e > 127 then 119 + free.toNat % 9 else e - 1)
    let s := if ch.opmode == 0 then modChan s n (fun ch => { ch with rxErr := less }) else s
    let s := raiseIf (decide (e ≥ 96) && decide (((s.chan n).rxErr).toNat < 96)) (288 + 8 * n + 1) s
    let s := if decide (e > 127) && ch.err == .passive && decide (ch.tec.toNat < 128) then
      chanSource (modChan s n (fun ch => { ch with err := .active })) n 1 else s
    if remote then countCh s n 2 1 else receiveFrame s n (normFrame f) false

/-- FIELD_FRAME_VALID (R228, R230): the frame is filtered and mapped under the entries with which it began; writes that waited for
its end follow. -/
def execFieldFrameValid (c : BitVec 5) (f : Frame) (remote : Bool) (s : State) : Out :=
  let n := c.toNat
  whenPowered s (if (s.chan n).otherOn then flushWrites (frameValid (otherOver s n) n f remote) n else frameValid s n f remote)

/-- PROTOCOL_EXCEPTION (R505): a frame of a disabled format; internal loopback receives none of the bus (R249). -/
def execProtocolException (c : BitVec 5) (xl : Bool) (s : State) : Out :=
  let ch := s.chan c.toNat
  whenPowered s (
    if ch.onBus && ch.opmode != 3 && !fmtEnabled ch (if xl then .xl else .fd) then protocolException s c.toNat else s)

/-- BUFFER_UNLOCK (R235). -/
def execBufferUnlock (c : BitVec 5) (buf : Byte) (s : State) : Out := whenPowered s (unlockBuf s c.toNat buf.toNat)

/-! ### Error confinement (R250, R251) -/

/-- The error state that the counters give (ISO 11898-1; log entry 17). -/
def errStateOf (tec rxErr : Nat) : ErrState := if tec ≥ 256 then .busOff else if tec ≥ 128 ∨ rxErr ≥ 128 then .passive else .active

/-- Entry into bus-off (R250). -/
def enterBusOff (s : State) (c : Nat) : State :=
  let s := countCh s c 12 1
  let s := (txList s c).foldl (fun s b => failCommitted s c b) s
  let s := modChan s c (fun ch => { ch with sending := .nothing, recoverBy := 0 })
  recordT (chanSource s c 2) 2 0x3102 c (look 0 (s.chan c).counters 12)

/-- New error counters: warning limit, error state, ERROR_PASSIVE and bus-off (R250). -/
def setErr (s : State) (c : Nat) (tec : BitVec 9) (rxErr : Byte) : State :=
  let ch := s.chan c
  let new := errStateOf tec.toNat rxErr.toNat
  let crossed := (decide (ch.tec.toNat ≥ 96) != decide (tec.toNat ≥ 96)) || (decide (ch.rxErr.toNat ≥ 96) != decide (rxErr.toNat ≥ 96))
  let s := modChan s c (fun ch => { ch with tec := tec, rxErr := rxErr, err := new })
  let s := if crossed then chanSource s c 1 else s
  if new = ch.err then s
  else
    let s := chanSource s c 1
    match new with
    | .passive => recordN s 2 0x3101 c tec.toNat rxErr.toNat
    | .busOff => enterBusOff s c
    | _ => s

/-- A frame of the buffer is one-shot (R242, R246). -/
def TxBuf.oneShot (t : TxBuf) : Bool := bit t.ctrl 60 || bits t.ctrl 35 20 != 0

/-- Emergency frame k is no longer pending. -/
def unpend (ch : Channel) (k : Nat) : Channel :=
  { ch with emergPend := setBit ch.emergPend k false, emergEq := dropKey ch.emergEq k }

/-- A launch or a pending frame ends unsent (R248). -/
def emergencyNotSent (s : State) (c n case : Nat) : State :=
  let s := modChan s c (fun ch => unpend ch n)
  recordN (countCh s c 17 1) 2 0x3106 c n case

/-- The case with which an emergency frame ends unsent when its channel stops (R248). -/
def Channel.stopCase (ch : Channel) : Nat := if ch.stopCause = 3 then 3 else 2

/-- The attempt on the bus ends without success: a one-shot frame fails, another waits for retransmission, and after a stop
it fails (R246, R261). An emergency frame stays pending, but after a stop or after its latch has cleared it ends unsent (R248). -/
def attemptLost (s : State) (c : Nat) : State :=
  let ch := s.chan c
  let s := modChan s c (fun ch => { ch with sending := .nothing })
  match ch.sending with
  | .buffer b =>
    let b := b.toNat
    if (ch.txb b).oneShot || ch.state == .stopping then failCommitted s c b
    else modTx s c b (fun t => { t with inFlight := false })
  | .reference => if ch.tmen && !ch.foreign then modChan s c (fun ch => { ch with refDue := true }) else s
  | .emergency k =>
    if ch.state == .stopping then emergencyNotSent s c k.toNat ch.stopCase
    else if ch.emergEq.all (fun x => x.1 != k.toNat) then emergencyNotSent s c k.toNat 1
    else s
  | .nothing => s

/-- Counter index of an error type (R262). -/
def errIndex : BusErr → Nat
  | .bit => 5
  | .stuff => 6
  | .form => 7
  | .crc => 8
  | .ack => 9

/-- The error counters after an error (ISO 11898-1; log entry 17): a transmitter counts 8; a receiver counts 1, or 8 for an error
that its own error flag shows to be its own; neither counts where the standard exempts the error. -/
def countError (ch : Channel) (transmitting exempt own : Bool) : BitVec 9 × Byte :=
  if exempt then (ch.tec, ch.rxErr)
  else if transmitting then (BitVec.ofNat 9 (satNat 9 ch.tec.toNat 8), ch.rxErr)
  else (ch.tec, BitVec.ofNat 8 (satNat 8 ch.rxErr.toNat (if own then 8 else 1)))

/-- BUS_ERROR (R250): `exempt` and `own` tell the rule of ISO 11898-1 under which the error counts (log entry 17). In restricted
and monitor modes the error counters are unchanged (R249). -/
def execBusError (c : BitVec 5) (kind : BusErr) (transmitting exempt own : Bool) (s : State) : Out :=
  let n := c.toNat
  let ch := s.chan n
  whenPowered s (
    if !(ch.state == .running || ch.state == .stopping) || ch.err == .busOff || ch.err == .recovering then s
    else
      let s := countCh (otherOver s n) n (errIndex kind) 1
      let s := if transmitting then attemptLost s n else s
      let e := countError ch transmitting exempt own
      flushWrites (if ch.opmode == 1 || ch.opmode == 2 then s else setErr s n e.1 e.2) n)

/-- ARBITRATION_LOST (R246): the frame that won is on the bus until it is valid, ends in an error, or the bus is idle (R228). -/
def execArbitrationLost (c : BitVec 5) (s : State) : Out :=
  let n := c.toNat
  whenPowered s (
    if (s.chan n).sending == .nothing then s else modChan (attemptLost s n) n (fun ch => { ch with otherOn := true }))

/-- DOMINANT_TIMEOUT (R490): the integrated transceiver releases the bus. -/
def execDominantTimeout (c : BitVec 5) (s : State) : Out :=
  let ch := s.chan c.toNat
  whenPowered s (if ch.pins != .integrated || !(ch.state == .running || ch.state == .stopping) then s
    else chanSource (countCh s c.toNat 5 1) c.toNat 1)

/-- Start the recovery of ISO 11898-1 (R251): 1 by command, 2 by firmware policy. -/
def startRecovery (s : State) (c by_ : Nat) : State := modChan s c (fun ch => { ch with err := .recovering, recoverBy := by_ })

/-- RECOVER_DELAY (R251): the firmware's policy. -/
def execRecoverDelay (c : BitVec 5) (s : State) : Out :=
  let n := c.toNat
  let ch := s.chan n
  let limit := bits (ch.cw 0) 31 24
  let recent := ch.recoveries.filter (fun t => decide (s.dev.opTime.toNat < t + 3600))
  whenPowered s (
    if ch.err != .busOff || bits (ch.cw 0) 47 32 == 0 then s
    else if limit ≠ 0 ∧ recent.length ≥ limit then recordT s 2 0x3104 n limit
    else startRecovery (modChan s n (fun ch => { ch with recoveries := recent ++ [s.dev.opTime.toNat] })) n 2)

/-- BUS_OFF_RECOVERED (R251). -/
def execBusOffRecovered (c : BitVec 5) (s : State) : Out :=
  let n := c.toNat
  let ch := s.chan n
  whenPowered s (
    if ch.err != .recovering then s
    else
      let s := countCh (modChan s n (fun ch => { ch with err := .active, tec := 0, rxErr := 0 })) n 13 1
      chanSource (recordT s 2 0x3103 n ch.recoverBy) n 1)

/-! ### Transmission (R244 to R248, R252 to R255) -/

/-- The order in which identifiers win arbitration: a lower number wins. -/
def arbKey (f : Frame) : Nat :=
  if f.ide && f.fmt != .xl then f.id.toNat / 2 ^ 18 * 2 ^ 19 + 2 ^ 18 + f.id.toNat % 2 ^ 18 else f.id.toNat % 2 ^ 11 * 2 ^ 19

/-- The frame with which a buffer competes under rule 4 of R245: its committed frame, or its waiting frame unless it has a
window. -/
def TxBuf.offer (t : TxBuf) : Option Frame :=
  match t.committed with
  | some f => some f
  | none => if bits t.ctrl 35 20 = 0 then t.waiting else none

/-- The buffer that wins rule 4; a frame whose format is disabled is not sent (R226). -/
def bestBuffer (ch : Channel) : Option Nat :=
  (ch.tx.foldl (fun (best : Option (Nat × Nat)) e =>
    match e.2.offer.filter (fun f => fmtEnabled ch f.fmt), best with
    | none, b => b
    | some f, none => some (e.1, arbKey f)
    | some f, some (b, k) => if arbKey f < k then some (e.1, arbKey f) else some (b, k)) none).map Prod.fst

/-- The lowest pending emergency frame whose format is enabled. -/
def firstEmergency (ch : Channel) : Option Nat :=
  (List.range 8).find? (fun n => bit ch.emergPend n && ((look none ch.emerg n).map (fun f => fmtEnabled ch f.fmt)).getD false)

/-- The reference message with the reference mark at the current DTIME (R253). DESIGN CHOICE (log entry 122): the SDT, VCID, AF and SEC
of an XL one, for which the spec gives no value, are 0. -/
def referenceFrame (s : State) (ch : Channel) : Frame :=
  let t := s.time.dtime.toNat
  let fmt := refFmt ch
  let low : Byte := BitVec.ofNat 8 (ch.cycleCount.toNat % 64)
  let data := match bits (ch.cw 4) 31 30 with
    | 0 => [low]
    | 1 => [low, 0] ++ beBytes 2 (t * 8 / 1000 % 2 ^ 16)
    | _ => [1, BitVec.ofNat 8 (if s.time.tstate = 2 ∧ bits s.time.rec0 63 62 = 1 then 2 else 0), 0, 0] ++ leBytes 4 ch.cycleCount.toNat ++ leBytes 8 t
  { stamp := 0, fmt := fmt, ide := bit (ch.cw 4) 29 && fmt != .xl, brs := fmt == .fd, esi := fmt == .fd && ch.err == .passive,
    sec := false, len := data.length, id := BitVec.ofNat 29 (bits (ch.cw 4) 28 0), sdt := 0, vcid := 0, af := 0, data := data }

/-- A frame as the controller sends it: `ESI` by its own error state (R232). -/
def asSent (ch : Channel) (f : Frame) : Frame := { f with esi := f.fmt == .fd && ch.err == .passive }

/-- The controller drives a frame's SOF. -/
def driveSof (s : State) (c : Nat) (x : Sending) (f : Option Frame) : State :=
  modChan s c (fun ch => { ch with sending := x, lastSent := f, sof := s.time.dtime })

/-- Buffer b's frame enters arbitration and is committed (R244). -/
def commitBuffer (s : State) (c b : Nat) : State :=
  let ch := s.chan c
  let t := ch.txb b
  let f := (t.committed.orElse (fun _ => t.waiting)).map (asSent ch)
  let s := modTx s c b (fun t =>
    if t.committed.isSome then { t with inFlight := true }
    else { t with committed := t.waiting, committedNo := t.waitingNo, waiting := none, inFlight := true })
  driveSof s c (.buffer (BitVec.ofNat 6 b)) f

/-- The channel may send: on the bus in normal or internal loopback mode (R249). -/
def Channel.sends (ch : Channel) : Bool := ch.onBus && ch.state == .running && (ch.opmode == 0 || ch.opmode == 3) && ch.sending == .nothing

/-- Offer one frame to arbitration, in the order of R245. -/
def offerFrame (s : State) (c : Nat) : State :=
  let ch := s.chan c
  if !ch.sends then s
  else
    match firstEmergency ch with
    | some n => driveSof s c (.emergency (BitVec.ofNat 3 n)) ((look none ch.emerg n).map (asSent ch))
    | none =>
      if ch.tmen && ch.refDue && !ch.foreign then
        driveSof (modChan s c (fun ch => { ch with refDue := false, refMark := s.time.dtime })) c .reference (some (referenceFrame s ch))
      else
        match bestBuffer ch with
        | some b => commitBuffer s c b
        | none => s

/-- BUS_IDLE (R245): no frame is on the bus, so writes that waited for the end of one come first (R228). -/
def execBusIdle (c : BitVec 5) (s : State) : Out :=
  let n := c.toNat
  whenPowered s (offerFrame (if (s.chan n).otherOn then flushWrites (otherOver s n) n else s) n)

/-- FIELD_FRAME_SENT (R247). -/
def execFieldFrameSent (c : BitVec 5) (s : State) : Out :=
  let n := c.toNat
  let ch := s.chan n
  let done (s : State) : State :=
    let s := countCh (modChan s n (fun ch => { ch with sending := .nothing })) n 4 1
    let s := if ch.tec != 0 then setErr s n (ch.tec - 1) ch.rxErr else s
    match ch.lastSent with
    | some f => if ch.opmode == 3 then receiveFrame s n { (normFrame f) with stamp := ch.sof } true else s
    | none => s
  whenPowered s (flushWrites (
    match ch.sending with
    | .nothing => s
    | .emergency k => done (countCh (modChan s n (fun ch => unpend ch k.toNat)) n 16 1)
    | .reference => done (countCh (modChan s n (fun ch => { ch with cycleCount := ch.cycleCount + 1 })) n 18 1)
    | .buffer b =>
      let b := b.toNat
      let no := (ch.txb b).committedNo
      let s := countTx (modTx s n b (fun t => { t with committed := none, inFlight := false })) n b 1
      stationsSent (done s) n b no) n)

/-- REFRESH (R242, R243): a refresh tick of a buffer, one that `REFRESH` divides. DESIGN CHOICE (log entry 123): it builds a buffer whose
`TRIG` is 0b10 as well. -/
def execRefresh (c : BitVec 5) (buf : BitVec 6) (s : State) : Out :=
  whenPowered s (if s.atPhase (bits ((s.chan c.toNat).txb buf.toNat).ctrl 59 36) 0 then buildTx s c.toNat buf.toNat else s)

/-- CYCLE_START (R252): at the ticks that `CYCLE` and `CPHASE` give. -/
def execCycleStart (c : BitVec 5) (s : State) : Out :=
  let n := c.toNat
  let ch := s.chan n
  whenPowered s (
    if !s.atPhase (bits (ch.cw 4) 63 48) (bits (ch.cw 4) 47 32) || !ch.tmen || ch.foreign || ch.opmode == 1 || ch.opmode == 2 || ch.state == .stopped || ch.state == .isolated then s
    else
      let s := if ch.refDue then countCh s n 19 1 else s
      modChan s n (fun ch => { ch with refDue := true }))

/-- EXCLUSIVE_WINDOW (R255): on a busy bus, which a frame of a disabled format occupies too (R505), the attempt fails; a frame of a
higher order of R245 goes first; a build that a returning station needs and that failed is repeated (R259). -/
def execExclusiveWindow (c : BitVec 5) (buf : BitVec 6) (busBusy : Bool) (s : State) : Out :=
  let n := c.toNat
  let b := buf.toNat
  let ch := s.chan n
  let opens := (ch.state == .running || ch.state == .exception) && (ch.err == .active || ch.err == .passive)
    && (ch.opmode == 0 || ch.opmode == 3) && ch.tmen && !ch.foreign && bits (ch.txb b).ctrl 35 20 != 0
  let s' := if opens && returnDue ch b then buildTx s n b else s
  whenPowered s (
    if !opens then s
    else if (((s'.chan n).txb b).waiting.filter (fun f => fmtEnabled ch f.fmt)).isNone then s'
    else if busBusy || ch.sending != .nothing || ch.state == .exception then
      chanSource (countTx (modTx s' n b (fun t => { t with waiting := none })) n b 3) n 3
    else if (firstEmergency ch).isSome || ch.refDue then offerFrame s' n
    else commitBuffer s' n b)

/-- STATION_CHECK (R257): at the ticks that `CYCLE` and `SPHASE` give. -/
def execStationCheck (c : BitVec 5) (node : BitVec 7) (s : State) : Out :=
  let ch := c.toNat
  let n := node.toNat
  let t := (s.chan ch).st n
  whenPowered s (
    if n = 0 || !bit t.word 63 || !s.atPhase (bits t.word 47 24) (bits t.word 23 0) then s
    else if t.heard then
      let s' := modSt s ch n (fun t => { t with missed := 0, heard := false, state := if t.state == .stale then .up else t.state })
      if t.state == .stale then chanSource s' ch 4 else s'
    else if t.state == .unconfigured || t.state == .down then s
    else
      let s := modSt s ch n (fun t => { t with missed := t.missed + 1, missedTotal := satInc t.missedTotal })
      if t.missed + 1 ≥ bits t.word 55 48 then stationDrop s ch n
      else if t.state == .up then
        chanSource (submitGroup (modSt s ch n (fun t => { t with state := .stale })) (.field ch) [.stale (BitVec.ofNat 13 (128 * ch + n))]) ch 4
      else s)

/-! ### Emergency frames (R248) -/

/-- A trip launches emergency frame n on channel c (R78, R248). -/
def launchEmergency (s : State) (c n eq : Nat) : State :=
  let ch := s.chan c
  if (look none ch.emerg n).isNone then recordN (countCh s c 17 1) 2 0x3106 c n 4
  else if ch.state == .isolated || (ch.state == .stopping && ch.stopCause == 3) then recordN (countCh s c 17 1) 2 0x3106 c n 3
  else if ch.state == .stopped || ch.state == .stopping then recordN (countCh s c 17 1) 2 0x3106 c n 2
  else if bit ch.emergPend n && ch.emergEq.any (fun x => x.1 == n) then s
  else modChan s c (fun ch => { ch with emergPend := setBit ch.emergPend n true, emergEq := insertKey ch.emergEq n eq })

/-- Pending emergency frames of a channel for which p holds, but the one on the bus, end unsent. -/
def endEmergencies (s : State) (c case : Nat) (p : Nat → Bool) : State :=
  (List.range 8).foldl (fun s n =>
    let ch := s.chan c
    if bit ch.emergPend n && p n && ch.sending != .emergency (BitVec.ofNat 3 n) then emergencyNotSent s c n case else s) s

/-- A trip latch clears: the frames that it launched and that still wait end unsent; one on the bus ends with its attempt. -/
def clearEmergencies (s : State) (eq : Nat) : State :=
  s.chans.foldl (fun s e =>
    let s := endEmergencies s e.1 1 (fun n => look 0 e.2.emergEq n == eq && e.2.emergEq.any (fun x => x.1 == n))
    modChan s e.1 (fun ch => { ch with emergEq := ch.emergEq.filter (fun x => x.2 != eq) })) s

/-! ### Stop, isolation and return (R228, R261) -/

/-- Leave the channel stopped or isolated, or start bus integration with the record in force; error counters start at zero, which
may change the error state or pass the warning limit (R250, R261). -/
def settleChannel (s : State) (c : Nat) (isolated : Bool) : State :=
  let ch := s.chan c
  let w := ch.nextRecord.getD ch.record
  let st : ChState := if isolated then .isolated else if bit (w.getD 0 0) 63 then .integrating else .stopped
  let s := modChan s c (fun ch => { ch with
    record := w, nextRecord := none, state := st, err := .active, tec := 0, rxErr := 0, refDue := false, otherOn := false })
  flushWrites (if ch.err != .active || decide (ch.tec.toNat ≥ 96) || decide (ch.rxErr.toNat ≥ 96) then chanSource s c 1 else s) c

/-- A channel stops (R261): 1 by command, 2 by a record write, 3 by isolation. The frame in progress completes before
CHANNEL_STOPPED. -/
def stopChannel (s : State) (c cause : Nat) : State :=
  let ch := s.chan c
  if ch.state == .stopping then modChan s c (fun ch => { ch with stopCause := max ch.stopCause cause })
  else
    let s := (txList s c).foldl (fun s b =>
      let s := discardWaiting s c b
      if ((s.chan c).txb b).inFlight then s else failCommitted s c b) s
    let s := endEmergencies s c (if cause = 3 then 3 else 2) (fun _ => true)
    modChan s c (fun ch => { ch with state := .stopping, stopCause := cause })

/-- Isolate a channel (R26, R204). -/
def isolateChannel (s : State) (c : Nat) : State :=
  match (s.chan c).state with
  | .stopped => chanSource (recordT (settleChannel s c true) 2 0x3107 c 3) c 7
  | .isolated => s
  | _ => stopChannel s c 3

/-- A channel returns from isolation (R205, R261). -/
def returnChannel (s : State) (c : Nat) : State :=
  if (s.chan c).state == .isolated then
    let s := settleChannel s c false
    if (s.chan c).state == .stopped then chanSource s c 7 else s
  else s

/-- A channel that stops has left the bus recessive (R261): it is stopped, isolated, or integrates again. -/
def channelStopped (s : State) (n : Nat) : State :=
  let ch := s.chan n
  if ch.state != .stopping then s
  else
    let s := match ch.sending with
      | .buffer b => failCommitted s n b.toNat
      | .emergency k => emergencyNotSent (modChan s n (fun ch => { ch with sending := .nothing })) n k.toNat ch.stopCase
      | _ => s
    let s := modChan s n (fun ch => { ch with sending := .nothing })
    chanSource (recordT (settleChannel s n (ch.stopCause == 3)) 2 0x3107 n ch.stopCause) n 7

/-- CHANNEL_STOPPED (R261): the frame in progress has completed. -/
def execChannelStopped (c : BitVec 5) (s : State) : Out := whenPowered s (channelStopped s c.toNat)

/-- BUS_INTEGRATION (R228, R505): 11 recessive bits have passed. In START the channels are not yet enabled (R363 step 9). -/
def execBusIntegration (c : BitVec 5) (s : State) : Out :=
  let n := c.toNat
  whenPowered s (
    match (s.chan n).state with
    | .integrating => if s.dev.dstate = .start then s else chanSource (modChan s n (fun ch => { ch with state := .running })) n 7
    | .exception => modChan s n (fun ch => { ch with state := .running })
    | _ => s)

end Sys2Proof.Machine
end

