-- ==== Sys2Proof/Machine/Port.lean ====
section
/-! DEFINITION. Network ports (R266 to R303, R312, R319, R322 to R326): port and queue counters, frame fields, the transmit
scheduler, PAUSE and PFC, link and rate-step operations, isolation, and the discipline state that follows the links. -/

namespace Sys2Proof.Machine

/-! ### Access -/

/-- The number of a port. -/
def portNo : Port → Nat
  | .np0 => 0
  | .np1 => 1

/-- The other port. -/
def otherPort : Port → Port
  | .np0 => .np1
  | .np1 => .np0

/-- Change one port. -/
def modPort (s : State) (p : Port) (f : PortS → PortS) : State := s.setPort p (f (s.port p))

/-- A network queue. -/
def State.nq (s : State) (q : Nat) : NQueue := look {} s.net.queues q

/-- Change a network queue. -/
def modNq (s : State) (q : Nat) (f : NQueue → NQueue) : State :=
  s.setNet { s.net with queues := put {} s.net.queues q (f (s.nq q)) }

/-- Word k of a port record (R267). -/
def PortS.pw (x : PortS) (k : Nat) : W64 := x.record.getD k 0
/-- `ENABLE`. -/
def PortS.enable (x : PortS) : Bool := bit (x.pw 0) 63
/-- `LMODE`. -/
def PortS.lmode (x : PortS) : BitVec 2 := BitVec.ofNat 2 (bits (x.pw 0) 62 61)
/-- `FCMODE`. -/
def PortS.fcmode (x : PortS) : Nat := bits (x.pw 0) 56 55
/-- `STEPEN`. -/
def PortS.stepen (x : PortS) : Bool := bit (x.pw 0) 53
/-- `MAXLEN`. -/
def PortS.maxlen (x : PortS) : Nat := bits (x.pw 0) 50 37
/-- `XOFF`. -/
def PortS.xoffAt (x : PortS) : Nat := bits (x.pw 1) 31 16
/-- `XON`. -/
def PortS.xonAt (x : PortS) : Nat := bits (x.pw 1) 15 0
/-- `MAC`. -/
def PortS.mac (x : PortS) : Nat := bits (x.pw 2) 63 16

/-- `PAIR`, equal in both records. -/
def pairMode (s : State) : Nat := bits (s.net.port0.pw 0) 52 51

/-- The lowest rate that a record's `ADV` names (R267). -/
def PortS.lowRate (x : PortS) : BitVec 2 :=
  let adv := bits (x.pw 0) 60 57
  if adv.testBit 0 then 3 else if adv.testBit 1 then 2 else if adv.testBit 2 then 1 else 0

/-- A rate in Mbit/s (R266). -/
def rateMbit (r : BitVec 2) : Nat :=
  match r.toNat with
  | 0 => 10000
  | 1 => 5000
  | 2 => 2500
  | _ => 1000

/-- The MAC address by which the module is known on a port: `MAC` of NP0 under PRP and HSR (R276, R332). -/
def nodeMac (s : State) (p : Port) : Nat := if pairMode s = 0 then (s.port p).mac else s.net.port0.mac

/-! ### Counters (R303, R304, R315, R326) -/

/-- Kind of port counter i, in the order of R303, R326 and R315: 0 H, 1 W, 2 S. -/
def portKind (i : Nat) : Nat := if i = 55 then 1 else if 56 ≤ i ∧ i ≤ 59 then 2 else 0

/-- Width of port counter i. -/
def portWidth (i : Nat) : Nat := if i < 2 ∨ (76 ≤ i ∧ i ≤ 79) then 48 else 32

/-- Add n to port counter i (R13, R303); a kind H counter raises source 544 or 545 at half range (R375). -/
def countPort (s : State) (p : Port) (i n : Nat) : State :=
  let old := look 0 (s.port p).counters i
  let w := portWidth i
  let new := if portKind i = 2 then satNat w old n else wrapNat w old n
  let s := modPort s p (fun x => { x with counters := put 0 x.counters i new })
  raiseIf (portKind i == 0 && halfEvent w old new) (544 + portNo p) s

/-- Width of queue counter i, in the order of R304. -/
def nqWidth (i : Nat) : Nat := if i = 2 ∨ i = 7 then 48 else 32

/-- Add n to queue counter i (R304): 0 steered, 1 delivered, 2 octets delivered, 3 no-buffer drops, 4 overflow drops,
5 fetched, 6 sent, 7 octets fetched, 8 tag violations, 9 length errors, 10 doorbell errors, 11 window faults. -/
def countNq (s : State) (q i n : Nat) : State :=
  let old := look 0 (s.nq q).counters i
  let w := nqWidth i
  let new := if i ≥ 10 then satNat w old n else wrapNat w old n
  let s := modNq s q (fun x => { x with counters := put 0 x.counters i new })
  raiseIf (decide (i < 10) && halfEvent w old new) (546 + q / 16) s

/-- The interrupt source of a partition queue (R306). -/
def raiseNq (s : State) (q : Nat) : State := raiseIf (decide (q < 128)) (160 + q) s

/-! ### Frame fields (R283) -/

/-- The 16-bit field at byte `off`, in network order. -/
def be16 (bs : Bytes) (off : Nat) : Nat := beNat ((bs.drop off).take 2)

/-- A TPID of R283. -/
def isTpid (v : Nat) : Bool := v == 0x8100 || v == 0x88A8

/-- The outermost tag's control field. -/
def frameTag (bs : Bytes) : Option Nat := if isTpid (be16 bs 12) then some (be16 bs 14) else none

/-- Where the EtherType stands: at most two tags are skipped. -/
def etherOff (bs : Bytes) : Nat := if isTpid (be16 bs 12) then (if isTpid (be16 bs 16) then 20 else 16) else 12

/-- The EtherType. -/
def etherType (bs : Bytes) : Nat := be16 bs (etherOff bs)
/-- The VLAN ID; 0 when untagged. -/
def frameVid (bs : Bytes) : Nat := ((frameTag bs).getD 0) % 4096
/-- The PCP; 0 when untagged. -/
def framePcp (bs : Bytes) : Nat := ((frameTag bs).getD 0) / 8192
/-- The destination address. -/
def dstMac (bs : Bytes) : Nat := beNat (bs.take 6)
/-- The source address. -/
def srcMac (bs : Bytes) : Nat := beNat ((bs.drop 6).take 6)

/-- Cells of 256 bytes that a frame's data takes (R284). -/
def cellsOf (n : Nat) : Nat := (n + 255) / 256

/-- The length bin of a frame counted in R303. -/
def lengthBin (n : Nat) : Nat :=
  if n ≤ 64 then 0 else if n ≤ 127 then 1 else if n ≤ 255 then 2 else if n ≤ 511 then 3 else if n ≤ 1023 then 4 else if n ≤ 1518 then 5 else 6

/-- Unicast, multicast or broadcast, 0 to 2 (R303). -/
def castOf (dst : Nat) : Nat := if dst = 2 ^ 48 - 1 then 2 else if dst.testBit 40 then 1 else 0

/-! ### Sources of transmitted frames -/

/-- `TxFrame.src` of a port's own PAUSE and PFC frames. -/
def srcControl : Nat := 900
/-- `TxFrame.src` of forwarded frames. -/
def srcForward : Nat := 901
/-- `TxFrame.src` of the PTP engine, which takes the place of system queue 128 (R318). -/
def srcPtp : Nat := 128
/-- `TxFrame.src` of a Vellek station. -/
def srcVellek (st : Nat) : Nat := 1000 + st

/-- The frame gets a PRP trailer or an HSR tag of its own (R277, R318). -/
def redundant (s : State) (src : Nat) : Bool :=
  pairMode s != 0 && (decide (src < 128) || src == 130 || decide (src ≥ 1000))

/-- Where the UDP header of an IPv4 or IPv6 packet starts: IPv4 with any header length, in an unfragmented packet or its first
fragment (R281). -/
def ipUdp (bs : Bytes) : Option Nat :=
  let o := etherOff bs + 2
  match etherType bs with
  | 0x0800 =>
    let v := (bs.getD o 0).toNat
    if v / 16 = 4 ∧ 5 ≤ v % 16 ∧ be16 bs (o + 6) % 2 ^ 13 = 0 ∧ bs.getD (o + 9) 0 = 17 then some (o + 4 * (v % 16)) else none
  | 0x86DD => if bs.getD (o + 6) 0 = 17 then some (o + 40) else none
  | _ => none

/-- UDP to port 319 or 320. -/
def ptpUdp (bs : Bytes) : Bool := (ipUdp bs).any (fun o => be16 bs (o + 2) == 319 || be16 bs (o + 2) == 320)

/-- A frame that carries a PTP message. -/
def ptpFrame (bs : Bytes) : Bool := etherType bs == 0x88F7 || ptpUdp bs

/-- The port is secured (R322), and not under CONTINUE (R431). -/
def PortS.secure (x : PortS) : Bool := bit x.macsec 0 && !x.unprotected

/-- The frame goes through the port's controlled port (R322): EAPOL never, PTP unless exempt. -/
def secured (x : PortS) (bs : Bytes) : Bool :=
  x.secure && etherType bs != 0x888E && !(bit x.macsec 4 && ptpFrame bs)

/-- The transmit SA in use: the one installed last. -/
def txSa (x : PortS) : Option Sa := (x.sas.filter (fun a => !a.receive)).getLast?

/-- A frame's data padded to 60 bytes (R291); a forwarded frame stays as it came (R279). -/
def padded (f : TxFrame) : Bytes := if f.src = srcForward then f.bytes else fitBytes (max 60 f.bytes.length) f.bytes

/-- Bytes of a frame on the wire through FCS: padded, with its trailer or tag and MACsec's fields (R279, R291). -/
def wireBytes (s : State) (p : Port) (f : TxFrame) : Nat :=
  let x := s.port p
  (if f.src = srcForward then f.bytes.length else max 60 f.bytes.length) + (if redundant s f.src || f.seqNo.isSome then 6 else 0)
    + (if secured x f.bytes then (if bit x.macsec 3 then 32 else 24) else 0) + 4

/-- The PRP trailer of IEC 62439-3 (PRESUMED, log entry 78): sequence number, LAN and size, suffix. -/
def prpTrailer (p : Port) (n : BitVec 16) (size : Nat) : Bytes :=
  beBytes 2 n.toNat ++ beBytes 2 ((0xA + portNo p) * 4096 + size % 4096) ++ beBytes 2 0x88FB

/-- The path number and size of the HSR tag that a port gives a frame of its own (PRESUMED, log entry 78). -/
def hsrPathOf (p : Port) (bs : Bytes) : BitVec 16 := BitVec.ofNat 16 (portNo p * 4096 + (bs.length + 4 - etherOff bs) % 4096)

/-- The frame with the HSR tag of IEC 62439-3 before its EtherType (PRESUMED, log entry 78). -/
def withHsrTag (path n : BitVec 16) (bs : Bytes) : Bytes :=
  let o := etherOff bs
  bs.take o ++ beBytes 2 0x892F ++ beBytes 2 path.toNat ++ beBytes 2 n.toNat ++ bs.drop o

/-- The padded frame with its PRP trailer or HSR tag; a forwarded frame keeps the tag that it came with (R277, R279, R291). -/
def taggedBytes (s : State) (p : Port) (f : TxFrame) : Bytes :=
  let bs := padded f
  match f.seqNo, f.hsrPath with
  | none, _ => bs
  | some n, some path => withHsrTag path n bs
  | some n, none => if pairMode s = 2 then withHsrTag (hsrPathOf p bs) n bs else bs ++ prpTrailer p n (bs.length - 8)

/-- The frame check sequence of IEEE 802.3, least significant byte first (PRESUMED, log entry 78). -/
def frameCheck (bs : Bytes) : Bytes :=
  let step (c : W32) : W32 := if bit c 0 then (c >>> 1) ^^^ 0xEDB88320#32 else c >>> 1
  let byte (c : W32) (b : Byte) : W32 := step (step (step (step (step (step (step (step (c ^^^ b.setWidth 32))))))))
  leBytes 4 ((bs.foldl byte 0xFFFFFFFF#32) ^^^ 0xFFFFFFFF#32).toNat

/-- MACsec's protection of a frame under a transmit SA (R322, R324; the layout of IEEE 802.1AE is PRESUMED, log entry 78): the
addresses, the SecTAG, the secure data, the ICV. -/
def macsecProtect (x : PortS) (a : Sa) (bs : Bytes) : Bytes :=
  let only := bit x.macsec 5
  let user := bs.drop 12
  let tci := (if bit x.macsec 3 then 0x20 else 0) + (if only then 0 else 0x0C) + a.an.toNat
  let tag := beBytes 2 0x88E5 ++ [BitVec.ofNat 8 tci, BitVec.ofNat 8 (if user.length < 48 then user.length else 0)]
    ++ beBytes 4 (a.pn.toNat % 2 ^ 32) ++ (if bit x.macsec 3 then beBytes 8 a.sci.toNat else [])
  let clear := if only then user.length else match bits x.macsec 9 8 with | 0 => 0 | 1 => 30 | _ => 50
  let nonce := if bit x.macsec 1 then (fitBytes 12 a.salt).zipWith (fun u v => u ^^^ v) (beBytes 4 a.ssci.toNat ++ beBytes 8 a.pn.toNat)
    else beBytes 8 a.sci.toNat ++ beBytes 4 (a.pn.toNat % 2 ^ 32)
  let r := Config.gcmSeal a.key nonce (bs.take 12 ++ tag ++ user.take clear) (user.drop clear)
  bs.take 12 ++ tag ++ user.take clear ++ fitBytes (user.length - clear) r.1 ++ fitBytes 16 r.2

/-- The bytes of a frame on the lane from destination address through FCS (R291, R324). -/
def onWire (s : State) (p : Port) (f : TxFrame) : Bytes :=
  let x := s.port p
  let bs := taggedBytes s p f
  let bs := if secured x f.bytes then (match txSa x with | some a => macsecProtect x a bs | none => bs) else bs
  bs ++ frameCheck bs

/-- A port can send the frame: its link is up, and its controlled port is operational (R277, R325). -/
def canSend (x : PortS) (f : TxFrame) : Bool :=
  x.link && (!secured x f.bytes || ((txSa x).isSome && !x.exhausted))

/-! ### Vellek counters (R337) -/

/-- A Vellek station. -/
def State.vst (s : State) (st : Nat) : VStation := look {} s.net.vstations st

/-- Change a Vellek station. -/
def modVst (s : State) (st : Nat) (f : VStation → VStation) : State :=
  s.setNet { s.net with vstations := put {} s.net.vstations st (f (s.vst st)) }

/-- Add n to station counter i, in the order of R337: 0 accepted, 1 applied, 2 format, 3 range, 4 sequence, 5 lost,
6 overwritten, 7 skew, 8 builds, 9 sent, 10 superseded, 11 discarded, 12 discarded outputs, 13 missed, 14 drop-outs. -/
def countVst (s : State) (st i n : Nat) : State :=
  let old := look 0 (s.vst st).counters i
  let new := if i ≥ 13 then satNat 32 old n else wrapNat 32 old n
  let s := modVst s st (fun x => { x with counters := put 0 x.counters i new })
  raiseIf (decide (2 ≤ i ∧ i ≤ 12) && halfEvent 32 old new) 588 s

/-- Add one to an engine counter of R337: 0 truncated, 1 checksum, 2 format, 3 unknown station. -/
def countVel (s : State) (i : Nat) : State :=
  let old := look 0 s.net.vcounters i
  let new := wrapNat 32 old 1
  raiseIf (halfEvent 32 old new) 588 (s.setNet { s.net with vcounters := put 0 s.net.vcounters i new })

/-! ### Copies of a frame (R277, R291) -/

/-- A copy of frame `id` waits or is being sent on a port. -/
def hasCopy (x : PortS) (id : Nat) : Bool :=
  x.copies.any (fun f => f.id == id) || (match x.sending with | some f => f.id == id && f.src != srcControl && f.src != srcForward | none => false)

/-- A copy of frame f has left its port, sent or not: the first sent copy counts the frame, and after the last one its cells
are freed (R277, R291, R337). -/
def leaveCopy (s : State) (f : TxFrame) (sent : Bool) : State :=
  if f.src = srcControl ∨ f.src = srcForward ∨ f.src = srcPtp then s
  else
    let before := s.net.doneIds.contains f.id
    let other := hasCopy s.net.port0 f.id || hasCopy s.net.port1 f.id
    let s := if sent && !before then (if f.src ≥ 1000 then countVst s (f.src - 1000) 9 1 else countNq s f.src 6 1) else s
    if other then
      if sent && !before then s.setNet { s.net with doneIds := f.id :: s.net.doneIds } else s
    else
      let s := s.setNet { s.net with doneIds := s.net.doneIds.erase f.id }
      if f.src ≥ 1000 then (if sent || before then s else countVst s (f.src - 1000) 11 1)
      else modNq s f.src (fun q => { q with pendingTx := q.pendingTx - 1, txCells := q.txCells - cellsOf f.bytes.length })

/-- Discard one waiting copy, counted by port counter i: 37 link-down discard, 38 paired copy discarded. -/
def discardCopy (s : State) (p : Port) (f : TxFrame) (i : Nat) : State :=
  leaveCopy (countPort (modPort s p (fun x => { x with copies := x.copies.erase f })) p i 1) f false

/-- Discard the copies of a port that it cannot send (R277, R301, R325), the one in progress too when its link is down. -/
def purgeCopies (s : State) (p : Port) : State :=
  let x := s.port p
  let s := (x.copies.filter (fun f => !canSend x f)).foldl (fun s f => discardCopy s p f 37) s
  let gone := x.forwarding.filter (fun f => !canSend x f)
  let s := gone.foldl (fun s f => countPort (modPort s p (fun x =>
    { x with forwarding := x.forwarding.erase f, fwdCells := x.fwdCells - cellsOf f.bytes.length })) p 37 1) s
  if x.link then s
  else
    let s := modPort s p (fun x => { x with ctrlFrames := [], sending := none })
    match x.sending with
    | some f =>
      let s := if f.src = srcControl then s else countPort s p 37 1
      let s := if f.src = srcForward then modPort s p (fun x => { x with fwdCells := x.fwdCells - cellsOf f.bytes.length }) else s
      leaveCopy s f false
    | none => s

/-- Hand a frame to ports: a copy on each, a link-down discard where the port cannot send it (R277). -/
def sendOn (s : State) (ports : List Port) (f : TxFrame) : State :=
  let f := { f with id := s.net.nextId }
  let red := redundant s f.src
  let f := { f with seqNo := if red then some s.net.seqNo else none }
  let s := s.setNet { s.net with nextId := s.net.nextId + 1, seqNo := if red then s.net.seqNo + 1 else s.net.seqNo }
  let s := ports.foldl (fun s p => modPort s p (fun x => { x with copies := x.copies ++ [f] })) s
  ports.foldl (fun s p => if canSend (s.port p) f then s else discardCopy s p f 37) s

/-! ### The discipline state (R312) -/

/-- `TSRC`. -/
def timeSource (s : State) : Nat := bits s.time.rec0 63 62

/-- Write `TSTATE`; a change is recorded and shows in the device status block (R312, R467). -/
def setTstate (s : State) (v : BitVec 2) : State :=
  if s.time.tstate = v then s
  else
    let was := s.time.tstate
    trialLock (syncDev (recordT (s.setTime { s.time with tstate := v }) (erNum s.pair.active) 0x4303 v.toNat was.toNat))

/-- The servo's source is lost: a locked servo holds its rate and stops slewing (R312). -/
def sourceLost (s : State) : State :=
  let s := s.setTime { s.time with lockRun := 0 }
  if s.time.tstate = 2 then setTstate (s.setTime { s.time with slewRem := 0 }) 3 else s

/-- portState numbers of IEEE 1588 (PRESUMED, log entry 20). -/
def PtpState.code : PtpState → Nat
  | .faulty => 2
  | .listening => 4
  | .other c => c.toNat

/-- A change of a PTP port's state, as portState numbers it (R319). -/
def setPtp (s : State) (p : Port) (v : PtpState) : State :=
  let t := modPort s p (fun x => { x with ptp := v })
  if (s.port p).ptp.code = v.code then t else recordT t (erNum s.pair.active) 0x4305 (portNo p) v.code

/-! ### Flow control (R294 to R297) -/

/-- Cells of frames received on port p with PCP c that queues and the other port's forwarding queue hold. -/
def heldCells (s : State) (p : Port) (c : Nat) : Nat :=
  let mine (f : RxFrame) : Bool := !f.overflow && bit f.word 57 == (portNo p == 1) && bits f.word 55 53 == c
  let sum (l : List RxFrame) : Nat := l.foldl (fun n f => if mine f then n + cellsOf f.bytes.length else n) 0
  let fwd (f : TxFrame) (n : Nat) : Nat := if f.cls.toNat = c then n + cellsOf f.bytes.length else n
  let o := s.port (otherPort p)
  s.net.queues.foldl (fun n e => n + sum e.2.frames + sum e.2.stalled) 0 + o.forwarding.foldr fwd 0
    + (match o.sending with | some f => if f.src = srcForward then fwd f 0 else 0 | none => 0)

/-- The occupancy that a port watches for class c: all classes together under PAUSE (R296). -/
def occupancy (s : State) (p : Port) (c : Nat) : Nat :=
  if (s.port p).fcmode = 2 then heldCells s p c else (List.range 8).foldl (fun n k => n + heldCells s p k) 0

/-- Queue a flow-control frame for class c with a time. -/
def pushControl (s : State) (p : Port) (c time : Nat) : State :=
  modPort s p (fun x => { x with ctrlFrames := x.ctrlFrames ++ [(BitVec.ofNat 3 c, BitVec.ofNat 16 time)] })

/-- Compare a port's occupancies with `XOFF` and `XON` (R296). -/
def flowControl (s : State) (p : Port) : State :=
  let x := s.port p
  let classes := match x.fcmode with
    | 1 => [0]
    | 2 => List.range 8
    | _ => []
  if !x.link then s
  else
    classes.foldl (fun s c =>
      let occ := occupancy s p c
      let on := look false (s.port p).xoff c
      let set (s : State) (b : Bool) : State := modPort s p (fun x => { x with xoff := put false x.xoff c b })
      if !on && decide (occ ≥ x.xoffAt) then pushControl (set s true) p c 0xFFFF
      else if on && decide (occ < x.xonAt) then pushControl (set s false) p c 0
      else s) s

/-- Both ports watch their occupancies. -/
def flowBoth (s : State) : State := flowControl (flowControl s .np0) .np1

/-- A port gives up what it cannot send, and the other port's occupancy follows (R296, R325). -/
def purgePort (s : State) (p : Port) : State := flowControl (purgeCopies s p) (otherPort p)

/-- The bytes of a PAUSE or PFC frame for class c. -/
def controlBytes (x : PortS) (c : BitVec 3) (time : BitVec 16) : Bytes :=
  let head := beBytes 6 0x0180C2000001 ++ beBytes 6 x.mac ++ beBytes 2 0x8808
  if x.fcmode = 2 then
    head ++ beBytes 2 0x0101 ++ beBytes 2 (2 ^ c.toNat) ++ (List.range 8).flatMap (fun k => beBytes 2 (if k = c.toNat then time.toNat else 0))
  else head ++ beBytes 2 1 ++ beBytes 2 time.toNat

/-! ### The transmit scheduler (R292, R334) -/

/-- Class c may not start a frame (R295). -/
def PortS.paused (x : PortS) (c : Nat) : Bool := x.pausePort != 0 || look 0 x.pauseCls c != 0

/-- The frame that the least value of `key` selects; the first of equals. -/
def leastBy (key : TxFrame → Nat) : List TxFrame → Option TxFrame
  | [] => none
  | f :: fs =>
    match leastBy key fs with
    | none => some f
    | some g => if key f ≤ key g then some f else some g

/-- Order within a class after the forwarding queue: Vellek frames, system queues in ascending number, and partition queues
round-robin after the queue served last. -/
def classKey (last : Nat) (f : TxFrame) : Nat :=
  if f.src ≥ 1000 then 0 else if f.src ≥ 128 then f.src - 127 else 100 + (f.src + 127 - last) % 128

/-- Copies that may start: those of a queue that a DMA window fault stopped stay pending (R293). -/
def readyCopies (s : State) (x : PortS) : List TxFrame := x.copies.filter (fun f => !(decide (f.src < 160) && (s.nq f.src).stopped))

/-- The next frame by class, and whether it is forwarded. -/
def chooseFrame (s : State) (x : PortS) : Option TxFrame :=
  [7, 6, 5, 4, 3, 2, 1, 0].findSome? (fun c =>
    if x.paused c then none
    else
      let here (f : TxFrame) : Bool := f.cls.toNat == c
      (x.forwarding.find? here).orElse (fun _ => leastBy (classKey (look 127 x.rr c)) ((readyCopies s x).filter here)))

/-- Offset of a PTP message in a frame: after its EtherType, or after its IP and UDP headers. -/
def ptpOff (bs : Bytes) : Nat :=
  let o := etherOff bs + 2
  match etherType bs with
  | 0x0800 => o + 4 * ((bs.getD o 0).toNat % 16) + 8
  | 0x86DD => o + 48
  | _ => o

/-- `messageType` of a PTP message. -/
def ptpType (bs : Bytes) : Nat := (bs.getD (ptpOff bs) 0).toNat % 16
/-- `domainNumber`. -/
def ptpDomain (bs : Bytes) : Nat := (bs.getD (ptpOff bs + 4) 0).toNat
/-- `sequenceId`. -/
def ptpSeq (bs : Bytes) : Nat := be16 bs (ptpOff bs + 30)

/-- A timestamp in 2^-16 ns: DTIME with a signed correction of R314. -/
def stampParts (s : State) (corr : Int) : Nat := ((s.time.dtime.toNat * 2 ^ 16 : Nat) + corr).toNat

/-- The 16-byte timestamp record of R315 as two words. -/
def stampRecord (p : Port) (egress : Bool) (bs : Bytes) (parts : Nat) : W64 × W64 :=
  (BitVec.ofNat 64 (parts / 2 ^ 16),
   BitVec.ofNat 64 (ptpSeq bs * 2 ^ 48 + ptpType bs * 2 ^ 44 + portNo p * 2 ^ 43 + egress.toNat * 2 ^ 42 + ptpDomain bs * 2 ^ 32 + parts % 2 ^ 16))

/-- An egress record enters the port's FIFO of 64 (R315). -/
def pushEgress (s : State) (p : Port) (w : W64 × W64) : State :=
  let x := s.port p
  if x.egress.length ≥ 64 then countPort (modPort s p (fun x => { x with egress := x.egress.tail ++ [w] })) p 80 1
  else modPort s p (fun x => { x with egress := x.egress ++ [w] })

/-- The ones' complement sum of 16-bit words. -/
def onesSum : Bytes → Nat
  | a :: b :: bs => a.toNat * 256 + b.toNat + onesSum bs
  | [a] => a.toNat * 256
  | [] => 0

/-- A ones' complement sum folded to 16 bits. -/
def foldOnes (n : Nat) : Nat := let m := n / 65536 + n % 65536; let m := m / 65536 + m % 65536; m / 65536 + m % 65536

/-- A Sync frame with its origin timestamp written while it is serialised (R316). -/
def oneStep (bs : Bytes) (parts : Nat) : Bytes :=
  let o := ptpOff bs
  let ns := parts / 2 ^ 16
  let corr := (beNat ((bs.drop (o + 8)).take 8) + parts % 2 ^ 16) % 2 ^ 64
  let out := patchBytes (patchBytes bs (o + 34) (beBytes 6 (ns / 10 ^ 9) ++ beBytes 4 (ns % 10 ^ 9))) (o + 8) (beBytes 8 corr)
  match etherType bs with
  | 0x0800 => patchBytes out (o - 2) [0, 0]
  | 0x86DD =>
    let n := bs.length - 2
    let was := foldOnes (onesSum (bs.drop (o - 8)))
    let now := foldOnes (onesSum ((patchBytes out n [0, 0]).drop (o - 8)))
    patchBytes out n (beBytes 2 ((was + 65535 - now) % 65535))
  | _ => out

/-- A message with its twoStepFlag set: bit 1 of the first flag byte (PRESUMED, log entry 20). -/
def markTwoStep (bs : Bytes) : Bytes :=
  let o := ptpOff bs + 6
  patchBytes bs o [setBit (bs.getD o 0) 1 true]

/-- A PTP event message starts (R315, R316): its egress record, and a one-step Sync's timestamp. The engine's own responses, and
its Syncs on a port whose MACsec protects them, go two-step. -/
def startPtp (s : State) (p : Port) (f : TxFrame) : State × TxFrame :=
  let x := s.port p
  if f.src == srcControl || !ptpFrame f.bytes || ptpType f.bytes > 3 then (s, f)
  else
    let corr := (look (0, 0) x.latency x.rate.toNat).2.toInt
    let parts := stampParts s corr
    let s := pushEgress s p (stampRecord p true f.bytes parts)
    let two := bit (f.bytes.getD (ptpOff f.bytes + 6) 0) 1
    let sync := ptpType f.bytes == 0
    if f.src != srcPtp || two then (s, f)
    else if sync && !secured x f.bytes then (s, { f with bytes := oneStep f.bytes parts })
    else if sync || ptpType f.bytes == 3 then (s, { f with bytes := markTwoStep f.bytes })
    else (s, f)

/-- The first copy of a Vellek frame starts: from then on the frame counts as sent, so that of a station's builds at most one is
pending at every instant (R337). DESIGN CHOICE (log entry 124): a copy that a link loss cuts short does not take the count back. -/
def beginVellek (s : State) (f : TxFrame) : State :=
  if f.src < 1000 || s.net.doneIds.contains f.id then s
  else countVst (s.setNet { s.net with doneIds := f.id :: s.net.doneIds }) (f.src - 1000) 9 1

/-- Start frame f, which the scheduler chose. -/
def startFrame (s : State) (p : Port) (f : TxFrame) : State :=
  let fwd := f.src == srcForward
  let s := modPort s p (fun x => { x with
    copies := if fwd then x.copies else x.copies.erase f
    forwarding := if fwd then x.forwarding.erase f else x.forwarding
    rr := if f.src < 128 then put 127 x.rr f.cls.toNat f.src else x.rr })
  let (s, f') := startPtp (beginVellek s f) p f
  let w := onWire s p f'
  modPort s p (fun x => { x with sending := some { f' with wire := w } })

/-- Start the frame that the scheduler chooses. -/
def startChosen (s : State) (p : Port) : State :=
  match chooseFrame s (s.port p) with
  | some f => startFrame s p f
  | none => s

/-- A free port chooses its next frame (R292), flow control first; what a controlled port that is not operational would send is
discarded (R325). -/
def startNext (s : State) (p : Port) : State :=
  let x := s.port p
  if !x.link || x.sending.isSome || x.lpi then s
  else
    let frame (c : BitVec 3 × BitVec 16) : TxFrame := { src := srcControl, cls := c.1, bytes := controlBytes x c.1 c.2, id := 0 }
    match x.ctrlFrames with
    | c :: rest =>
      if canSend x (frame c) then modPort s p (fun x => { x with ctrlFrames := rest, sending := some { frame c with wire := onWire s p (frame c) } })
      else startChosen (countPort (modPort s p (fun x => { x with ctrlFrames := [] })) p 37 x.ctrlFrames.length) p
    | [] => startChosen s p

/-- TRANSMIT_START (R292): a port in low-power idle starts its next frame at LPI_WAKE. -/
def execTransmitStart (p : Port) (s : State) : Out := whenPowered s (startNext s p)

/-- The packet number space of a port's SAs ends here (R325). -/
def lastPn (x : PortS) : Nat := if bit x.macsec 1 then 2 ^ 64 - 1 else 2 ^ 32 - 1

/-- Three quarters of that space are used (R325). -/
def rekeyPn (x : PortS) : Nat := if bit x.macsec 1 then 0xC000000000000000 else 0xC0000000

/-- MACsec has protected a sent frame, its trailer or tag included (R324): its counters and packet number (R325, R326). -/
def protectedSent (s : State) (p : Port) (f : TxFrame) : State :=
  let x := s.port p
  let n := (taggedBytes s p f).length - 12
  let only := bit x.macsec 5
  let s := countPort (countPort s p 74 (if only then 1 else 0)) p 75 (if only then 0 else 1)
  let s := countPort (countPort s p 78 (if only then n else 0)) p 79 (if only then 0 else n)
  match txSa x with
  | none => s
  | some a =>
    if a.pn.toNat ≥ lastPn x then
      if x.exhausted then s
      else purgePort (recordT (modPort s p (fun x => { x with exhausted := true })) 3 0x4402 (portNo p) a.an.toNat) p
    else modPort s p (fun x => { x with
      sas := x.sas.map (fun b => if b == a then { b with pn := b.pn + 1 } else b), rekey := x.rekey || decide (a.pn.toNat + 1 ≥ rekeyPn x) })

/-- The counters of a sent frame (R303). -/
def countSent (s : State) (p : Port) (f : TxFrame) : State :=
  let n := wireBytes s p f
  let s := countPort (countPort s p 1 n) p 3 1
  let s := countPort (countPort s p (11 + lengthBin n) 1) p (21 + castOf (dstMac f.bytes)) 1
  let s := if (frameTag f.bytes).isSome then countPort s p 30 1 else s
  let s := modPort s p (fun x => { x with winTx := x.winTx + n, msTx := x.msTx + n })
  if f.src = srcControl then countPort (countPort s p (if be16 f.bytes 14 = 1 then 27 else 28) 1) p (47 + (if be16 f.bytes 14 = 1 then 0 else f.cls.toNat)) 1
  else s

/-! ### Links and rate steps (R269, R299 to R302, R319) -/

/-- A port's MACR domain runs from MACT while its lane has no lock (R344). -/
def macrOnMact (s : State) (p : Port) (on : Bool) : State :=
  match p with
  | .np0 => s.setDev { s.dev with macrOnMact0 := on }
  | .np1 => s.setDev { s.dev with macrOnMact1 := on }

/-- The best master clock algorithm has found a master on the port, whose state is then PASSIVE, UNCALIBRATED or SLAVE (R319; the
numbers of portState are log entry 20's). -/
def PortS.hasMaster (x : PortS) : Bool := x.link && decide (7 ≤ x.ptp.code ∧ x.ptp.code ≤ 9)

/-- A port's link goes down (R269, R295, R319): 1 PHY, 2 lane lock, 3 renegotiation, 4 isolation. -/
def dropLink (s : State) (p : Port) (cause : Nat) : State :=
  let x := s.port p
  if !x.link then s
  else
    let s := modPort s p (fun x => { x with link := false, pausePort := 0, pauseCls := [], xoff := [], lpi := false })
    let s := recordT (countPort s p 56 1) 3 0x4101 (portNo p) cause
    let s := flowControl (setPtp (purgeCopies s p) p .faulty) (otherPort p)
    if s.time.srcPort = some p then
      if (s.port (otherPort p)).hasMaster then s.setTime { s.time with srcPort := some (otherPort p) }
      else
        let s := s.setTime { s.time with srcPort := none }
        if timeSource s = 1 then sourceLost s else s
    else s

/-- NR writes the PHY's advertisement and restarts auto-negotiation (R267, R300 rules 2 and 5). -/
def negotiate (s : State) (p : Port) (rates : BitVec 4) : State :=
  modPort s p (fun x => { x with advertised := rates, negotiating := true })

/-- `ADV`. -/
def PortS.adv (x : PortS) : BitVec 4 := BitVec.ofNat 4 (bits (x.pw 0) 60 57)

/-- A port renegotiates to the rate of `LMODE` with its full advertisement (R300 rule 5). -/
def toUpstep (s : State) (p : Port) : State :=
  let s := negotiate (modPort s p (fun x => { x with step := .upstep, rate := x.lmode })) p (s.port p).adv
  s.setNet { s.net with notFull := true }

/-- A port enters UPSTEP (R300 rules 3 and 5): its rate is `LMODE`'s. -/
def stepUp (s : State) (p : Port) (cause : Nat) : State :=
  let s := dropLink s p 3
  toUpstep (recordT (countPort s p 58 1) 3 0x4104 (portNo p) cause) p

/-- The other port's link has gone down (R300 rules 3 and 4). -/
def otherWentDown (s : State) (p : Port) : State :=
  match (s.port p).step with
  | .low => stepUp s p 2
  | .downstep => toUpstep s p
  | _ => s

/-- A link goes down, with what it does to the other port; a lane that loses lock leaves its recovered clock even while its link
is down (R344). -/
def linkDown (s : State) (p : Port) (cause : Nat) : State :=
  let s := if cause = 2 then macrOnMact s p true else s
  if (s.port p).link then otherWentDown (dropLink s p cause) (otherPort p) else s

/-- A port enters DOWNSTEP with the load of its last window in Mbit/s (R300 rules 1 and 2). -/
def stepDown (s : State) (p : Port) (load : Nat) : State :=
  let s := dropLink s p 3
  let s := recordT (countPort s p 57 1) 3 0x4103 (portNo p) load
  let s := modPort s p (fun x => { x with step := .downstep, rate := x.lowRate, hold := 0 })
  let s := s.setNet { s.net with notFull := true }
  negotiate s p (BitVec.ofNat 4 (2 ^ (3 - (s.port p).rate.toNat)))

/-- A port's lane holds lock: its MACR domain runs from the recovered clock (R269, R344). -/
def laneLock (s : State) (p : Port) : Bool :=
  match p with
  | .np0 => !s.dev.macrOnMact0
  | .np1 => !s.dev.macrOnMact1

/-- The key of a PHY register. -/
def phyKey (port mmd reg : Nat) : Nat := port * 2 ^ 21 + mmd * 2 ^ 16 + reg

/-- NR reads what PHY and link partner advertise in registers 7.60 and 7.61: free values (R298; log entry 80). -/
def readEee (s : State) (p : Port) : State :=
  let (w, s) := s.takeFree
  let phy := put 0 s.net.phy (phyKey (portNo p) 7 60) (BitVec.ofNat 16 (bits w 15 0))
  s.setNet { s.net with phy := put 0 phy (phyKey (portNo p) 7 61) (BitVec.ofNat 16 (bits w 31 16)) }

/-- A port's link comes up (R269, R300, R319): the PHY's PCS status, as last polled, reports link and the lane holds lock. The path
delay is measured again. In START the ports are not yet enabled (R363 step 9). -/
def linkUp (s : State) (p : Port) (lmode : BitVec 2) : State :=
  let x := s.port p
  if s.dev.dstate = .start || x.link || !x.enable || x.isolated || x.rate != lmode || !bit x.pcs 2 || !laneLock s p then s
  else
    let s := recordT (modPort s p (fun x => { x with link := true, negotiating := false, portDs := patchBytes x.portDs 12 (List.replicate 8 0) })) 3 0x4102 (portNo p) lmode.toNat
    let s := setPtp (readEee s p) p .listening
    let s := match x.step with
      | .downstep => modPort s p (fun x => { x with step := .low })
      | .upstep => modPort s p (fun x => { x with step := .full, hold := 0 })
      | _ => s
    let s := if x.step = .downstep && !x.stepen then stepUp s p 3 else s
    flowControl s p

/-- Isolate a port (R26, R302): its MAC is out of traffic and its link down. -/
def isolatePort (s : State) (p : Port) : State :=
  if (s.port p).isolated then s
  else
    let s := linkDown s p 4
    let s := modPort s p (fun x => { x with isolated := true, step := .full, rate := x.lmode, hold := 0 })
    recordT s 3 0x4108 (portNo p) (3 * 8192 + 0x11 * 256 + portNo p)

/-- A port returns to service (R302). -/
def returnPort (s : State) (p : Port) : State :=
  negotiate (modPort s p (fun x => { x with isolated := false, pausePort := 0, pauseCls := [], step := .full, rate := x.lmode })) p (s.port p).adv

end Sys2Proof.Machine
end

