-- ==== Sys2Proof/Machine/Vellek.lean ====
section
/-! DEFINITION. The Vellek engine (R327 to R337): the frames of network stations, their blocks, output builds, supervision and
return. -/

namespace Sys2Proof.Machine

/-! ### Records -/

/-- Word k of a byte record. -/
def recWord (bs : Bytes) (k : Nat) : W64 := BitVec.ofNat 64 (fieldLE bs (8 * k) 8)

/-- Word k of the Vellek record (R327). -/
def vWord (s : State) (k : Nat) : W64 := recWord s.net.vellek k

/-- `VEN`. -/
def vellekOn (s : State) : Bool := bit (vWord s 0) 63
/-- `V4ADDR` in network order. -/
def v4Addr (s : State) : Bytes := (s.net.vellek.drop 12).take 4
/-- `V6ADDR` in network order. -/
def v6Addr (s : State) : Bytes := (s.net.vellek.drop 16).take 16

/-- Word k of a station record (R332). -/
def VStation.vw (x : VStation) (k : Nat) : W64 := recWord x.record k
/-- `VALID`. -/
def VStation.valid (x : VStation) : Bool := bit (x.vw 0) 63
/-- `IP6`. -/
def VStation.ip6 (x : VStation) : Bool := bit (x.vw 0) 62
/-- `LIMIT`. -/
def VStation.limit (x : VStation) : Nat := bits (x.vw 0) 55 48
/-- `SIP`. -/
def VStation.sip (x : VStation) : Bytes := (x.record.drop 32).take 16

/-- Blocks of one direction (R333), as first point and count: the entries in use among `n` from `first`. -/
def blockRange (s : State) (first n : Nat) (output : Bool) : List (Nat × Nat) :=
  (lookAll 0 s.net.vblocks first n).filterMap (fun w =>
    if bit w 63 && bit w 62 == output then some (bits w 51 32, bits w 15 0) else none)

/-- Input blocks of a station. -/
def inBlocks (s : State) (x : VStation) : List (Nat × Nat) := blockRange s (bits (x.vw 3) 63 51) (bits (x.vw 3) 50 44) false
/-- Output blocks of a station. -/
def outBlocks (s : State) (x : VStation) : List (Nat × Nat) := blockRange s (bits (x.vw 3) 43 31) (bits (x.vw 3) 30 24) true

/-- The points of a block. -/
def blockPoints (b : Nat × Nat) : List Nat := (List.range b.2).map (fun k => b.1 + k)

/-- The ports that carry a station's frames (R334). -/
def stationPorts (s : State) (x : VStation) : List Port :=
  if pairMode s ≠ 0 then [.np0, .np1] else if bits (x.vw 0) 61 60 = 2 then [.np1] else [.np0]

/-! ### Output frames (R329, R334) -/

/-- A value that a release cell gives is a SAFELIGHT value: before the first release, in HALT, or in place of a NaN. -/
def isSafe (s : State) (i : Nat) : Bool :=
  let c := s.cell i
  !c.released || c.bad || s.dev.dstate == .halt

/-- One output block: header and values (R329). -/
def outBlock (s : State) (b : Nat × Nat) : Bytes :=
  let ps := blockPoints b
  beBytes 4 ((ps.any (isSafe s)).toNat * 2 ^ 31 + b.1) ++ beBytes 4 b.2 ++ ps.flatMap (fun i => beBytes 4 (cellValue s i).toNat)

/-- The UDP payload of an output frame with sequence `n`. -/
def outPayload (s : State) (st : Nat) (n : BitVec 16) : Bytes :=
  let bs := outBlocks s (s.vst st)
  let body := bs.flatMap (outBlock s)
  let ticks := (bs.flatMap blockPoints).map (fun i => if (s.cell i).released then (s.cell i).tick.toNat else 0)
  beBytes 4 (2 ^ 28 + 2 ^ 27 + bs.length * 2 ^ 13 + st) ++ beBytes 2 n.toNat ++ beBytes 2 body.length ++ beBytes 8 (ticks.foldl max 0) ++ body

/-- A UDP datagram with its checksum over the pseudo header of `src` and `dst`. -/
def udpDatagram (src dst : Bytes) (sport dport : Nat) (data : Bytes) : Bytes :=
  let n := data.length + 8
  let head (c : Nat) : Bytes := beBytes 2 sport ++ beBytes 2 dport ++ beBytes 2 n ++ beBytes 2 c
  let sum := foldOnes (onesSum (src ++ dst ++ beBytes 2 17 ++ beBytes 2 n) + onesSum (head 0 ++ data))
  let c := 65535 - sum
  head (if c = 0 then 65535 else c) ++ data

/-- An IPv4 packet; identification, fragment bit, service and hop fields come from a free value. -/
def ipv4Packet (src dst : Bytes) (free : W64) (data : Bytes) : Bytes :=
  let head (c : Nat) : Bytes := [0x45, BitVec.ofNat 8 (bits free 7 0)] ++ beBytes 2 (20 + data.length) ++ beBytes 2 (bits free 31 16)
    ++ beBytes 2 (bits free 32 32 * 2 ^ 14) ++ [BitVec.ofNat 8 (bits free 15 8), 17] ++ beBytes 2 c ++ src ++ dst
  head (65535 - foldOnes (onesSum (head 0))) ++ data

/-- An IPv6 packet; class, flow label and hop limit come from a free value. -/
def ipv6Packet (src dst : Bytes) (free : W64) (data : Bytes) : Bytes :=
  beBytes 4 (6 * 2 ^ 28 + bits free 27 0) ++ beBytes 2 data.length ++ [17, BitVec.ofNat 8 (bits free 39 32)] ++ src ++ dst ++ data

/-- A station's output frame from destination address to its last data byte. -/
def outFrame (s : State) (st : Nat) (n : BitVec 16) (free : W64) : Bytes :=
  let x := s.vst st
  let v := vWord s 0
  let p := (stationPorts s x).headD .np0
  let data := outPayload s st n
  let udp (a b : Bytes) : Bytes := udpDatagram a b (bits v 31 16) (bits (x.vw 2) 15 0) data
  beBytes 6 (bits (x.vw 2) 63 16) ++ beBytes 6 (nodeMac s p)
    ++ (if bit v 62 then beBytes 2 0x8100 ++ beBytes 2 (bits v 61 59 * 2 ^ 13 + bits v 58 47) else [])
    ++ (if x.ip6 then beBytes 2 0x86DD ++ ipv6Packet (v6Addr s) x.sip free (udp (v6Addr s) x.sip)
        else beBytes 2 0x0800 ++ ipv4Packet (v4Addr s) (x.sip.drop 12) free (udp (v4Addr s) (x.sip.drop 12)))

/-- Waiting frames of a station whose transmission has not begun on any port. -/
def waitingFrames (s : State) (st : Nat) : List TxFrame :=
  let mine (f : TxFrame) : Bool := f.src == srcVellek st && !s.net.doneIds.contains f.id
    && !(s.net.port0.sending.any (fun g => g.id == f.id && g.src == f.src)) && !(s.net.port1.sending.any (fun g => g.id == f.id && g.src == f.src))
  (s.net.port0.copies ++ s.net.port1.copies.filter (fun f => !s.net.port0.copies.contains f)).filter mine

/-- Remove a station's waiting frames, counted once each by station counter i. -/
def removeWaiting (s : State) (st i : Nat) : State :=
  (waitingFrames s st).foldl (fun s f =>
    let out (s : State) (p : Port) : State := modPort s p (fun x => { x with copies := x.copies.erase f })
    countVst (out (out s .np0) .np1) st i 1) s

/-- Values in a station's output frame. -/
def outValues (s : State) (st : Nat) : Nat := (outBlocks s (s.vst st)).foldl (fun n b => n + b.2) 0

/-- Build a station's output frame (R334, R335). -/
def buildVellek (s : State) (st : Nat) : State :=
  let x := s.vst st
  if !vellekOn s || !x.valid || (outBlocks s x).isEmpty then s
  else
    let n := x.outSeq + 1
    let s := countVst (modVst s st (fun x => { x with outSeq := n })) st 8 1
    if x.state == .down then countVst (countVst s st 11 1) st 12 (outValues s st)
    else
      let s := removeWaiting s st 10
      let (free, s) := s.takeFree
      sendOn s (stationPorts s x) { src := srcVellek st, cls := BitVec.ofNat 3 (bits (vWord s 0) 61 59), bytes := outFrame s st n free, id := 0 }

/-- Builds under `OCHG` for one release group that sets the given points: of every station of which one is an output point, in a block
or not (R55, R334). -/
def vellekBuilds (s : State) (points : List Nat) : State :=
  s.net.vstations.foldl (fun s e =>
    if bit (e.2.vw 0) 59 && points.any (fun i => isOutput (modeOf s.image i) && stationOf s.image i == 0x1000 + e.1) then buildVellek s e.1 else s) s

/-- In HALT every frame sent to a station carries SAFELIGHT values (R70): waiting frames are built again. -/
def rebuildVellek (s : State) : State :=
  s.net.vstations.foldl (fun s e => if (waitingFrames s e.1).isEmpty then s else buildVellek s e.1) s

/-- VELLEK_OUTPUT_BUILD (R334): at the ticks that `OCYCLE` and `OPHASE` give. -/
def execVellekOutputBuild (st : BitVec 12) (s : State) : Out :=
  whenPowered s (
    if s.atPhase (bits ((s.vst st.toNat).vw 1) 47 24) (bits ((s.vst st.toNat).vw 1) 23 0) then buildVellek s st.toNat else s)

/-! ### Station states (R335, R336) -/

/-- The station number of R55. -/
def vNumber (st : Nat) : Nat := 0x1000 + st

/-- Apply an accepted frame (R331). -/
def applyVellek (s : State) (st : Nat) (items : List Item) : State := countVst (submitGroup s .vellek items) st 1 1

/-- A RETURNING station becomes UP: the held frame is applied (R336 rule 2). -/
def vellekUp (s : State) (st : Nat) : State :=
  let x := s.vst st
  let s := modVst s st (fun x => { x with state := .up, holding := false, held := [], heldOver := 0 })
  let s := recordT s 3 0x3203 (vNumber st) x.heldOver.toNat
  if x.holding then applyVellek s st x.held else s

/-- A WAITING or DOWN station is heard (R336). -/
def vellekReturning (s : State) (st : Nat) (items : List Item) : State :=
  let blocks := (outBlocks s (s.vst st)).length
  let again := (s.vst st).holding
  let s := if again then countVst s st 6 1 else s
  let s := modVst s st (fun x => { x with state := .returning, holding := true, held := items, heldOver := if again then 1 else 0, returnId := s.net.nextId })
  let s := recordT s 3 0x3202 (vNumber st) (if blocks = 0 then 0 else 1)
  if blocks = 0 then vellekUp s st else buildVellek s st

/-- A frame of the station is accepted (R335, R336). -/
def hearVellek (s : State) (st : Nat) (items : List Item) : State :=
  let s := modVst s st (fun x => { x with heard := true })
  match (s.vst st).state with
  | .waiting => vellekReturning s st items
  | .down => vellekReturning s st items
  | .returning =>
    if (s.vst st).holding then countVst (modVst s st (fun x => { x with held := items, heldOver := x.heldOver + 1 })) st 6 1
    else modVst s st (fun x => { x with held := items, holding := true })
  | _ => applyVellek s st items

/-- A frame of a station has been sent on some port (R336 rule 2). -/
def vellekSent (s : State) (f : TxFrame) : State :=
  if f.src < 1000 then s
  else
    let x := s.vst (f.src - 1000)
    if x.state == .returning && decide (x.returnId ≤ f.id) then vellekUp s (f.src - 1000) else s

/-- A station drops out (R258, R335): a held frame stays held until the station returns. -/
def vellekDrop (s : State) (st : Nat) : State :=
  let x := s.vst st
  let s := modVst s st (fun x => { x with state := .down })
  let s := submitGroup (countVst s st 14 1) .vellek [.dropOut (BitVec.ofNat 13 (vNumber st))]
  let n := (waitingFrames s st).length
  let s := countVst (removeWaiting s st 11) st 12 (n * outValues s st)
  recordT s 3 0x3201 (vNumber st) x.missed

/-- VELLEK_STATION_CHECK (R257, R335): at the ticks that `ICYCLE` and `IPHASE` give. -/
def execVellekStationCheck (st : BitVec 12) (s : State) : Out :=
  let n := st.toNat
  let x := s.vst n
  whenPowered s (
    if !x.valid || !s.atPhase (bits (x.vw 0) 47 24) (bits (x.vw 0) 23 0) then s
    else if x.heard then modVst s n (fun x => { x with missed := 0, heard := false, state := if x.state == .stale then .up else x.state })
    else if x.state == .unconfigured || x.state == .down then s
    else
      let s := countVst (modVst s n (fun x => { x with missed := x.missed + 1 })) n 13 1
      if x.missed + 1 ≥ x.limit then vellekDrop s n
      else if x.state == .up then submitGroup (modVst s n (fun x => { x with state := .stale })) .vellek [.stale (BitVec.ofNat 13 (vNumber n))]
      else s)

/-! ### Received frames (R328 to R331) -/

/-- Where the UDP header of a frame starts, if it is an IPv4 packet with a 20-byte header or an IPv6 packet that carries UDP. -/
def udpOff (bs : Bytes) : Option Nat :=
  let o := etherOff bs + 2
  match etherType bs with
  | 0x0800 => if bs.getD o 0 = 0x45 ∧ be16 bs (o + 6) % 2 ^ 14 = 0 ∧ bs.getD (o + 9) 0 = 17 then some (o + 20) else none
  | 0x86DD => if (bs.getD (o + 6) 0) = 17 then some (o + 40) else none
  | _ => none

/-- The packet is addressed to the module (R328). -/
def toModule (s : State) (bs : Bytes) : Bool :=
  let o := etherOff bs + 2
  if etherType bs = 0x0800 then (bs.drop (o + 16)).take 4 == v4Addr s && beNat (v4Addr s) != 0
  else (bs.drop (o + 24)).take 16 == v6Addr s && beNat (v6Addr s) != 0

/-- A Vellek frame (R328). -/
def isVellek (s : State) (p : Port) (bs : Bytes) : Bool :=
  let v := vWord s 0
  let mac := (s.port p).mac
  let tagOk := if bit v 62 then (frameTag bs).isSome && frameVid bs == bits v 58 47 else (frameTag bs).isNone
  match udpOff bs with
  | none => false
  | some o => bit v 63 && (dstMac bs == mac || (pairMode s != 0 && dstMac bs == s.net.port0.mac)) && tagOk && toModule s bs
      && be16 bs (o + 2) == bits v 31 16

/-- Checksums of R330 check 2. -/
def checksumsOk (bs : Bytes) : Bool :=
  match udpOff bs with
  | none => false
  | some o =>
    let i := etherOff bs + 2
    let v4 := etherType bs == 0x0800
    let n := be16 bs (o + 4)
    let addrs := if v4 then (bs.drop (i + 12)).take 8 else (bs.drop (i + 8)).take 32
    let sum := foldOnes (onesSum (addrs ++ beBytes 2 17 ++ beBytes 2 n) + onesSum ((bs.drop o).take n))
    (!v4 || foldOnes (onesSum ((bs.drop i).take 20)) == 65535) && (if be16 bs (o + 6) = 0 then v4 else sum == 65535)

/-- The blocks of a payload: two header words and the values; none when the bytes do not suffice. -/
def parseBlocks : Nat → Bytes → Option (List (W32 × W32 × List W32) × Bytes)
  | 0, bs => some ([], bs)
  | n + 1, bs =>
    let w0 : W32 := BitVec.ofNat 32 (beNat (bs.take 4))
    let w1 : W32 := BitVec.ofNat 32 (beNat ((bs.drop 4).take 4))
    let k := bits w1 15 0
    if bs.length < 8 + 4 * k then none
    else
      let vals := (List.range k).map (fun j => BitVec.ofNat 32 (beNat ((bs.drop (8 + 4 * j)).take 4)))
      (parseBlocks n (bs.drop (8 + 4 * k))).map (fun r => ((w0, w1, vals) :: r.1, r.2))

/-- Reserved fields of the block headers that the payload holds are zero. -/
def blocksClean : Nat → Bytes → Bool
  | 0, _ => true
  | n + 1, bs =>
    if bs.length < 8 then true
    else
      let w0 : W32 := BitVec.ofNat 32 (beNat (bs.take 4))
      let w1 : W32 := BitVec.ofNat 32 (beNat ((bs.drop 4).take 4))
      bits w0 29 20 == 0 && bits w1 31 16 == 0 && blocksClean n (bs.drop (8 + 4 * bits w1 15 0))

/-- The updates of a block (R331). -/
def blockItems (r : Region) (b : W32 × W32 × List W32) : List Item :=
  b.2.2.zipIdx.map (fun v =>
    let i := bits b.1 19 0 + v.2
    let notBool := typeOf r i == tyBool && decide (v.1.toNat > 1)
    .input (BitVec.ofNat 20 i) v.1 (bit b.1 31 || notBool) (bit b.1 30))

/-- Saturate a signed number to 32 bits. -/
def sat32 (v : Int) : Nat := (BitVec.ofInt 32 (max (-2 ^ 31) (min (2 ^ 31 - 1) v))).toNat

/-- An accepted frame (R330, R331). -/
def acceptVellek (s : State) (st : Nat) (rst : Bool) (sq : BitVec 16) (xtick : Nat) (items : List Item) : State :=
  let x := s.vst st
  let s := countVst s st 0 1
  let s := if !rst && x.accepted1 then countVst s st 5 ((sq - x.lastSeq).toNat - 1) else s
  let s := if rst && x.accepted1 then recordT s 3 0x4503 (vNumber st) sq.toNat else s
  let skew := bits (vWord s 0) 15 0
  let d : Int := (xtick : Int) - s.nowTick
  let s := if skew ≠ 0 ∧ d.natAbs > skew then recordT (countVst s st 7 1) 3 0x4502 (vNumber st) (sat32 d) else s
  hearVellek (modVst s st (fun x => { x with accepted1 := true, lastSeq := sq })) st items

/-- The Vellek engine settles a frame received on port p (R330). -/
def settleVellek (s : State) (p : Port) (bs : Bytes) (trunc : Bool) : State :=
  match udpOff bs with
  | none => s
  | some o =>
    let u := bs.drop (o + 8)
    let h : W32 := BitVec.ofNat 32 (beNat (u.take 4))
    let st := bits h 12 0
    let n := bits h 20 13
    let len := be16 u 6
    let body := u.drop 16
    let x := s.vst st
    let i := etherOff bs + 2
    let from_ : Bytes := if etherType bs = 0x0800 then List.replicate 12 0 ++ (bs.drop (i + 12)).take 4 else (bs.drop (i + 8)).take 16
    let sq : BitVec 16 := BitVec.ofNat 16 (be16 u 4)
    if trunc then countVel s 0
    else if !checksumsOk bs then countVel s 1
    else if bits h 31 28 ≠ 1 ∨ bit h 27 ∨ bits h 25 21 ≠ 0 ∨ n = 0 ∨ !blocksClean n (body.take len) then countVel s 2
    else if st > 4095 ∨ !x.valid ∨ from_ ≠ x.sip ∨ x.ip6 ≠ (etherType bs == 0x86DD) then recordT (countVel s 3) 3 0x4501 st (portNo p)
    else
      match parseBlocks n (body.take len) with
      | none => countVst s st 2 1
      | some (bls, rest) =>
        let ins := inBlocks s x
        let inRange (b : W32 × W32 × List W32) : Bool :=
          let f := bits b.1 19 0
          let k := b.2.2.length
          decide (1 ≤ k ∧ k ≤ 2048) && ins.any (fun e => decide (e.1 ≤ f ∧ f + k ≤ e.1 + e.2))
        let d := (sq - x.lastSeq).toNat
        if len + 24 ≠ be16 bs (o + 4) ∨ body.length < len ∨ rest ≠ [] then countVst s st 2 1
        else if !bls.all inRange then countVst s st 3 1
        else if !bit h 26 && x.accepted1 && !decide (1 ≤ d ∧ d ≤ 32767) then countVst s st 4 1
        else acceptVellek s st (bit h 26) sq (beNat ((u.drop 8).take 8)) (bls.flatMap (blockItems s.image))

end Sys2Proof.Machine
end

