-- ==== Sys2Proof/Machine/Ir.lean ====
section
/-! DEFINITION. IR (R41, R66 to R83): release cells and rate limits, the interlock evaluators, local I/O, and the entry into
HALT, which every output follows at once (R69, R70). -/

namespace Sys2Proof.Machine

/-! ### Interlock evaluators (R75 to R79) -/

/-- Word k of an equation record. -/
def eqWord (r : List W64) (k : Nat) : W64 := r.getD k 0

/-- A pin. -/
def State.pin (s : State) (n : Nat) : Pin := look {} s.ir.pins n

/-- Change a pin. -/
def modPin (s : State) (n : Nat) (f : Pin → Pin) : State :=
  s.setIr { s.ir with pins := put {} s.ir.pins n (f (s.pin n)) }

/-- The input that a selector names (R76); reserved selectors are refused when the record is written. -/
def selectInput (s : State) (sel : Nat) : Bool :=
  if sel < 0x30 then (s.pin sel).sync
  else if sel = 0x31 then true
  else if sel < 0x40 then false
  else bit s.ir.flags (sel - 0x40)

/-- The index i of R77. -/
def eqIndex (s : State) (r : List W64) : Nat :=
  (List.range 8).foldl (fun i k => if selectInput s (bits (eqWord r 8) (8 * k + 6) (8 * k)) then i + 2 ^ k else i) 0

/-- Entry i of a 256-entry table at word k. -/
def tableBit (r : List W64) (k i : Nat) : Bool := bit (eqWord r (k + i / 64)) (i % 64)

/-- An equation's copy in an evaluator, none while a parity error makes IR ignore it (R79). -/
def eqCopy (s : State) (eq : Nat) (second : Bool) : Option (List W64) :=
  if second then (if bit s.ir.parity1 eq then none else some (look [] s.ir.eq1 eq))
  else if bit s.ir.parity0 eq then none else some (look [] s.ir.eq0 eq)

/-- The record that acts: the first copy that is not ignored. DESIGN CHOICE (log entry 110): where a parity error makes IR ignore both
(R79), evaluator 0's copy still gives `FORCE`, `TASK`, `EFRAME` and `ECHAN` of the latch. -/
def eqRecord (s : State) (eq : Nat) : List W64 :=
  ((eqCopy s eq false).orElse (fun _ => eqCopy s eq true)).getD (look [] s.ir.eq0 eq)

/-- What one evaluator registers for an enabled equation: `TRIP` and `RESET` at its index. -/
def evaluate (s : State) (r : Option (List W64)) : Option (Bool × Bool × Nat) :=
  match r with
  | some r => if bit (eqWord r 10) 63 then let i := eqIndex s r; some (tableBit r 0 i, tableBit r 4 i, i) else none
  | none => none

/-- The pin is forced by a latched trip (R78). -/
def pinForced (s : State) (n : Nat) : Bool :=
  (List.range 64).any (fun eq => bit s.ir.latches eq && bit (eqWord (eqRecord s eq) 9) n)

/-- `PMODE` of a pin. -/
def Pin.mode (x : Pin) : Nat := bits x.cfg 2 0
/-- A pin in output or PWM mode. -/
def Pin.isOut (x : Pin) : Bool := x.mode == 2 || x.mode == 3
/-- `PERIOD`. -/
def Pin.period (x : Pin) : Nat := bits x.cfg 63 40
/-- `SAFE`. -/
def Pin.safe (x : Pin) : Bool := bit x.cfg 9

/-- The value that a forced pin's point shows (R78). -/
def safeValue (x : Pin) : W32 :=
  if x.mode = 3 then (if x.safe then BitVec.ofNat 32 x.period else 0) else if x.safe then 1 else 0

/-- The level that an output pin drives now (R70, R71, R82). -/
def pinDrive (s : State) (n : Nat) : Bool :=
  let x := s.pin n
  if pinForced s n then x.safe
  else if x.mode = 2 then bit (cellValue s n) 0
  else if s.dev.dstate = .halt then
    let v := (cellValue s n).toNat
    if v = 0 then false else if v ≥ x.period then true else x.drive
  else x.drive

/-! ### Levels, edges and captures (R82) -/

/-- The point that an input update sets. -/
def inputPoint : Item → Option (BitVec 20)
  | .input i _ _ _ => some i
  | _ => none

/-- Later updates in place of the earlier ones of the same points. -/
def replaceInputs (old new : List Item) : List Item :=
  old.filter (fun x => !new.any (fun y => inputPoint y == inputPoint x)) ++ new

/-- Groups that wait for credit with none of their entries written. -/
def FQueue.unwritten (q : FQueue) : List Group := if q.part = 0 then q.waiting else q.waiting.tail

/-- A group of this pin's updates still waits for credit, none of its entries written. -/
def pinWaits (q : FQueue) (n : Nat) : Bool := q.unwritten.any (fun g => g.buf == some n)

/-- A pin's updates go to the sequencer; of a point whose update still waits for credit, the later one replaces it (R82). -/
def submitPin (s : State) (n : Nat) (items : List Item) : State :=
  let q := s.queue (sourceQueue .ir)
  let merge (l : List Group) : List Group :=
    l.map (fun g => if g.buf == some n then { g with items := replaceInputs g.items items } else g)
  if pinWaits q n then
    s.setQueue (sourceQueue .ir) { q with waiting := if q.part = 0 then merge q.waiting else q.waiting.take 1 ++ merge q.waiting.tail }
  else submitGroup s .ir items none (some n)

/-- A capture of this pin still waits for credit: a group that carries its capture point, and not a level or a count alone. -/
def captureWaits (s : State) (n : Nat) : Bool :=
  (s.queue (sourceQueue .ir)).unwritten.any (fun g =>
    g.buf == some n && g.items.any (fun x => inputPoint x == some (BitVec.ofNat 20 (0xB0 + n))))

/-- An input update of a local point. -/
def localInput (i : Nat) (v : W32) : Item := .input (BitVec.ofNat 20 i) v false false

/-- A new level at a pin's third synchroniser stage: edge count, capture and level group (R39, R82). -/
def levelChange (s : State) (n : Nat) (level : Bool) : State :=
  let x := s.pin n
  if x.sync = level then modPin s n (fun x => { x with land := level })
  else
    let selected := if level then bit x.cfg 10 else bit x.cfg 11
    let edges := if selected then x.edges + 1 else x.edges
    let s := modPin s n (fun x => { x with land := level, sync := level, edges := edges })
    let count := localInput (0xE0 + n) edges
    match x.mode with
    | 1 =>
      let s := modPin s n (fun x => { x with sent := some level })
      submitPin s n (localInput n (if level then 1 else 0) :: (if selected then [count] else []))
    | 4 =>
      if !selected then s
      else
        let t := s.time.dtime
        let replaced := captureWaits s n
        let over_ := if replaced then x.overwrites + 1 else x.overwrites
        let s := modPin s n (fun x => { x with capture := some t, overwrites := over_ })
        submitPin s n ([localInput n (t.setWidth 32), localInput (0xB0 + n) (BitVec.ofNat 32 (bits t 63 32)), count]
          ++ (if replaced then [localInput (0x110 + n) over_] else []))
    | _ => if selected then submitPin s n [count] else s

/-- The module drives a pin: the level appears at the land unless an outside circuit holds the land against it (R82). -/
def drivePin (s : State) (n : Nat) (d : Bool) : State :=
  let s := modPin s n (fun x => { x with drive := d })
  if (s.pin n).held || (s.pin n).land == d then s else levelChange s n d

/-- Drive every output pin as R71 decides. -/
def drivePins (s : State) : State :=
  (List.range 48).foldl (fun s n => if (s.pin n).isOut then drivePin s n (pinDrive s n) else s) s

/-! ### Trips (R77, R78) -/

/-- Output pins that an equation forces. -/
def eqPins (s : State) (eq : Nat) : List Nat :=
  (List.range 48).filter (fun n => bit (eqWord (eqRecord s eq) 9) n && (s.pin n).isOut)

/-- The updates of the output pins that a latched trip forces in t and not in s, or in s and not in t: the safe level, or the last
accepted value (R43, R78). -/
def forceChanges (s t : State) : List Item :=
  ((List.range 48).filter (fun n => (t.pin n).isOut && pinForced s n != pinForced t n)).map (fun n =>
    .interlocked (BitVec.ofNat 20 n) (if pinForced t n then safeValue (t.pin n) else cellValue t n) (pinForced t n))

/-- PWM pins that a latch forces in s and none in t return to their last accepted high time at once (R78). DESIGN CHOICE (log entry
94): the phase of their period is not held, so until its next start such a pin is high when the high time fills the period, and
else low. -/
def freePwm (s t : State) : State :=
  ((List.range 48).filter (fun n => (t.pin n).mode == 3 && pinForced s n && !pinForced t n)).foldl (fun t n =>
    modPin t n (fun x => { x with high := cellValue t n, drive := cellValue t n != 0 && decide ((cellValue t n).toNat ≥ x.period) })) t

/-- An equation's latch sets (R78): by1 and by2 say which evaluators tripped, at index i. -/
def setLatch (s : State) (eq i : Nat) (by1 by2 : Bool) : State :=
  let r := eqRecord s eq
  let s := s.setIr { s.ir with latches := setBit s.ir.latches eq true }
  let items := (eqPins s eq).map (fun n => Item.interlocked (BitVec.ofNat 20 n) (safeValue (s.pin n)) true)
  let w := eqWord r 10
  let task : Option (BitVec 9) := if bit w 62 then some (BitVec.ofNat 9 (bits w 52 44)) else none
  let s := submitGroup s .ir (items ++ [.tripState (BitVec.ofNat 6 eq) true task])
  let s := (List.range 32).foldl (fun s c => if bit w c then launchEmergency s c (bits w 37 35) eq else s) s
  raise (recordT s 4 0x1201 eq (i + by1.toNat * 256 + by2.toNat * 512)) 8

/-- Two evaluators that register different `TRIP` values (R79). -/
def countDisagree (s : State) (eq i : Nat) : State :=
  let s := s.setIr { s.ir with disagree := put 0 s.ir.disagree eq (satInc (look 0 s.ir.disagree eq)) }
  raise (recordN s 4 0x2501 eq i 0xFF) 9

/-- Evaluate one equation at this edge (R77 rules 1 and 5, R79). -/
def evalEq (s : State) (eq : Nat) : State :=
  let a := evaluate s (eqCopy s eq false)
  let b := evaluate s (eqCopy s eq true)
  let tripA := (a.map (fun x => x.1)).getD false
  let tripB := (b.map (fun x => x.1)).getD false
  let i := ((a.orElse (fun _ => b)).map (fun x => x.2.2)).getD 0
  let s := if a.isSome && b.isSome && tripA != tripB then countDisagree s eq i else s
  if (tripA || tripB) && !bit s.ir.latches eq then setLatch s eq i tripA tripB else s

/-- Evaluate every equation and drive the pins until nothing changes: each round but the last sets a latch or moves a pin. -/
def settle : Nat → State → State
  | 0, s => s
  | n + 1, s =>
    let t := drivePins ((List.range 64).foldl evalEq s)
    if t.ir.latches = s.ir.latches && t.ir.pins == s.ir.pins then t else settle n t

/-- Rounds that suffice: 64 latches, each forcing pins once. -/
def settled (s : State) : State := settle 130 s

/-- An equation's latch clears (R77 rule 2, R78): the pins return to their last accepted values. -/
def clearLatch (s : State) (eq : Nat) (p : BitVec 7) : State :=
  let t := s.setIr { s.ir with latches := setBit s.ir.latches eq false }
  let t := freePwm s (submitGroup t .ir (forceChanges s t ++ [.tripState (BitVec.ofNat 6 eq) false none]))
  settled (raise (recordT (clearEmergencies t eq) 4 0x1202 eq p.toNat) 8)

/-- An acknowledge is accepted at this edge: every evaluator that counts registers `RESET` 1 and `TRIP` 0 (R77 rule 4, R79). -/
def ackOk (s : State) (eq : Nat) : Bool :=
  let one (x : Option (Bool × Bool × Nat)) : Bool := (x.map (fun v => v.2.1 && !v.1)).getD false
  match eqCopy s eq false, eqCopy s eq true with
  | some a, some b => one (evaluate s (some a)) && one (evaluate s (some b))
  | some a, none => one (evaluate s (some a))
  | none, some b => one (evaluate s (some b))
  | none, none => false

/-- A parity error in one copy of an equation, or in its second (R79). -/
def eqParity (s : State) (eq : Nat) (second : Bool) : State :=
  let i := eqIndex s (eqRecord s eq)
  let s := s.setIr (if second then { s.ir with parity1 := setBit s.ir.parity1 eq true } else { s.ir with parity0 := setBit s.ir.parity0 eq true })
  let s := raise (recordN s 4 0x2501 eq i second.toNat) 9
  if bit s.ir.parity0 eq && bit s.ir.parity1 eq && !bit s.ir.latches eq then settled (setLatch s eq i false false) else settled s

/-! ### HALT (R69, R70, R369) -/

/-- Enter HALT: releases end, every output takes its SAFELIGHT value, and the third HALT within 600 s is the last. -/
def haltDevice (s : State) : State :=
  if s.dev.dstate = .halt then s
  else
    let now := s.dev.opTime.toNat
    let times := s.dev.haltTimes.filter (fun t => decide (now < t + 600)) ++ [now]
    let limit := decide (times.length ≥ 3)
    let s := s.setDev { s.dev with dstate := .halt, haltTimes := times, haltLimit := limit }
    let s := s.setIr { s.ir with
      relA := [], relB := [], notA := [], notB := [], accum := [], flags := 0
      cells := s.ir.cells.map (fun e => (e.1, { e.2 with good := false })) }
    let image (s : State) (er : Er) : State :=
      s.setRegion er (haltOutputs (s.region er) (cellValue s) (fun i => decide (i < 0x30) && pinForced s i))
    let s := image (image s .A) .B
    let s := if limit then record s (erNum s.pair.active) 0x5405 (BitVec.ofNat 32 times.length) 0 s.dev.opTime else s
    let s := s.chans.foldl (fun s e => e.2.tx.foldl (fun s t => if t.2.waiting.isSome then buildTx s e.1 t.1 else s) s) s
    syncDev (settled (rebuildVellek s))

/-! ### Release cells (R41, R69, R72 to R74, R78) -/

/-- A sum rounded to binary32 and kept finite (R74). -/
def boundReal (z : Nat) : W32 :=
  let r := (fmt64.convert fmt32 false z).1
  if r = fmt32.inf false then 0x7F7FFFFF else if r = fmt32.inf true then 0xFF7FFFFF else BitVec.ofNat 32 r

/-- One bound of a REAL32 rate limit: v_p plus or minus a magnitude times n (R74). DEDUCED (log entry 75): with n = 0 the bound is
v_p itself, its sign of zero with it. -/
def realBound (vp mag : W32) (n : Nat) (up : Bool) : W32 :=
  if mag.toNat = fmt32.inf false ∧ n ≠ 0 then BitVec.ofNat 32 (fmt32.inf (!up))
  else if n = 0 then vp
  else
    let step := (fmt64.mul (fmt32.convert fmt64 false mag.toNat).1 (fmt64.ofInt false n).1).1
    let base := (fmt32.convert fmt64 false vp.toNat).1
    boundReal ((if up then fmt64.add base step else fmt64.sub base step).1)

/-- Both bounds [lo, hi] of a rate limit in the point's type (R74). -/
def rateBounds (ty : Nat) (w : W64) (vp : W32) (n : Nat) : W32 × W32 :=
  let rise : W32 := w.setWidth 32
  let fall : W32 := BitVec.ofNat 32 (bits w 63 32)
  if ty = tyReal then
    if vp.toNat = fmt32.inf false ∨ vp.toNat = fmt32.inf true then (BitVec.ofNat 32 (fmt32.inf true), BitVec.ofNat 32 (fmt32.inf false))
    else (realBound vp fall n false, realBound vp rise n true)
  else if ty = tyInt then
    (BitVec.ofInt 32 (max (-2 ^ 31) (vp.toInt - fall.toNat * n)), BitVec.ofInt 32 (min (2 ^ 31 - 1) (vp.toInt + rise.toNat * n)))
  else (BitVec.ofNat 32 (vp.toNat - fall.toNat * n), BitVec.ofNat 32 (min (2 ^ 32 - 1) (vp.toNat + rise.toNat * n)))

/-- The rate state of an output (R73): before its first release, the value that it shows and the first tick of RUN. -/
def rateOf (s : State) (i : Nat) : Rate :=
  match look none s.ir.rates i with
  | some x => x
  | none => let c := s.cell i; { vp := cellValue s i, tp := if c.released then c.tick else s.ir.firstTick }

/-- Write an output's rate state. -/
def setRate (s : State) (i : Nat) (v : W32) (t : W64) : State :=
  let x := rateOf s i
  s.setIr { s.ir with rates := put none s.ir.rates i (some { vp := v, tp := if t.toNat > x.tp.toNat then t else x.tp }) }

/-- The rate limit of R74. -/
def rateLimit (s : State) (i : Nat) (v : W32) (t : W64) : W32 × Bool :=
  let x := rateOf s i
  let ty := typeOf s.image i
  let n := if t.toNat ≤ x.tp.toNat then 0 else min 65535 (t.toNat - x.tp.toNat)
  let (lo, hi) := rateBounds ty (limitOf s.image (ridxOf (attrOf s.image i))) x.vp n
  let above (a b : W32) : Bool := match pointCmp ty a b with | some d => decide (d > 0) | none => false
  let (v, c) := if above v hi then (hi, true) else (v, false)
  if above lo v then (lo, true) else (v, c)

/-- Write a release cell. -/
def setCell (s : State) (i : Nat) (c : Cell) : State := s.setIr { s.ir with cells := put {} s.ir.cells i c }

/-- What a release cell does with an accepted value: NaN, rate limit, rate state and the cell's new content (R69, R72, R73, R74).
DESIGN CHOICE (log entry 75): a memo point whose type has changed keeps, under a NaN, the last bits written that were no NaN. -/
def cellAccept (s : State) (i : Nat) (v : W32) (nan clamped forced : Bool) (t : W64) : State × Cell :=
  let c := s.cell i
  if isMemo (modeOf s.image i) then
    let keep := c.lastGood.getD 0
    let last := if nan then c.lastGood else some v
    let n : Cell := { released := true, v := if nan then keep else v, good := !nan, bad := nan, clamped := clamped, forced := forced, tick := t, lastGood := last }
    (setCell s i n, n)
  else
    let limited := ridxOf (attrOf s.image i) ≠ 0
    let (v, cl) := if nan then (safelight s i (if c.released then c.v else 0), clamped)
      else if limited then let (v, k) := rateLimit s i v t; (v, clamped || k) else (v, clamped)
    let n : Cell := { released := true, v := v, good := !nan, bad := nan, clamped := cl, forced := forced, tick := t, lastGood := c.lastGood }
    let s := setRate s i v t
    let s := if nan then recordT s 4 0x1204 i (ownerOf s.image i) else s
    (setCell s i n, n)

/-- Drive an accepted value: LIO pins, interlock flags and field buffers (R41, R78, R80, R243). -/
def driveAccepted (s : State) (i : Nat) (v : W32) : State :=
  if i < 0x30 then
    if (s.pin i).mode = 3 then modPin s i (fun x => { x with highNext := v }) else settled s
  else if 0x30 ≤ i ∧ i < 0x70 then settled (s.setIr { s.ir with flags := setBit s.ir.flags (i - 0x30) (bit v 0) })
  else s

/-- The update that IR forwards for an accepted release: the safe level in place of a forced pin's value (R66, R78). -/
def forwardItem (s : State) (i : Nat) (c : Cell) : Item :=
  let held := decide (i < 0x30) && (s.pin i).isOut && pinForced s i
  .released (BitVec.ofNat 20 i) (if held then safeValue (s.pin i) else c.v) c.good c.bad c.clamped c.forced held

/-- The work of a release. -/
def Release.work : Release → Option WorkRef
  | .value w _ _ _ _ _ _ => w
  | .request w _ => some w

/-- A fixer's releases. -/
def State.rel (s : State) : Er → List Release
  | .A => s.ir.relA
  | .B => s.ir.relB

/-- A fixer's notices. -/
def State.notices (s : State) : Er → List Notice
  | .A => s.ir.notA
  | .B => s.ir.notB

/-- Releases of a work that the fixers' paths still hold: the lead's path holds those of every work, inherited or not, whichever
region is ACTIVE since (R187, R220). -/
def workPending (s : State) (w : WorkRef) : Bool := (s.rel s.lead).any (fun x => x.work == some w)

/-- Values collected for a work's group. -/
def collected (s : State) (w : WorkRef) : List Item := (s.ir.accum.filter (fun e => e.1 == w)).map Prod.snd

/-- Forget a work's collected values. -/
def uncollect (s : State) (w : WorkRef) : State := s.setIr { s.ir with accum := s.ir.accum.filter (fun e => e.1 != w) }

/-- The points that collected updates set. -/
def itemPoints (items : List Item) : List Nat :=
  items.filterMap (fun x => match x with | .released i _ _ _ _ _ _ => some i.toNat | _ => none)

/-- Builds for one release group that sets the given points (R243, R334). -/
def outputBuilds (s : State) (points : List Nat) : State := vellekBuilds (releaseBuilds s points) points

/-- The last decided sample of a tick was discarded, so that the tick's LOOPS_FIXED notice travels alone (R181). -/
def lastDiscarded (s : State) (t : W64) : Bool :=
  let xs := s.image.samples.filter (fun x => x.tick == t)
  xs.any (fun x => x.discarded && xs.all (fun y => decide (y.order ≤ x.order)))

/-- An accepted entry joins its work's values; when it is the last, its buffers are built (R243), and a sample's value leaves
as a group of its own unless its tick's LOOPS_FIXED notice already follows it in the same group (R180, R181). -/
def collect (s : State) (w : WorkRef) (x : Item) : State :=
  let s := s.setIr { s.ir with accum := s.ir.accum ++ [(w, x)] }
  if workPending s w then s
  else
    let items := collected s w
    let s := outputBuilds s (itemPoints items)
    match w with
    | .run _ _ => s
    | .sample _ t =>
      let more := (s.rel s.lead).any (fun y => match y.work with | some (.sample _ u) => u == t | _ => false)
      if (s.notices s.lead).contains (.loopsFixed t) && !more && !lastDiscarded s t then s
      else uncollect (submitGroup s .ir items) w

/-- A release cell accepts one entry (R41, R66). -/
def acceptRelease (s : State) (x : Release) : State :=
  match x with
  | .request w item => collect s w item
  | .value work point v nan clamped forced tick =>
    let i := point.toNat
    let (s, c) := cellAccept s i v nan clamped forced tick
    let s := driveAccepted s i c.v
    let item := forwardItem s i c
    match work with
    | some w => collect s w item
    | none => outputBuilds (submitGroup s .ir [item]) [i]

/-- The tick of a release or notice: of a value its own, of a request its run's. -/
def workTick (s : State) (w : WorkRef) : Nat :=
  match w with
  | .run slot no => ((findRun s.image slot no).map (fun x => x.tick.toNat)).getD 0
  | .sample _ t => t.toNat

/-- A work of a tick before the join tick, which one fixer alone releases (R219, R220). -/
def inheritedWork (s : State) (w : WorkRef) : Bool := decide (workTick s w < s.pair.tj.toNat)

/-- The point that a release sets; none for a request. -/
def Release.point : Release → Option (BitVec 20)
  | .value _ p _ _ _ _ _ => some p
  | .request _ _ => none

/-- The partner's release of the same entry: the k-th that it still offers of the work, or of no work. -/
def sameEntry (partner : List Release) (x : Release) (k : Nat) : Option Release := (partner.filter (fun y => y.work == x.work))[k]?

/-- The first release that the cells can take: alone, or with the partner's release of the same entry; the releases of one
point keep their order. -/
def nextRelease (alone : Release → Bool) (partner : List Release) : List Release → List Release → Option (Release × Option Release)
  | _, [] => none
  | seen, x :: xs =>
    if x.point.isSome && seen.any (fun y => y.point == x.point) then nextRelease alone partner (x :: seen) xs
    else if alone x then some (x, none)
    else
      match sameEntry partner x ((seen.filter (fun y => y.work == x.work)).length) with
      | some y => some (x, some y)
      | none => nextRelease alone partner (x :: seen) xs

/-- Remove one release of a fixer. -/
def dropRelease (s : State) (er : Er) (x : Release) : State :=
  match er with
  | .A => s.setIr { s.ir with relA := s.ir.relA.erase x }
  | .B => s.setIr { s.ir with relB := s.ir.relB.erase x }

/-- RELEASE_ACCEPTED (R41): the cells take the next entry that both fixers have released alike, or the entry of the fixer that
decides alone; two releases of one entry that differ in point, value or status take both regions out at chip level, with cause 9
of R192 (R189, R193; log entry 73). -/
def execReleaseAccepted (s : State) : Out :=
  let a := s.lead
  let alone (x : Release) : Bool := !s.duplex || (x.work.map (inheritedWork s)).getD false
  whenPowered s (
    if s.dev.dstate ≠ .run then s
    else
      match nextRelease alone (s.rel (otherEr a)) [] (s.rel a) with
      | none => s
      | some (x, none) => acceptRelease (dropRelease s a x) x
      | some (x, some y) =>
        if x = y then acceptRelease (dropRelease (dropRelease s a x) (otherEr a) y) x
        else haltDevice (regionDown (regionDown s .A 0xFFFF 9) .B 0xFFFF 9))

/-- Remove one notice of a fixer. -/
def dropNotice (s : State) (er : Er) (n : Notice) : State :=
  match er with
  | .A => s.setIr { s.ir with notA := s.ir.notA.erase n }
  | .B => s.setIr { s.ir with notB := s.ir.notB.erase n }

/-- The work of a notice, but for LOOPS_FIXED. -/
def noticeInherited (s : State) : Notice → Bool
  | .closed slot no => inheritedWork s (.run slot no)
  | .fixed slot no _ _ => inheritedWork s (.run slot no)
  | .loopsFixed t => decide (t.toNat < s.pair.tj.toNat)

/-- A notice waits while releases of its work have not been accepted, so that it follows them (R93, R181); a FIXED notice follows
its CLOSED notice and the FIXED notices of the slot's earlier runs, and a LOOPS_FIXED notice the mirror's acknowledgements
(R220). -/
def noticeReady (s : State) : Notice → Bool
  | .closed _ _ => true
  | .fixed slot no _ _ =>
    !workPending s (.run slot no) && ((findRun s.image slot no).map (fun x => x.closedSent)).getD true
      && ((s.notices s.lead).find? (fun m => match m with | .fixed sl _ _ _ => sl == slot | _ => false)).all (fun m =>
        match m with | .fixed _ n _ _ => n == no | _ => false)
  | .loopsFixed t =>
    !(s.rel s.lead).any (fun y => match y.work with | some (.sample _ u) => decide (u.toNat ≤ t.toNat) | _ => false)
      && !s.pair.mirror.any (fun w => match w with | .sample _ u => decide (u.toNat ≤ t.toNat) | _ => false)

/-- IR forwards an accepted notice (R93, R181). -/
def forwardNotice (s : State) : Notice → State
  | .closed slot no => submitGroup s .ir [.closed slot no]
  | .fixed slot no out evs =>
    let w := WorkRef.run slot no
    submitGroup (uncollect s w) .ir (collected s w ++ [.fixed slot no out evs])
  | .loopsFixed t =>
    let mine (e : WorkRef × Item) : Bool := match e.1 with | .sample _ u => u == t | _ => false
    let items := (s.ir.accum.filter mine).map Prod.snd
    submitGroup (s.setIr { s.ir with accum := s.ir.accum.filter (fun e => !mine e) }) .ir (items ++ [.loopsFixed t])

/-- RUN_NOTICE_ACCEPTED (R93, R181): the oldest notice that both fixers have sent, or that the fixer in service sent alone. -/
def execRunNoticeAccepted (s : State) : Out :=
  let a := s.lead
  whenPowered s (
    if s.dev.dstate ≠ .run then s
    else
      match (s.notices a).find? (fun n =>
          noticeReady s n && (!s.duplex || noticeInherited s n || (s.notices (otherEr a)).contains n)) with
      | none => s
      | some n => forwardNotice (dropNotice (dropNotice s a n) (otherEr a) n) n)

/-! ### Local I/O (R81, R82) -/

/-- A pin takes its configuration word (R81, R82): an input pin sends its level at once. DESIGN CHOICE (log entry 94): a change of mode
starts the release cell and the rate state again, as at a cold start; an output shows SAFELIGHT until its next release, and a PWM pin
is low until its first period. DESIGN CHOICE (log entry 111): the land of a pin that leaves output or PWM mode keeps its last level,
and an outside circuit that set the level of a pin lets go as the pin enters output or PWM mode, so that the land follows the drive. -/
def configurePin (s : State) (n : Nat) (w : W64) : State :=
  let x := s.pin n
  let mode := bits w 2 0
  let s := modPin s n (fun x => { x with cfg := w })
  let s := if mode = x.mode then s
    else
      let s := modPin s n (fun x => { x with sent := none, high := 0, highNext := 0, drive := false, held := false })
      s.setIr { s.ir with rates := put none s.ir.rates n none, cells := put {} s.ir.cells n {} }
  let s := if mode = 1 && x.mode ≠ 1 then
      submitPin (modPin s n (fun y => { y with sent := some y.sync })) n [localInput n (if (s.pin n).sync then 1 else 0)]
    else s
  let s := if (s.pin n).isOut && pinForced s n then submitGroup s .ir [.interlocked (BitVec.ofNat 20 n) (safeValue (s.pin n)) true] else s
  settled s

/-- LIO_LEVEL_CHANGE (R82): the level at the land; on an output pin an outside circuit holds it against the drive, or lets go. A part
without supplies counts nothing, and finds the level when it starts. -/
def execLioLevelChange (pin : Nat) (level : Bool) (s : State) : Out :=
  let s' := modPin s pin (fun x => { x with held := x.isOut && level != x.drive })
  if pin ≥ 48 then .fault .noSuchUnit
  else .next (if s.powered then settled (levelChange s' pin level) else modPin s pin (fun x => { x with land := level, sync := level }))

/-- PWM_PERIOD_START (R82): the new high time takes effect, the pin drives high for it and low for the rest of the period, unless a
trip forces it meanwhile (R78). -/
def execPwmPeriodStart (pin : Nat) (s : State) : Out :=
  if pin ≥ 48 then .fault .noSuchUnit
  else
    let x := s.pin pin
    whenPowered s (
      if x.mode ≠ 3 || pinForced s pin then s
      else
        let high := if (s.cell pin).released && s.dev.dstate != .halt then x.highNext else cellValue s pin
        let s := modPin s pin (fun x => { x with high := high })
        let to_ (s : State) (l : Bool) : State := settled (drivePin s pin l)
        let s := if high = 0 then s else to_ s true
        if high.toNat ≥ x.period || pinForced s pin then s else to_ s false)

end Sys2Proof.Machine
end

