-- ==== Sys2Proof/Machine/Loops.lean ====
section
/-! DEFINITION. Control-engine lanes: the evaluation of a gathered sample (R171, R180). -/

namespace Sys2Proof.Machine

/-- The first sample of a region that has not been evaluated, in order of tick, then slot (R171); one whose loop has an
earlier sample still in evaluation, or an inherited sample whose mirror is not complete (R220), waits. -/
def nextSample (s : State) (er : Er) : Option Sample :=
  (s.region er).samples.find? (fun x =>
    !x.evaluated && !x.inherited
      && (er == s.lead || !s.pair.mirror.any (fun w => match w with | .sample slot t => slot == x.slot && decide (t.toNat < x.tick.toNat) | _ => false)))

/-- Block ID of R215. -/
def blockId (region kind n : Nat) : Nat := region * 8192 + kind * 256 + n

/-- A lane of a region is in service (R203). -/
def laneServes (s : State) (er : Er) (lane : Nat) : Bool := (s.block (blockId (erNum er) 2 lane)).state == .inService

/-- LOOP_SAMPLE (R173): a free lane in service evaluates the next sample. A sample that holds is recorded once (R391), at its first
evaluation, whichever region is ACTIVE at its second. DESIGN CHOICE (log entry 97): a loop's very first sample that
holds is recorded as LOOP_HOLD, like one after a sample that did not. -/
def execLoopSample (er : Er) (lane : Nat) (s : State) : Out :=
  if lane ≥ 9 then .fault .noSuchUnit
  else
    whenPowered s (
      if s.dev.dstate ≠ .run || !s.serving er || !laneServes s er lane then s
      else
        match nextSample s er with
        | none => s
        | some x =>
          let r := s.region er
          let l := loopOf r x.slot.toNat
          let y := x.read l
          let res := loopLaw y
          let r := modSample r x.slot x.tick (fun _ => { y with entry := res.entry, lane := lane, evaluated := true })
          let s := s.setRegion er (if x.settled then r else setLoop r x.slot.toNat (writeBack l res))
          let seen := s.duplex && ((findSample (s.region (otherEr er)) x.slot x.tick).map (fun z => z.evaluated && !z.inherited)).getD false
          if res.held && !y.wasHeld && !seen then
            raise (recordN s (erNum s.pair.active) 0x1503 x.slot.toNat res.flags.toNat (x.tick.toNat % 2 ^ 32)) 13
          else s)

end Sys2Proof.Machine
end

