-- ==== Sys2Proof/Machine/Operands.lean ====
section
/-! DEFINITION. A scan engine's operands: registers and condition bits, operand B, the issue cycle of R122 and R123, the
windows and access checks of R118 and R119, and the journal of a run (R127, R188). -/

namespace Sys2Proof.Machine

/-! ### Registers and condition bits (R115, R117) -/

/-- A work register; W0 reads as zero. -/
def Engine.reg (e : Engine) (n : Nat) : W64 := if n = 0 then 0 else look 0 e.w n

/-- A condition bit. -/
def Engine.cond (e : Engine) (n : Nat) : Bool := bit e.c (n % 8)

/-- Write a work register, its result ready at a cycle; a write to W0 is discarded (R115). -/
def Engine.setReg (e : Engine) (n : Nat) (v : W64) (ready : Nat) : Engine :=
  if n = 0 then e else { e with w := put 0 e.w n v, readyW := put 0 e.readyW n ready }

/-- Write a work register by a load: later writers of it wait for the load (R122 rule 3). -/
def Engine.loadReg (e : Engine) (n : Nat) (v : W64) (ready : Nat) : Engine :=
  if n = 0 then e else { e.setReg n v ready with loadW := put 0 e.loadW n ready }

/-- Write a condition bit, its result ready at a cycle. -/
def Engine.setCond (e : Engine) (n : Nat) (b : Bool) (ready : Nat) : Engine :=
  { e with c := setBit e.c (n % 8) b, readyC := put 0 e.readyC (n % 8) ready }

/-- Operand B from `IMM` (R117). DESIGN CHOICE (log entry 89): a REAL64 immediate whose binary32 pattern is a NaN becomes the canonical
quiet NaN. -/
def immB (ty : Ty) (imm : W32) : W64 :=
  match ty with
  | .real32 => imm.setWidth 64
  | .real64 => BitVec.ofNat 64 (fmt32.convert fmt64 false imm.toNat).1
  | .bool => (imm &&& 1).setWidth 64
  | _ => imm.signExtend 64

/-- Operand B (R117). -/
def operandB (e : Engine) (f : OFields) : W64 := if f.im then immB f.ty f.imm else e.reg f.wb.toNat

/-! ### Issue (R122, R123) -/

/-- What an instruction reads, writes and holds. -/
structure Need where
  regs : List Nat := []
  conds : List Nat := []
  writes : List Nat := []
  slots : Nat := 0
  deriving DecidableEq, Repr

/-- Access slots free at a cycle, of 16 (R115). -/
def freeSlots (busy : List Nat) (s : Nat) : Nat := 16 - (busy.filter (fun t => decide (s < t))).length

/-- The first cycle from s on with enough free slots: s itself, or a cycle at which a held slot becomes free. -/
def slotCycle (busy : List Nat) (n s : Nat) : Nat :=
  if n ≤ freeSlots busy s then s
  else (busy.filter (fun t => decide (s < t) && decide (n ≤ freeSlots busy t))).foldl min (busy.foldl max s)

/-- The issue cycle of an instruction (R122, R123). -/
def issueCycle (e : Engine) (n : Need) : Nat :=
  let s := n.regs.foldl (fun s r => max s (look 0 e.readyW r)) e.cyc
  let s := n.conds.foldl (fun s c => max s (look 0 e.readyC (c % 8))) s
  let s := n.writes.foldl (fun s r => max s (look 0 e.loadW r)) s
  if n.slots = 0 then s else slotCycle e.busy n.slots s

/-- Hold slots until the given cycles; those already free are forgotten. -/
def Engine.hold (e : Engine) (s : Nat) (until_ : List Nat) : Engine :=
  { e with busy := e.busy.filter (fun t => decide (s < t)) ++ until_ }

/-- The next instruction may issue `n` cycles after s, at the next word. -/
def Engine.advance (e : Engine) (s n : Nat) : Engine := { e with cyc := s + n, pc := e.pc + 8 }

/-- The next instruction is at `pc`, `n` cycles after s. -/
def Engine.jump (e : Engine) (s n : Nat) (pc : W32) : Engine := { e with cyc := s + n, pc := pc }

/-! ### The run on an engine -/

/-- What an instruction works on: the engine, its run, the run's task and program, and the task's variables. -/
structure Ctx where
  e : Engine
  x : Run
  k : Task
  g : Program
  vars : Mem
  deriving DecidableEq, Repr

/-- An engine of a region. -/
def engineOf (r : Region) (n : Nat) : Engine := look {} r.engines n

/-- The context of a running engine. -/
def ctxOf (r : Region) (n : Nat) : Option Ctx :=
  let e := engineOf r n
  if !e.running then none
  else
    match findRun r e.slot e.run, taskOf r e.slot with
    | some x, some k =>
      (programOf r k.part.toNat).map (fun g =>
        { e := e, x := x, k := k, g := g, vars := if e.redo then e.view else look [] r.vars e.slot.toNat })
    | _, _ => none

/-- Write a context back: a re-execution's writes stay in the engine's overlay (R198). -/
def putCtx (r : Region) (n : Nat) (c : Ctx) : Region :=
  let e := if c.e.redo then { c.e with view := c.vars } else c.e
  let r := { r with engines := put {} r.engines n e }
  let r := modRun r c.x.slot c.x.no (fun _ => c.x)
  if c.e.redo then r else { r with vars := put [] r.vars c.x.slot.toNat c.vars }

/-- The bytes of EXP: run header and point words (R94, R118). -/
def expBytes (x : Run) : Bytes := wordBytes (x.header ++ x.exposure)

/-- The window length of a space (R118). -/
def windowLen (c : Ctx) : Space → Nat
  | .exp => 8 * (c.x.header.length + c.x.exposure.length)
  | .var => c.k.vsize
  | .con => c.g.const.length
  | .scr => 16384

/-- Bytes of a space. -/
def readSpace (c : Ctx) (sp : Space) (a n : Nat) : Bytes :=
  match sp with
  | .exp => ((expBytes c.x).drop a).take n
  | .var => c.vars.readBytes a n
  | .con => (c.g.const.drop a).take n
  | .scr => c.e.scr.readBytes a n

/-- The access size of `SZ` in bytes (R119). -/
def szBytes : Sz → Nat
  | .d64 => 8
  | .s32 => 4
  | .u32 => 4
  | .line => 64

/-- A load or store is valid (R119 rule 1). -/
def accessOk (c : Ctx) (sp : Space) (a size : Nat) : Bool :=
  decide (a < 2 ^ 64) && a % size == 0 && decide (a + size ≤ windowLen c sp)

/-- A suppressed access counts (R119). -/
def Engine.fault (e : Engine) : Engine := { e with faults := satInc e.faults }

/-- The 64-byte lines that n bytes at a touch. -/
def linesOf (a n : Nat) : List Nat := (List.range ((a + n - 1) / 64 - a / 64 + 1)).map (fun i => a / 64 + i)

/-- Lines of the pre-image reservation (R197). -/
def lineRoom (k : Task) : Nat := min k.vsize 4096 / 64

/-- Take the pre-image of a line before the run's first write to it (R197). Past the reservation nothing is captured, so that a
re-execution reads such a line from the current VAR. -/
def preImage (vars : Mem) (k : Task) (x : Run) (l : Nat) : Run :=
  if x.lines.contains l then x
  else if x.lines.length ≥ lineRoom k then { x with refereeable := false }
  else { x with lines := x.lines ++ [l], pre := x.pre.writeBytes (64 * l) (vars.readBytes (64 * l) 64) }

/-- Fold writes into the VAR signature, eight bytes at a time (R197). -/
def signBytes (sig : W64) (a : Nat) : Nat → Bytes → W64
  | 0, _ => sig
  | n + 1, bs =>
    if bs.isEmpty then sig
    else signBytes (Config.varSigStep sig (BitVec.ofNat 64 a) (BitVec.ofNat 64 (leNat (bs.take 8)))) (a + 8) n (bs.drop 8)

/-- A write to VAR: pre-images, the signature, and the task's variables or the overlay (R197, R198). -/
def writeVar (c : Ctx) (a : Nat) (bs : Bytes) : Ctx :=
  let vars := c.vars.writeBytes a bs
  let e := { c.e with sig := signBytes c.e.sig a bs.length bs }
  if c.e.redo then { c with e := e, vars := vars }
  else { c with e := e, vars := vars, x := (linesOf a bs.length).foldl (preImage c.vars c.k) c.x }

/-! ### The journal (R127, R128, R188) -/

/-- A journal word. -/
def journalWord (kind target : Nat) (v : W32) : W64 := BitVec.ofNat 64 (kind * 2 ^ 60 + target * 2 ^ 32 + v.toNat)

/-- The entries of a run in the order of R127. -/
def journalEntries (k : Task) (e : Engine) : List W64 :=
  let outs := k.outs.zipIdx.filterMap (fun p => (look none e.outs p.2).map (fun v => journalWord 1 p.1.toNat v))
  let loops := k.loops.zipIdx.flatMap (fun p =>
    ((look none e.sps p.2).map (fun v => journalWord 2 p.1.toNat v)).toList
      ++ ((look none e.banks p.2).map (fun v => journalWord 3 p.1.toNat v)).toList)
  let evs := k.events.zipIdx.filterMap (fun p =>
    let n := look 0 e.evs p.2
    if n = 0 then none else some (journalWord 4 p.1.toNat (n.setWidth 32)))
  outs ++ loops ++ evs

/-- The two close words: abort mark, duration and address faults (R128, R188). -/
def closeWords (d : Nat) (abort : Bool) (faults : BitVec 16) : List W64 :=
  [BitVec.ofNat 64 (14 * 2 ^ 60 + abort.toNat * 2 ^ 59 + d % 2 ^ 32),
   BitVec.ofNat 64 (15 * 2 ^ 60 + d / 2 ^ 32 % 2 ^ 16 * 2 ^ 16 + faults.toNat)]

/-- The run ends with duration d: its journal is closed and the engine is free (R123, R127, R198). -/
def closeRun (c : Ctx) (d : Nat) (abort : Bool) : Ctx :=
  let j := journalEntries c.k c.e ++ closeWords d abort c.e.faults
  let x := if c.e.redo then { c.x with second := j, sig2 := c.e.sig } else { c.x with journal := j, sig := c.e.sig, phase := .closed }
  { c with x := x, e := { c.e with running := false, redo := false, view := if c.e.redo then [] else c.e.view } }

/-- The engine stops at the watchdog limit (R100, R124). -/
def abortRun (c : Ctx) : Ctx := closeRun c (watchdogLimit c.k) true

/-- Write a closed context back: the variables of a re-execution are dropped with its overlay. -/
def putClosed (r : Region) (n : Nat) (before after : Ctx) : Region :=
  let r := { r with engines := put {} r.engines n after.e }
  let r := modRun r after.x.slot after.x.no (fun _ => after.x)
  if before.e.redo then r else { r with vars := put [] r.vars after.x.slot.toNat after.vars }

/-- One Golup instruction on a running engine (R122 to R124): it issues at its cycle, or the run has reached its limit; an
idle engine issues nothing. -/
def golup (id : EngId) (wf : Bool) (need : Ctx → Need) (s : State) (k : Ctx → Nat → Ctx) : Out :=
  if !id.exists then .fault .noSuchUnit
  else if !wf then .fault .illFormed
  else if !s.powered then .next s
  else
    let r := s.region id.er
    match ctxOf r id.n with
    | none => .next s
    | some c =>
      let t := issueCycle c.e (need c)
      if t ≥ watchdogLimit c.k then .next (s.setRegion id.er (putClosed r id.n c (abortRun c)))
      else
        let c' := k c t
        .next (s.setRegion id.er (if c'.e.running then putCtx r id.n c' else putClosed r id.n c c'))

end Sys2Proof.Machine
end

