-- ==== Sys2Proof/Machine/Apply.lean ====
section
/-! DEFINITION. The meanings of a region's tick: apply phase, stamp sweep, exposure, dispatch and watchdog (R45, R87 to R100),
and of an on-line change: migration, flip and abandonment (R145 to R162). -/

namespace Sys2Proof.Machine

/-! ### Effects of an apply phase -/

/-- The roles are exchanged (R187): each region's state changes (R374). -/
def swapRoles (s : State) (reason : Nat) : State :=
  if !s.duplex then s
  else
    let new := otherEr s.pair.active
    let s := markFixed s
    let s := (s.setRegState new .active).setRegState s.pair.active .standby
    let s := s.setPair { s.pair with active := new, switches := satInc s.pair.switches }
    syncDev (raiseBy (raise (recordT s (erNum new) 0x2101 (erNum new) reason) 0) 1 2)

/-- Write a record into both evaluators (R75, R79): under a latch that a parity error holds, pins that the new record forces or
frees change at once (R43, R78). -/
def writeEq (s : State) (eq : Nat) (r : List W64) : State :=
  let t := s.setIr { s.ir with
    eq0 := put [] s.ir.eq0 eq r
    eq1 := put [] s.ir.eq1 eq r
    parity0 := setBit s.ir.parity0 eq false
    parity1 := setBit s.ir.parity1 eq false }
  let items := forceChanges s t
  settled (freePwm s (if items.isEmpty then t else submitGroup t .ir items))

/-- An equation may not be rewritten while its latch is set, but for a parity error in both copies (R77 rule 6, R79). -/
def eqLocked (s : State) (eq : Nat) : Bool := bit s.ir.latches eq && !(bit s.ir.parity0 eq && bit s.ir.parity1 eq)

/-- The group of a request that IR decides is answered (R186). -/
def finishIr (s : State) (t : W64) (page : Option (BitVec 7 × BitVec 16)) (st : Stat) : State :=
  match page with
  | some x => finishPage s t x st
  | none => s

/-- A record of R75 reaches IR. -/
def rewriteEq (s : State) (t : W64) (eq : Nat) (ws : List W64) (page : Option (BitVec 7 × BitVec 16)) : State :=
  if eqLocked s eq then finishIr s t page .conflict else finishIr (writeEq s eq ws) t page .ok

/-- An acknowledge reaches IR (R77 rule 4). -/
def ackEq (s : State) (t : W64) (eq : Nat) (p : BitVec 7) (page : Option (BitVec 7 × BitVec 16)) : State :=
  if !ackOk s eq then finishIr s t page .ackRefused
  else finishIr (if bit s.ir.latches eq then clearLatch s eq p else s) t page .ok

/-- Carry out one effect of region er's apply phase of tick t: releases go to its own fixer, and whatever both regions find in
the staging stream is done once (R186, R391). -/
def runEff (er : Er) (t : W64) (first : Bool) (s : State) (e : Eff) : State :=
  match e with
  | .release x => pushRelease s er x
  | .record code p1 p2 p3 => if first then recordN s (erNum s.pair.active) code p1 p2 p3 else s
  | .raise n => if first then raise s n else s
  | .done page st => if first then finishPage s t page st else s
  | .swap => if first then swapRoles s 3 else s
  | .lio pin w => if first then configurePin s pin w else s
  | .eqWrite eq ws page => if first then rewriteEq s t eq ws page else s
  | .eqAck eq p page => if first then ackEq s t eq p page else s
  | .refuse _ => s

/-- A flip or an abandonment of the tick just applied has not been made. -/
def flipDue (r : Region) : Bool := r.changes.any (fun e => decisionsWait r r.tick e.1)

/-- STAT3 changes level when partition 0's FIXED_TICK passes a multiple of 50,000 ticks (R486). -/
def toggleStat3 (s : State) : State :=
  let n := s.fixedTick 0 / 50000
  if n = s.dev.stat3Mark then s else s.setDev { s.dev with stat3Mark := n, stat3 := !s.dev.stat3 }

/-- FAB cycles that have passed since a tick's boundary (R9, R88). -/
def fabSince (s : State) (t : W64) : Nat := (s.time.dtime.toNat - t.toNat * 10000) * 5 / 8

/-- APPLY_PHASE (R87): it begins `delayFab` FAB cycles after the boundary, or later where DTIME stands later (R88). -/
def execApplyPhase (er : Er) (delayFab : Nat) (s : State) : Out :=
  let r := s.region er
  let done (s : State) : State :=
    match splitStaging r.staging with
    | none => s
    | some (gs, t, rest) =>
      if awaitsMigration r t then s
      else
        let (r', es) := applyTick r gs t rest
        let first := decide (s.pair.effNext.toNat ≤ t.toNat)
        let s := if first then s.setPair { s.pair with effNext := t + 1 } else s
        let s := advanceTo s (t.toNat * 10000 + (delayFab * 8 + 4) / 5)
        let late := fabSince s t
        let s := unstage (s.setRegion er r') er (stagingSize r.staging - stagingSize rest)
        let s := es.foldl (runEff er t first) s
        let s := if late ≥ 6250 then
            raise (recordN s (erNum er) 0x1105 (erNum er) (t.toNat % 2 ^ 32) (min late (2 ^ 32 - 1))) 12 else s
        if er = s.pair.active then toggleStat3 s else s
  whenPowered s (
    if s.dev.dstate ≠ .run || !staged s er || r.runs.any (fun x => x.phase == .waiting && !x.inherited) || flipDue r then s else done s)

/-- STAMP_SWEEP (R45). -/
def execStampSweep (er : Er) (point : BitVec 20) (s : State) : Out :=
  let r := s.region er
  let now : W32 := r.tick.setWidth 32
  let st := look 0 r.stamps point.toNat
  whenPowered s (
    if (now - st).toNat > 2 ^ 31 then s.setRegion er { r with stamps := put 0 r.stamps point.toNat (now - 0x80000000) } else s)

/-! ### Exposure and dispatch (R94, R96) -/

/-- Run x comes before run y in the dispatcher's order (R96). -/
def before (x y : Run) : Bool :=
  x.prio < y.prio || (x.prio == y.prio && (x.tick.toNat < y.tick.toNat || (x.tick == y.tick && x.slot.toNat < y.slot.toNat)))

/-- The first run of a phase in the dispatcher's order. -/
def nextRun (r : Region) (ph : RunPhase) : Option Run :=
  (r.runs.filter (fun x => x.phase == ph && !x.inherited)).foldl (fun b x =>
    match b with
    | none => some x
    | some y => if before x y then some x else some y) none

/-- The point words of one exposure entry: both words of a COUNT48 point (R47, R94). DESIGN CHOICE (log entry 88): under a grant that
covers only one index of the pair, each word is read under its own index, and the list check and the denial look at the even index
alone, whichever word the entry names. -/
def exposeEntry (r : Region) (t : W64) (p i : Nat) : List W64 :=
  if typeOf r i = tyCount then [readableWord r t p i, readableWord r t p (i + 1)] else [readableWord r t p i]

/-- EXPOSURE (R94): the next released run in the dispatcher's order, once the release decisions of a flip or an abandonment of the
tick have been made (R87 steps 4 and 5). A run that the region inherited is exposed in its partner alone (R220), and a denial found
there counts in both, so that both queue its cause at the same apply phase (R63, R88). -/
def execExposure (er : Er) (s : State) : Out :=
  let r := s.region er
  whenPowered s (
    match if flipDue r then none else nextRun r .waiting with
    | none => s
    | some x =>
      match taskOf r x.slot with
      | none => s
      | some k =>
        let p := k.part.toNat
        let words := k.xlist.flatMap (fun i => exposeEntry r x.tick p i.toNat)
        let denied := k.xlist.filter (fun i => !mayRead r p i.toNat)
        let deny (r : Region) : Region := { r with denials := r.denials ++ denied.map (fun i => (k.part, k.slot, i)) }
        let s := s.setRegion er (deny (modRun r x.slot x.no (fun x => { x with phase := .exposed, exposure := words })))
        let alone := s.duplex && ((findRun (s.region (otherEr er)) x.slot x.no).map (fun y => y.inherited)).getD false
        let s := if alone then s.setRegion (otherEr er) (deny (s.region (otherEr er))) else s
        if alone || er = s.pair.active then denied.foldl (fun s i => recordN s (erNum er) 0x1203 i.toNat p k.slot.toNat) s else s)

/-- An engine of a region is in service (R203). -/
def engineServes (s : State) (e : EngId) : Bool := (s.block (blockId (erNum e.er) 1 e.n)).state == .inService

/-- RUN_DISPATCH (R96): a free engine in service takes the next exposed run, after the dispatcher has written the forced
variables (R157). -/
def execRunDispatch (e : EngId) (s : State) : Out :=
  if !e.exists then .fault .noSuchUnit
  else
    let r := s.region e.er
    let g := engineOf r e.n
    whenPowered s (
      if s.dev.dstate ≠ .run || g.running || g.leaving || !engineServes s e then s
      else
        match nextRun r .exposed with
        | none => s
        | some x =>
          match taskOf r x.slot with
          | none => s
          | some k =>
            let fresh : Engine := { running := true, slot := x.slot, run := x.no, part := k.part, pc := k.entry }
            let r := { r with engines := put {} r.engines e.n fresh }
            let r := modRun r x.slot x.no (fun x => { x with phase := .executing, engine := e.n })
            let r := if x.forced.isEmpty then r
              else { r with vars := put [] r.vars x.slot.toNat (applyForced x.forced (look [] r.vars x.slot.toNat)) }
            s.setRegion e.er r)

/-- WATCHDOG_ABORT (R100): the run's executed cycles have reached its limit, so that no instruction issues before it; an earlier
one finds the run going on. -/
def execWatchdogAbort (e : EngId) (s : State) : Out :=
  if !e.exists then .fault .noSuchUnit
  else
    let r := s.region e.er
    whenPowered s (
      match ctxOf r e.n with
      | none => s
      | some c => if issueCycle c.e {} < watchdogLimit c.k then s else s.setRegion e.er (putClosed r e.n c (abortRun c)))

/-! ### Migration and flip (R147, R149, R151, R159) -/

/-- The copy engine's result: VINIT, then the migration entries, whose source is a task of the old image (R140), then the carried
instances (R147, R151). -/
def migrated (r : Region) (old new : Program) : SMap Mem :=
  let area (m : SMap Mem) (slot : BitVec 9) : Mem := look [] m slot.toNat
  let from_ (slot : BitVec 9) : Mem := look [] r.vars slot.toNat
  let write (m : SMap Mem) (slot : BitVec 9) (a : Nat) (bs : Bytes) : SMap Mem := put [] m slot.toNat ((area m slot).writeBytes a bs)
  let m := new.vinit.foldl (fun m v => write m v.1 0 v.2) []
  let m := (new.migr.filter (fun e => old.tasks.any (fun k => k.slot == e.oslot))).foldl
    (fun m e => write m e.nslot e.noff (migrBytes e (from_ e.oslot))) m
  (carried old new).foldl (fun m c =>
    let m := write m c.2.slot c.2.voff ((from_ c.1.slot).readBytes c.1.voff 32)
    write m c.2.slot (c.2.voff + 3) (c.2.kind :: leBytes 4 c.2.iid.toNat)) m

/-- MIGRATION (R147). -/
def execMigration (er : Er) (p : BitVec 7) (s : State) : Out :=
  let r := s.region er
  let q := p.toNat
  whenPowered s (
    match look none r.changes q, look none r.waiting q with
    | some c, some new =>
      if c.phase != .migrating || c.migrated then s
      else
        let m := migrated r (oldProgram r q) new
        s.setRegion er { r with
          newVars := new.tasks.foldl (fun v k => put [] v k.slot.toNat (look [] m k.slot.toNat)) r.newVars
          changes := put none r.changes q (some { c with migrated := true }) }
    | _, _ => s)

/-- Destination type code of a conversion; none for a copy, which keeps the type (R140, R159). -/
def convType : Nat → Option Nat
  | 0x01 => some 1
  | 0x02 => some 0
  | 0x03 => some 1
  | 0x04 => some 2
  | 0x05 => some 0
  | 0x06 => some 3
  | 0x07 => some 2
  | 0x08 => some 3
  | 0x09 => some 3
  | 0x0A => some 1
  | _ => none

/-- A migration entry's source range covers the word at old offset a of width n in slot `slot` (R159). -/
def coversWord (slot : BitVec 9) (a n : Nat) (e : Migr) : Bool := e.oslot == slot && decide (e.ooff ≤ a ∧ a + n ≤ e.ooff + e.len)

/-- Where a migration entry that covers the forced word at old offset a of width n puts it, when the word is one of its elements
(R159). -/
def mapWord (e : Migr) (a n : Nat) : Option Nat :=
  if e.conv = 0 then some (e.noff + (a - e.ooff))
  else
    match convSizes e.conv with
    | some (ss, ds) => if ss = n && (a - e.ooff) % ss = 0 then some (e.noff + (a - e.ooff) / ss * ds) else none
    | none => none

/-- A variable force under the new image, or none when it is dropped (R159). DESIGN CHOICE (log entry 96): the first entry that
covers the forced word decides alone; where it puts the word outside the new block, or the word is not one of its elements, the
force is dropped. -/
def mapForce (old new : Program) (f : Force) : Option Force :=
  let n := if f.ty = 0 ∨ f.ty = 2 ∨ f.ty = 4 then 4 else 8
  match old.insts.find? (fun b => b.iid == f.iid && b.kind == 1), new.insts.find? (fun b => b.iid == f.iid && b.kind == 1) with
  | some o, some b =>
    ((new.migr.find? (coversWord o.slot (o.voff + f.voff) n)).bind (fun e => (mapWord e (o.voff + f.voff) n).map (fun x => (e, x)))).bind (fun ex =>
      let e := ex.1
      let w := match convSizes e.conv with
        | some (_, ds) => if e.conv = 0 then n else ds
        | none => n
      if e.nslot == b.slot && decide (b.voff ≤ ex.2 ∧ ex.2 + w ≤ b.voff + b.len) then
        let x := convElem e.conv (f.fvalue.toNat % 2 ^ (8 * n))
        let v : W64 := if e.conv = 0 then f.fvalue
          else if convType e.conv = some 0 then (BitVec.ofNat 32 x).signExtend 64 else BitVec.ofNat 64 x
        some { f with voff := ex.2 - b.voff, fvalue := v, ty := (convType e.conv).getD f.ty }
      else none)
  | _, _ => none

/-- One report record (R161). -/
abbrev RepRec := BitVec 16 × W32 × W64

/-- A record of a type from numbers. -/
def repRec (ty a b : Nat) : RepRec := (BitVec.ofNat 16 ty, BitVec.ofNat 32 a, BitVec.ofNat 64 b)

/-- Insert a record by ascending parameter A. -/
def insertRec (x : RepRec) : List RepRec → List RepRec
  | [] => [x]
  | y :: ys => if x.2.1.toNat ≤ y.2.1.toNat then x :: y :: ys else y :: insertRec x ys

/-- The records of one type in ascending A. -/
def sortRecs (l : List RepRec) : List RepRec := l.foldr insertRec []

/-- The records of a flip, in the order of R161. An old function block whose `IID` the new image gives to a block of another `KIND`,
a variable block among them, is listed as the pair (R151). DESIGN CHOICE (log entry 96): an instance is a function block; a variable
block is listed as neither removed nor new. -/
def flipRecords (r : Region) (old new : Program) (p : Nat) (dropped : List Force) : List RepRec :=
  let has (g : Program) (slot : BitVec 9) : Option Task := g.tasks.find? (fun k => k.slot == slot)
  let held (k : Task) : Nat := (slotOf r k.slot).heldReleases
  let fb (g : Program) : List Inst := g.insts.filter (fun i => i.kind != 1)
  let named (l : List Inst) (iid : W32) : Option Inst := l.find? (fun i => i.iid == iid)
  let removed := old.tasks.filter (fun k => (has new k.slot).isNone)
  let added := new.tasks.filter (fun k => (has old k.slot).isNone)
  let merged := new.tasks.filter (fun k => k.kind == .cyclic && decide (held k ≥ 2))
  let trigs := old.tasks.filter (fun k => (slotOf r k.slot).pendingTrigs != 0 && ((has new k.slot).map (fun n => n.kind != .event)).getD true)
  let kindNo (k : TKind) : Nat := match k with | .cyclic => 0 | .event => 1 | .error => 2
  sortRecs (removed.map (fun k => repRec 1 k.slot.toNat (held k)))
    ++ sortRecs (added.map (fun k => repRec 2 k.slot.toNat (kindNo k.kind)))
    ++ sortRecs (merged.map (fun k => repRec 3 k.slot.toNat (held k - 1)))
    ++ sortRecs (trigs.map (fun k => repRec 4 k.slot.toNat (slotOf r k.slot).pendingTrigs.toNat))
    ++ sortRecs ((fb old).filterMap (fun i => if (named new.insts i.iid).isNone then some (repRec 5 i.iid.toNat (i.kind.toNat * 2 ^ 16 + i.slot.toNat)) else none))
    ++ sortRecs ((fb new).filterMap (fun i => if (named (fb old) i.iid).isNone then some (repRec 6 i.iid.toNat (i.kind.toNat * 2 ^ 16 + i.slot.toNat)) else none))
    ++ sortRecs ((fb old).filterMap (fun i => (named new.insts i.iid).bind (fun n =>
        if n.kind = i.kind then none else some (repRec 7 i.iid.toNat (i.kind.toNat * 2 ^ 16 + n.kind.toNat * 2 ^ 8)))))
    ++ sortRecs (dropped.map (fun f => repRec 8 f.iid.toNat f.voff))
    ++ sortRecs ((r.forces.filter (fun f => !f.vkey && f.part.toNat == p && new.tasks.any (fun k => k.outs.contains f.point))).map
        (fun f => repRec 9 f.point.toNat 0))

/-- Release held work at tick t for one task (R148, R149 step 4): a held cyclic slot once, whatever its phase. DESIGN CHOICE (log
entry 96): at an abandonment R92 decides this release too, so that a slot whose last run is not closed, or that has two runs not
fixed, is skipped as an overrun. -/
def releaseHeld (t : W64) (acc : Region × List Eff) (k : Task) : Region × List Eff :=
  let x := slotOf acc.1 k.slot
  if k.kind == .cyclic && decide (x.heldReleases ≥ 1) then
    let r := setSlot acc.1 k.slot { x with heldReleases := 0 }
    let xs := runsOf r k.slot
    let running := match xs.getLast? with
      | some x => !x.closedApplied
      | none => false
    if running then let (r, e) := skipRelease r t k 0x1101; (r, acc.2 ++ e)
    else if xs.length ≥ 2 then let (r, e) := skipRelease r t k 0x1102; (r, acc.2 ++ e)
    else (releaseRun r t k, acc.2)
  else decideRelease t acc k

/-- Tasks of a program in ascending slot order. -/
def slotOrder (g : Program) : List Task := g.tasks.foldr insertTask []

/-- The flip of partition p in one region at its current tick (R149). -/
def flipRegion (r : Region) (p : Nat) (c : Change) (old new : Program) : Region × List Eff :=
  let t := r.tick
  let mine (f : Force) : Bool := f.vkey && f.part.toNat == p
  let dropped := r.forces.filter (fun f => mine f && (mapForce old new f).isNone)
  let recs := flipRecords r old new p dropped
  let oldSlots := old.tasks.map (fun k => k.slot)
  let kindOf (g : Program) (slot : BitVec 9) : Option TKind := (g.tasks.find? (fun k => k.slot == slot)).map (fun k => k.kind)
  let heldCyclic (slot : BitVec 9) : Bool := kindOf old slot == some .cyclic && kindOf new slot == some .cyclic
  let r := oldSlots.foldl (fun r slot =>
    let x := slotOf r slot
    match kindOf new slot with
    | none => { setSlot r slot {} with vars := put [] r.vars slot.toNat [] }
    | some k =>
      let x := { x with heldReleases := if heldCyclic slot then x.heldReleases else 0, pendingTrigs := if k == .event then x.pendingTrigs else 0 }
      setSlot r slot x) r
  let r := (new.tasks.filter (fun k => !oldSlots.contains k.slot)).foldl (fun r k => setSlot r k.slot {}) r
  let r := new.tasks.foldl (fun r k =>
    { r with vars := put [] r.vars k.slot.toNat (look [] r.newVars k.slot.toNat), newVars := put [] r.newVars k.slot.toNat [] }) r
  let r := { r with forces := r.forces.filterMap (fun f => if mine f then mapForce old new f else some f) }
  let r := { r with programs := put none r.programs p (some new), waiting := put none r.waiting p none, changes := put none r.changes p none }
  let hasErr := new.tasks.any (fun k => k.kind == .error)
  let lost := if hasErr then [] else (look {} r.causes p).items
  let r := if hasErr then r else { r with causes := put {} r.causes p {} }
  let gap := t.toNat - c.tc.toNat
  let report : Report := { result := 0, tc := c.tc, tend := t, gapp := BitVec.ofNat 16 (min c.gap 65535), budget := BitVec.ofNat 16 (min c.budget 65535), recs := recs }
  let r := evalTriggers (setReport r p report) (slotOrder new)
  let es : List Eff := lost.map (fun x => Eff.record 0x1104 p x.code.toNat (x.param.toNat % 2 ^ 32))
    ++ dropped.map (fun f => Eff.record 0x1404 p f.iid.toNat f.voff)
    ++ [.record 0x1401 p (c.tc.toNat % 2 ^ 32) gap, .raise 10]
  (slotOrder new).foldl (releaseHeld t) (r, es)

/-- The program directory names the new image, and the partition's floor rises (R440, R444). -/
def rewriteDirectory (s : State) (p : Nat) (new : Program) : State := s.commit (.flip p new)

/-- FLIP (R149). -/
def execFlip (er : Er) (p : BitVec 7) (s : State) : Out :=
  let r := s.region er
  let q := p.toNat
  whenPowered s (
    match look none r.changes q, look none r.waiting q with
    | some c, some new =>
      if c.phase != .migrating || !c.migrated || decide (r.tick.toNat < c.tf.toNat) then s
      else
        let (r', es) := flipRegion r q c (oldProgram r q) new
        es.foldl (runEff er r.tick (er == s.pair.active)) (rewriteDirectory (s.setRegion er r') q new)
    | _, _ => s)

/-- CHANGE_ABANDONED (R148): the drain has not ended by tick tc + B - m. -/
def execChangeAbandoned (er : Er) (p : BitVec 7) (s : State) : Out :=
  let r := s.region er
  let q := p.toNat
  whenPowered s (
    match look none r.changes q with
    | some c =>
      let old := oldProgram r q
      if c.phase != .draining || decide (r.tick.toNat + c.m < c.tc.toNat + c.budget) then s
      else
        let t := r.tick
        let recs := sortRecs ((slotOrder old).filterMap (fun k =>
          let h := (slotOf r k.slot).heldReleases
          if k.kind == .cyclic && decide (h ≥ 2) then some (repRec 3 k.slot.toNat (h - 1)) else none))
        let report : Report := { result := 2, tc := c.tc, tend := t, gapp := BitVec.ofNat 16 (min c.gap 65535), budget := BitVec.ofNat 16 (min c.budget 65535), recs := recs }
        let (r, es) := (slotOrder old).foldl (releaseHeld t) (setReport (dropWaiting r q) q report, [])
        (es ++ [Eff.record 0x1403 q (c.tc.toNat % 2 ^ 32) (t.toNat % 2 ^ 32), Eff.raise 10]).foldl (runEff er t (er == s.pair.active)) (s.setRegion er r)
    | none => s)

end Sys2Proof.Machine
end

