-- ==== Sys2Proof/Machine/FieldCmd.lean ====
section
/-! DEFINITION. The mailbox commands of field channels and their stations (R226 to R263, R479). -/

namespace Sys2Proof.Machine

/-! ### Checks -/

/-- The checks of a request in order: the status and detail of the first that fails, or the accepted state. -/
def checked (s : State) (p : BitVec 7) (checks : List (Bool × Stat)) (ok : State) : State :=
  match checks.find? (fun c => !c.1) with
  | some c => turnAway s p c.2
  | none => ok

/-- Reserved bits of a channel record are zero (R226). -/
def recordClean (r : List W64) : Bool :=
  let w (k : Nat) := r.getD k 0
  zeroBits (w 0) 54 48 && zeroBits (w 0) 23 0 && zeroBits (w 1) 32 0 && zeroBits (w 2) 36 0 && zeroBits (w 3) 36 0
    && w 5 == 0 && w 6 == 0 && w 7 == 0 && decide (bits (w 0) 62 60 ≤ 3)

/-- Prescaler times quanta of a bit of the nominal word (R227). -/
def nominalQuanta (w : W64) : Nat := (bits w 63 55 + 1) * (1 + (bits w 54 47 + 1) + (bits w 46 40 + 1))

/-- The same of a data timing word. -/
def dataQuanta (w : W64) : Nat := (bits w 63 59 + 1) * (1 + (bits w 58 54 + 1) + (bits w 53 50 + 1))

/-- A data timing word meets R227: least quanta for the highest rate, at most the nominal ones. -/
def dataTimingOk (w : W64) (least nominal : Nat) : Bool :=
  decide (1 ≤ bits w 58 54) && decide (least ≤ dataQuanta w ∧ dataQuanta w ≤ nominal) && decide (bits w 49 46 ≤ bits w 53 50)

/-- The rules of R227. -/
def recordOk (r : List W64) : Bool :=
  let w (k : Nat) := r.getD k 0
  let q := nominalQuanta (w 1)
  let rf := bits (w 4) 31 30
  decide (1 ≤ bits (w 1) 54 47) && decide (200 ≤ q ∧ q ≤ 1600) && decide (bits (w 1) 39 33 ≤ bits (w 1) 46 40)
    && (!bit (w 0) 58 || dataTimingOk (w 2) 25 q) && (!bit (w 0) 57 || dataTimingOk (w 3) 10 q)
    && (!bit (w 0) 56 || bit (w 0) 57) && (rf != 2 || bit (w 0) 58) && (rf != 3 || bit (w 0) 57)
    && (!bit (w 0) 55 || decide (bits (w 4) 47 32 < bits (w 4) 63 48))

/-- The words at 0x00 to 0x1F without `RECOVER` and `RLIMIT` (R228). -/
def busWords (r : List W64) : List W64 := setBits (r.getD 0 0) 47 24 0 :: (r.drop 1).take 3

/-- A channel number in range. -/
def chanOk (c : W32) : Bool := decide (c.toNat < 32)

/-- Apply an accepted channel record (R228). -/
def writeRecord (s : State) (c : Nat) (r : List W64) : State :=
  let ch := s.chan c
  let isRecord : ChanWrite → Bool := fun w => match w with | .record _ => true | _ => false
  let next := modChan s c (fun ch => { ch with nextRecord := some r, foreign := false, writes := ch.writes.filter (fun w => !isRecord w) })
  match ch.state with
  | .stopped => settleChannel next c false
  | .isolated => modChan s c (fun ch => { ch with record := r, foreign := false, writes := ch.writes.filter (fun w => !isRecord w) })
  | .stopping => next
  | _ =>
    if busWords r = busWords ch.record then writeChan s c (.record r)
    else stopChannel next c (if bit (r.getD 0 0) 63 then 2 else 1)

/-- CHANNEL_WRITE (R226 to R228). -/
def execChannelWrite (p : BitVec 7) (c : W32) (record : List W64) (s : State) : Out :=
  serveIn 2 s p (Req.channelWrite c record) (owner0 p) (checked s p
    [(record.length == 8, .badLength), (chanOk c, .outOfRange), (recordClean record, .reservedSet), (recordOk record, .refused)]
    (acceptConfig s (writeRecord s c.toNat record) p (Req.channelWrite c record)))

/-- A filter meets R229 and R230. -/
def filterOk (w : W64 × W64) : Bool :=
  bits w.1 62 61 != 1 || decide (bits w.1 57 50 + bits w.2 28 0 ≤ 255 + bits w.2 60 32)

/-- Reserved fields of a filter. -/
def filterClean (w : W64 × W64) : Bool :=
  zeroBits w.1 49 0 && zeroBits w.2 63 61 && zeroBits w.2 31 29 && decide (bits w.1 62 61 ≤ 1) && !(bits w.1 60 59 == 3 && bit w.1 58)

/-- FILTER_WRITE (R229, R230). -/
def execFilterWrite (p : BitVec 7) (c first : W32) (filters : List (W64 × W64)) (s : State) : Out :=
  serveIn 2 s p (Req.filterWrite c first filters) (owner0 p) (checked s p
    [(chanOk c, .outOfRange), (decide (first.toNat + filters.length ≤ 128), .outOfRange), (filters.all filterClean, .reservedSet),
      (filters.all filterOk, .refused)]
    (acceptConfig s (writeChan s c.toNat (.filters first.toNat filters)) p (Req.filterWrite c first filters)))

/-- RXBUF_CONFIG (R231). -/
def execRxbufConfig (p : BitVec 7) (c buf w : W32) (s : State) : Out :=
  serveIn 2 s p (Req.rxbufConfig c buf w) (owner0 p) (checked s p
    [(chanOk c && decide (buf.toNat < 256), .outOfRange), (zeroBits w 29 7, .reservedSet)]
    (acceptConfig s (writeChan s c.toNat (.rxbuf buf.toNat w)) p (Req.rxbufConfig c buf w)))

/-- Reserved fields of a mapping entry (R236). DESIGN CHOICE (log entry 77): R236 calls `OFFSET` reserved outside the value kind and
leaves `GAIN` of a quality entry open; the model takes the whole second word of a quality entry as reserved. -/
def mappingClean (e : W64 × W64) : Bool :=
  !bit e.1 16 && zeroBits e.1 7 0 && decide (bits e.1 59 57 ≤ 2)
    && (bits e.1 59 57 != 1 || (zeroBits e.2 45 32 && zeroBits e.2 31 0)) && (bits e.1 59 57 != 2 || e.2 == 0)

/-- Every bit of a field lies within the buffer (R241). -/
def fieldFits (f : Option (List Nat)) (bytes : Nat) : Bool :=
  match f with
  | some pos => pos.all (fun i => decide (i < 8 * bytes))
  | none => false

/-- An entry in use meets R238, R239 and R241 on its own. -/
def mappingOk (s : State) (c : Nat) (e : W64 × W64) : Bool :=
  let ch := s.chan c
  let r := s.image
  let i := bits e.1 51 32
  let b := bits e.1 15 8
  let kind := bits e.1 59 57
  let ty := typeOf r i
  let w := bits e.1 56 52 + 1
  let st := stationOf r i
  let boolOk := ty != tyBool || e.2 == 0
  let fits (cap : Nat) := fieldFits (fieldBits (bit e.1 61) (bits e.1 31 20) (bits e.1 19 17) w) cap
  if bit e.1 62 then
    decide (b < 64) && kind == 0 && isOutput (modeOf r i) && ty != tyCount && ty != tyCount2
      && st / 128 == c && st % 128 != 0 && fits (txCapacity b) && boolOk && (ty != tyBool || w == 1)
  else if kind = 2 then i == 0 && w == 1 && fits (rxCapacity b)
  else
    isInput (modeOf r i) && (kind == 1) == (ty == tyCount) && ty != tyCount2
      && bits (ch.rxb b).cfg 6 0 != 0 && st == 128 * c + bits (ch.rxb b).cfg 6 0 && fits (rxCapacity b) && boolOk
      && (kind != 1 || (decide (w ≤ 16) && fieldFits (fieldBits (bit e.1 61) (bits e.2 63 52) (bits e.2 51 49) (bits e.2 48 46 + 1)) (rxCapacity b)))

/-- No more than 256 entries of one direction in a buffer, and no data bit of a transmit buffer written twice (R241). -/
def tableOk (ch : Channel) : Bool :=
  (List.range 256).all (fun b =>
    decide ((entriesOf ch false b).length ≤ 256)
      && (let tx := entriesOf ch true b
          decide (tx.length ≤ 256) && decide ((tx.flatMap (fun e => entryBits e.1)).Nodup)))

/-- MAPPING_WRITE (R236 to R241): checked against the configuration with every write that still waits (R228). -/
def execMappingWrite (p : BitVec 7) (c first : W32) (entries : List (W64 × W64)) (s : State) : Out :=
  let ahead := planned s c.toNat
  let t := applyWrite ahead c.toNat (.map first.toNat entries)
  serveIn 2 s p (Req.mappingWrite c first entries) (owner0 p) (checked s p
    [(chanOk c && decide (first.toNat + entries.length ≤ 4096), .outOfRange), (entries.all mappingClean, .reservedSet),
      (entries.all (fun e => !bit e.1 63 || mappingOk ahead c.toNat e), .refused), (tableOk (t.chan c.toNat), .refused)]
    (acceptConfig s (writeChan s c.toNat (.map first.toNat entries)) p (Req.mappingWrite c first entries)))

/-- A frame from the header words of R232. -/
def frameOf (stamp h1 h2 : W64) (data : Bytes) : Frame :=
  { stamp := stamp, fmt := (match bits h1 63 62 with | 0 => .classical | 1 => .fd | _ => .xl), ide := bit h1 61, brs := bit h1 60,
    esi := bit h1 59, sec := bit h1 58, len := bits h1 43 32, id := BitVec.ofNat 29 (bits h1 28 0), sdt := BitVec.ofNat 8 (bits h2 63 56),
    vcid := BitVec.ofNat 8 (bits h2 55 48), af := BitVec.ofNat 32 (bits h2 31 0), data := data }

/-- The bytes of a frame record (R232). -/
def frameBytes (f : Frame) : Bytes :=
  let fmt := match f.fmt with | .classical => 0 | .fd => 1 | .xl => 2
  leBytes 8 f.stamp.toNat
    ++ leBytes 8 (fmt * 2 ^ 62 + f.ide.toNat * 2 ^ 61 + f.brs.toNat * 2 ^ 60 + f.esi.toNat * 2 ^ 59 + f.sec.toNat * 2 ^ 58 + f.len * 2 ^ 32 + f.id.toNat)
    ++ leBytes 8 (f.sdt.toNat * 2 ^ 56 + f.vcid.toNat * 2 ^ 48 + f.af.toNat) ++ f.data.take f.len

/-- The zero fields of a template or emergency frame (R232, R7). -/
def templateClean (h1 h2 : W64) : Bool :=
  let xl := bits h1 63 62 == 2
  zeroBits h1 57 44 && zeroBits h1 31 29 && zeroBits h2 47 32 && bits h1 63 62 != 3 && !bit h1 59
    && (xl || (!bit h1 58 && zeroBits h2 63 48 && zeroBits h2 31 0)) && (bits h1 63 62 == 1 || !bit h1 60) && !(xl && bit h1 61)

/-- Data lengths of R224, within a capacity. -/
def lengthOk (f : Frame) (cap : Nat) : Bool :=
  decide (f.len ≤ cap) && (match f.fmt with
    | .classical => decide (f.len ≤ 8)
    | .fd => decide (f.len ≤ 64)
    | .xl => decide (1 ≤ f.len ∧ f.len ≤ 2048))

/-- The window of a transmit buffer lies within the cycle of a time master (R255). -/
def windowOk (ch : Channel) (w : W64) : Bool :=
  bits w 35 20 == 0 || (ch.tmen && decide (bits w 35 20 * nominalQuanta (ch.cw 1) ≤ bits (ch.cw 4) 63 48 * 2000))

/-- TXBUF_WRITE (R242, R247, R255). -/
def execTxbufWrite (p : BitVec 7) (c buf : W32) (w t0 t1 : W64) (data : Bytes) (s : State) : Out :=
  let f := frameOf 0 t0 t1 data
  let b := buf.toNat
  serveIn 2 s p (Req.txbufWrite c buf w t0 t1 data) (owner0 p) (checked s p
    [(chanOk c && decide (b < 64), .outOfRange), (data.length == f.len, .badLength),
      (zeroBits w 19 0 && bits w 62 61 != 3 && templateClean t0 t1, .reservedSet), (lengthOk f (txCapacity b), .outOfRange),
      (windowOk ((planned s c.toNat).chan c.toNat) w, .refused)]
    (acceptConfig s (writeChan s c.toNat (.tx b w f)) p (Req.txbufWrite c buf w t0 t1 data)))

/-- EMERGENCY_WRITE (R248). -/
def execEmergencyWrite (p : BitVec 7) (c num : W32) (h0 h1 h2 : W64) (data : Bytes) (s : State) : Out :=
  let f := frameOf 0 h1 h2 data
  serveIn 2 s p (Req.emergencyWrite c num h0 h1 h2 data) (owner0 p) (checked s p
    [(chanOk c && decide (num.toNat < 8), .outOfRange), (data.length == f.len, .badLength),
      (h0 == 0 && templateClean h1 h2, .reservedSet), (lengthOk f 64, .outOfRange)]
    (acceptConfig s (writeChan s c.toNat (.emerg num.toNat f)) p (Req.emergencyWrite c num h0 h1 h2 data)))

/-- STATION_WRITE (R256). -/
def execStationWrite (p : BitVec 7) (c node : W32) (w : W64) (s : State) : Out :=
  let n := node.toNat
  serveIn 2 s p (Req.stationWrite c node w) (owner0 p) (checked s p
    [(chanOk c && decide (1 ≤ n ∧ n ≤ 127), .outOfRange), (zeroBits w 62 56, .reservedSet),
      (!bit w 63 || (decide (1 ≤ bits w 55 48) && decide (5 ≤ bits w 47 24) && decide (bits w 23 0 < bits w 47 24)), .outOfRange)]
    (acceptConfig s (writeChan s c.toNat (.station n w)) p (Req.stationWrite c node w)))

/-- CHANNEL_RECOVER (R251). -/
def execChannelRecover (p : BitVec 7) (c : W32) (s : State) : Out :=
  serveIn 2 s p (Req.channelRecover c) (owner0 p) (checked s p [(chanOk c, .outOfRange), ((s.chan c.toNat).err == .busOff, .conflict)]
    (answer (startRecovery s c.toNat 1) p))

/-- TM_RESTART (R254): references start again with the next cycle start. -/
def execTmRestart (p : BitVec 7) (c : W32) (s : State) : Out :=
  serveIn 2 s p (Req.tmRestart c) (owner0 p) (checked s p [(chanOk c, .outOfRange)]
    (answer (modChan s c.toNat (fun ch => { ch with foreign := false })) p))

/-- RAW_FRAME_READ (R233): lock, read and unlock. -/
def execRawFrameRead (p : BitVec 7) (c buf : W32) (s : State) : Out :=
  let rx := (s.chan c.toNat).rxb buf.toNat
  serveIn 2 s p (Req.rawFrameRead c buf) (owner0 p) (checked s p
    [(chanOk c && decide (buf.toNat < 256), .outOfRange), (bit rx.cfg 30, .refused), (rx.buf.isSome && !rx.supLock, .notFound)]
    (answer (modRx s c.toNat buf.toNat RxBuf.unlock) p ((rx.buf.map frameBytes).getD [])))

/-- RAW_FRAME_SEND (R242). -/
def execRawFrameSend (p : BitVec 7) (c buf len : W32) (data : Bytes) (s : State) : Out :=
  let b := buf.toNat
  let t := (s.chan c.toNat).txb b
  let ok := match t.template with
    | some f => lengthOk { f with len := len.toNat } (txCapacity b)
    | none => false
  let setData (t : TxBuf) : TxBuf := { t with template := t.template.map (fun f => { f with len := len.toNat, data := data }) }
  serveIn 2 s p (Req.rawFrameSend c buf len data) (owner0 p) (checked s p
    [(chanOk c && decide (b < 64), .outOfRange), (data.length == len.toNat, .badLength), (bit t.ctrl 63 && t.template.isSome, .notFound),
      (bits t.ctrl 62 61 == 2, .refused), (ok, .outOfRange)]
    (answer (modTx (buildTx (modTx s c.toNat b setData) c.toNat b) c.toNat b (fun x => { x with template := t.template })) p))

/-- Little-endian words of 4 bytes. -/
def words4 (ws : List W32) : Bytes := ws.flatMap (fun w => leBytes 4 w.toNat)

/-- CHANNEL_COUNTERS (R263). -/
def execChannelCounters (p : BitVec 7) (c kind idx : W32) (s : State) : Out :=
  let ch := s.chan c.toNat
  let n := idx.toNat
  let (ok, ws) : Bool × List W32 := match kind.toNat with
    | 0 => let x := ch.rxb n; (decide (n < 256), [x.received, x.delivered, x.overwritten])
    | 1 => let x := ch.txb n; (decide (n < 64), [x.built, x.sent, x.cancelled, x.failed, x.discarded, x.superseded])
    | 2 => let x := ch.st n; (decide (1 ≤ n ∧ n ≤ 127), [x.missedTotal, x.dropOuts, x.discardedOut])
    | _ => (false, [])
  serveIn 2 s p (Req.channelCounters c kind idx) (owner0 p) (checked s p [(chanOk c && ok, .outOfRange)] (answer s p (words4 ws)))

/-- Codes of station states (R256). -/
def StState.code : StState → Nat
  | .unconfigured => 0
  | .waiting => 1
  | .up => 2
  | .stale => 3
  | .down => 4
  | .returning => 5

/-- STATION_STATE (R55, R256, R260). -/
def execStationState (p : BitVec 7) (st : W32) (s : State) : Out :=
  let n := st.toNat
  let (ok, x, m) : Bool × StState × Nat :=
    if 0x1000 ≤ n ∧ n < 0x2000 then let v := look {} s.net.vstations (n - 0x1000); (true, v.state, v.missed)
    else let t := (s.chan (n / 128)).st (n % 128); (decide (n < 0x1000 ∧ n % 128 ≠ 0), t.state, t.missed)
  serveIn (if n < 0x1000 then 2 else 3) s p (Req.stationState st) (owner0 p) (checked s p [(ok, .outOfRange)] (answer s p (leBytes 4 x.code ++ leBytes 4 m)))

end Sys2Proof.Machine
end

