-- ==== Sys2Proof/Machine/Net.lean ====
section
/-! DEFINITION. NR's frames (R269 to R302, R312 to R318): the receive path with its steering, the queues and their rings, the
transmit fetch, the servo's measurements, and the meanings of the network events. -/

namespace Sys2Proof.Machine

/-! ### The servo (R312, R313) -/

/-- `LOCKTH` in ns. -/
def lockThreshold (s : State) : Nat := let v := bits s.time.rec1 63 32; if v = 0 then 1000 else v

/-- The servo corrects an offset by slewing; the trims are the firmware's and come from a free value within their limits
(R309, R312, R313; log entry 21). -/
def servoCorrect (s : State) (offset : Int) : State :=
  let (w, s) := s.takeFree
  let lim : Int := 2 ^ 47 - 1
  s.setTime { s.time with
    rate := BitVec.ofInt 32 ((bits w 31 0 % 400000001 : Nat) - 200000000 : Int)
    slewMax := BitVec.ofNat 27 (bits w 63 32 % 100000001)
    slewRem := max (-lim) (min lim (-offset)) * 2 ^ 40 }

/-- One measurement of the selected source: `port` is 0 or 1 for PTP and 255 for PPS_IN (R312, R313). -/
def servoMeasure (s : State) (port : Nat) (offset : Int) : State :=
  let s := if s.dev.dstate = .run ∧ offset.natAbs > 1000000 then
      recordT s (erNum s.pair.active) 0x4304 (sat32 (Int.tdiv offset 1000)) port else s
  let run := if offset.natAbs ≤ lockThreshold s then s.time.lockRun + 1 else 0
  let s := s.setTime { s.time with lockRun := min run 16 }
  setTstate (servoCorrect s offset) (if run ≥ 16 then 2 else 1)

/-- What a PTP message changes (R312, R317, R319): the port's state and path delay, the port whose master the best master clock
algorithm selects, and an offset from that master, which the servo uses while it follows PTP. -/
def ptpMeasure (s : State) (p : Port) (e : PtpEvent) : State :=
  let s := match e.portState with | some c => setPtp s p (.other c) | none => s
  let s := match e.pathDelay with
    | some d => modPort s p (fun x => { x with portDs := patchBytes x.portDs 12 (beBytes 8 d.toNat) })
    | none => s
  let s := if e.selected then s.setTime { s.time with srcPort := some p } else s
  match e.offset with
  | some d =>
    if s.time.srcPort != some p then s
    else
      let s := s.setTime { s.time with offset := some d }
      if timeSource s = 1 then servoMeasure s (portNo p) d else s
  | none => s

/-! ### Queue records (R285, R286) -/

/-- Word k of a queue record. -/
def NQueue.qw (q : NQueue) (k : Nat) : W64 := q.record.getD k 0
/-- `RXEN`. -/
def NQueue.rxen (q : NQueue) : Bool := bit (q.qw 0) 63
/-- `TXEN`. -/
def NQueue.txen (q : NQueue) : Bool := bit (q.qw 0) 62
/-- Receive ring size. -/
def NQueue.rxSize (q : NQueue) : Nat := 2 ^ bits (q.qw 0) 55 52
/-- Transmit ring size. -/
def NQueue.txSize (q : NQueue) : Nat := 2 ^ bits (q.qw 0) 51 48
/-- Receive buffer bytes. -/
def NQueue.bufBytes (q : NQueue) : Nat := 256 * max 1 (bits (q.qw 0) 47 40)
/-- `RXQ`. -/
def NQueue.rxq (q : NQueue) : Nat := bits (q.qw 0) 31 16
/-- `TXQ`. -/
def NQueue.txq (q : NQueue) : Nat := bits (q.qw 0) 15 0

/-- The rings lie in the packet buffer: `LOC`, forced without a PCI Express host (R285). -/
def inBuffer (s : State) (q : Nat) : Bool := bit ((s.nq q).qw 0) 61 || !s.hr.pcie

/-- Cells that a queue's frames hold. -/
def NQueue.held (q : NQueue) : Nat :=
  (q.frames ++ q.stalled).foldl (fun n f => if f.overflow then n else n + cellsOf f.bytes.length) 0

/-- [a, a + n) lies wholly within the queue's DMA window (R293). -/
def inWindow (q : NQueue) (a n : Nat) : Bool := decide ((q.qw 4).toNat ≤ a ∧ a + n ≤ (q.qw 4).toNat + (q.qw 5).toNat)

/-- Bytes that the device writes to host memory. -/
def hostWrite (s : State) (a : Nat) (bs : Bytes) : State :=
  s.setHr { s.hr with hostWrites := s.hr.hostWrites ++ [(BitVec.ofNat 64 a, bs)] }

/-- The index block (R286). -/
def writeIndex (s : State) (q : Nat) : State :=
  let x := s.nq q
  if inBuffer s q then s
  else hostWrite s (x.qw 3).toNat (leBytes 4 x.rxCons ++ leBytes 4 x.txCons ++ leBytes 4 (look 0 x.counters 3) ++ leBytes 4 (look 0 x.counters 4))

/-- A direction of a queue stops (R293): 0 receive, 1 transmit, whose fetched frames stay pending. The index block shows it
(R306). -/
def windowFault (s : State) (q dir a : Nat) : State :=
  let s := modNq s q (fun x => { x with record := setAt x.record 0 (setBit (x.qw 0) (63 - dir) false), stopped := x.stopped || dir == 1 })
  raiseNq (writeIndex (recordN (countNq s q 11 1) 3 0x4107 q dir (a / 4096 % 2 ^ 32)) q) q

/-! ### Receive queues (R288) -/

/-- Descriptors that the device owns in the receive ring; in the packet buffer a descriptor is a cell. -/
def rxAvail (s : State) (q : Nat) : Nat :=
  let x := s.nq q
  if inBuffer s q then x.rxSize - 1 - (x.frames.foldl (fun n f => n + cellsOf f.bytes.length) 0)
  else (x.rxProd + x.rxSize - x.rxCons % x.rxSize) % x.rxSize

/-- Descriptors that a frame needs. -/
def rxNeed (s : State) (q : Nat) (f : RxFrame) : Nat :=
  if inBuffer s q then cellsOf f.bytes.length else (f.bytes.length + (s.nq q).bufBytes - 1) / (s.nq q).bufBytes

/-- A frame ends as a no-buffer drop. -/
def noBuffer (s : State) (q : Nat) : State := countNq s q 3 1

/-- A frame meets a stopped direction (R293); the index block's copy of the counter follows (R286, R306). -/
def dropStopped (s : State) (q : Nat) : State := writeIndex (noBuffer s q) q

/-- The bytes of a frame for its k-th buffer (R287). -/
def bufferPart (x : NQueue) (f : RxFrame) (k : Nat) : Bytes := (f.bytes.drop (k * x.bufBytes)).take x.bufBytes

/-- The first n buffers of a frame are filled (R288); a queue in the packet buffer has none in host memory. -/
def fillBuffers (s : State) (q : Nat) (f : RxFrame) (bufs : List W64) (n : Nat) : State :=
  let x := s.nq q
  if inBuffer s q then s else (List.range n).foldl (fun s k => hostWrite s (bufs.getD k 0).toNat (bufferPart x f k)) s

/-- A frame found the ring empty in the middle of its buffers (R288): those that it filled stay with the device; the index block shows
the drop (R306). -/
def starved (s : State) (q port : Nat) (f : RxFrame) (bufs : List W64) : State :=
  let s := noBuffer (fillBuffers s q f bufs (rxAvail s q)) q
  raiseNq (writeIndex (recordN s 3 0x4106 q port (look 0 (s.nq q).counters 3)) q) q

/-- The word at +0x08 of the k-th of n descriptors (R287). -/
def descWord (w : W64) (k n len : Nat) : W64 :=
  setBits (setBit (setBit (setBit w 63 true) 62 (k == 0)) 61 (k + 1 == n)) 15 0 len

/-- A frame's buffers are filled and its descriptors written back in order (R287, R288). -/
def deliver (s : State) (q : Nat) (f : RxFrame) (bufs : List W64) : State :=
  let x := s.nq q
  let len := f.bytes.length
  let s := countNq (countNq s q 1 1) q 2 len
  let s :=
    if inBuffer s q then modNq s q (fun x => { x with frames := x.frames ++ [{ f with word := descWord f.word 0 1 len }] })
    else
      let n := rxNeed s q f
      let one (s : State) (k : Nat) : State :=
        let idx := (x.rxCons + k) % x.rxSize
        hostWrite s ((x.qw 1).toNat + 16 * idx + 8) (leBytes 8 (descWord f.word k n (bufferPart x f k).length).toNat)
      let s := (List.range n).foldl one (fillBuffers s q f bufs n)
      modNq s q (fun x => { x with rxCons := (x.rxCons + n) % x.rxSize })
  raiseNq (writeIndex s q) q

/-- The buffer address outside the window that a frame meets first among the descriptors that the ring lends, and how many buffers it
has filled by then (R288, R293). -/
def badBuffer (s : State) (q : Nat) (f : RxFrame) (bufs : List W64) : Option (Nat × W64) :=
  let n := min (rxNeed s q f) (rxAvail s q)
  if inBuffer s q then none
  else ((fitList 0 n bufs).zipIdx.find? (fun a => !inWindow (s.nq q) a.1.toNat (s.nq q).bufBytes)).map (fun a => (a.2, a.1))

/-- How many buffers a frame fills before it is complete, found faulty, or stopped (R288). -/
def buffersFilled (s : State) (q : Nat) (f : RxFrame) (bufs : List W64) : Nat :=
  match badBuffer s q f bufs with
  | some a => a.1
  | none => min (rxNeed s q f) (rxAvail s q)

/-- The DMA engine handles one frame of a queue (R288, R293): it fills the buffers in order, so an address outside the window stops
it before the ring runs empty; none while it waits for a descriptor of its first buffer. -/
def handleRx (s : State) (q : Nat) (f : RxFrame) (bufs : List W64) : Option State :=
  let port := bits f.word 57 57
  if f.overflow then some (countNq s q 4 1)
  else if !(s.nq q).rxen then some (dropStopped s q)
  else if rxAvail s q = 0 then none
  else
    match badBuffer s q f bufs with
    | some a => some (windowFault (noBuffer (fillBuffers s q f bufs a.1) q) q 0 a.2.toNat)
    | none => if rxAvail s q < rxNeed s q f then some (starved s q port f bufs) else some (deliver s q f bufs)

/-- A frame whose FCS is wrong had been steered to queue q: it is counted there (R289), and the buffers that it filled before its end
stay with the device (R288). DESIGN CHOICE (log entry 55): a frame that overflows its quota, or that would have waited behind another,
fills none. -/
def faultyFrame (s : State) (q : Nat) (f : RxFrame) (bufs : List W64) : State :=
  let x := s.nq q
  let s := countNq s q 0 1
  if x.rxen && x.stalled.isEmpty && decide (x.held + cellsOf f.bytes.length ≤ x.rxq) then fillBuffers s q f bufs (buffersFilled s q f bufs) else s

/-- The frames that wait in a queue go on, oldest first, as far as descriptors allow; buffers that were filled and not written back
are filled again by the next frame (R288). -/
def serveRx : Nat → State → Nat → List W64 → State
  | 0, s, _, _ => s
  | n + 1, s, q, bufs =>
    match (s.nq q).stalled with
    | [] => s
    | f :: rest =>
      match handleRx (modNq s q (fun x => { x with stalled := rest })) q f bufs with
      | none => s
      | some t => serveRx n t q (bufs.drop (((t.nq q).rxCons + (s.nq q).rxSize - (s.nq q).rxCons) % (s.nq q).rxSize))

/-- Stage 7 for a partition queue (R288): the quota is checked as the cells arrive. -/
def toQueue (s : State) (q : Nat) (f : RxFrame) (bufs : List W64) : State :=
  let f := { f with overflow := decide ((s.nq q).held + cellsOf f.bytes.length > (s.nq q).rxq) }
  let s := modNq (countNq s q 0 1) q (fun x => { x with stalled := x.stalled ++ [f] })
  flowBoth (serveRx (s.nq q).stalled.length s q bufs)

/-- RECEIVE_DESCRIPTOR_WAIT (R288). -/
def execReceiveDescriptorWait (q : Nat) (bufs : List W64) (s : State) : Out :=
  if q ≥ 160 then .fault .noSuchUnit else whenPowered s (flowBoth (serveRx (s.nq q).stalled.length s q bufs))

/-! ### The receive path (R271 to R283) -/

/-- A filter entry matches a frame received on port p (R282, R283). -/
def entryMatches (p : Port) (bs : Bytes) (e : W64 × W64) : Bool :=
  let w := e.1
  let tagged := (frameTag bs).isSome
  let portOk := match p with | .np0 => bit w 62 | .np1 => bit w 61
  let tagOk := match bits w 60 59 with
    | 0 => !tagged
    | 1 => tagged
    | _ => true
  let vidOk := !tagged || decide (bits w 55 44 ≤ frameVid bs ∧ frameVid bs ≤ bits w 43 32)
  bit w 63 && portOk && tagOk && vidOk && bit w (24 + framePcp bs) && (bit w 7 || bits w 23 8 == etherType bs)

/-- Where stages 5 and 6 send a frame. -/
inductive Steer where
  | vellek
  | queue (q : Nat)
  | drop
  deriving DecidableEq, Repr

/-- A PTP frame (R281). -/
def isPtp (s : State) (bs : Bytes) : Bool := etherType bs == 0x88F7 || (ptpUdp bs && toModule s bs)

/-- Stages 5 and 6 (R281, R283). -/
def steer (s : State) (p : Port) (bs : Bytes) : Steer :=
  if isVellek s p bs then .vellek
  else if isPtp s bs then .queue 128
  else if etherType bs = 0x888E then .queue 129
  else if etherType bs = 0x88FB ∧ pairMode s ≠ 0 then .queue 130
  else
    match s.net.filters.find? (fun e => entryMatches p bs e.2) with
    | none => .queue 132
    | some e => if bits e.2.2 63 56 = 255 then .drop else .queue (bits e.2.2 63 56)

/-- The header fields of a frame's descriptors (R287). -/
def headerWord (p : Port) (bs : Bytes) (trunc sec : Bool) : W64 :=
  BitVec.ofNat 64 (trunc.toNat * 2 ^ 60 + trunc.toNat * 2 ^ 59 + (frameTag bs).isSome.toNat * 2 ^ 58 + portNo p * 2 ^ 57
    + sec.toNat * 2 ^ 56 + framePcp bs * 2 ^ 53 + frameVid bs * 2 ^ 41 + etherType bs * 2 ^ 16)

/-- The firmware takes a frame of a system queue at once (R280; log entry 22). DESIGN CHOICE (log entry 98): management messages
(R314) are counted in 32 bits, kind S. -/
def toSystem (s : State) (p : Port) (q : Nat) (f : NetFrame) (bs : Bytes) : State :=
  let s := countNq (countNq (countNq s q 0 1) q 1 1) q 2 bs.length
  match q with
  | 128 =>
    let x := s.port p
    let w := stampRecord p false bs (stampParts s (-(look (0, 0) x.latency x.rate.toNat).1.toInt))
    let s := modPort s p (fun x => { x with ptpRx := (if ptpType bs ≤ 3 then leBytes 8 w.1.toNat ++ leBytes 8 w.2.toNat else List.replicate 16 0) ++ bs })
    if ptpType bs = 13 then s.setNet { s.net with mgmtMsgs := satInc s.net.mgmtMsgs }
    else match f.ptp with | some e => ptpMeasure s p e | none => s
  | 130 =>
    let src : BitVec 48 := BitVec.ofNat 48 (srcMac bs)
    if s.net.nodes.contains src || decide (s.net.nodes.length ≥ 1024) then s else s.setNet { s.net with nodes := s.net.nodes ++ [src] }
  | 132 => countPort s p 36 1
  | _ => s

/-- Stage 2 (R275, R283, R295): a MAC control frame is counted, and acts under `FCMODE` when its FCS is correct. -/
def macControl (s : State) (p : Port) (bs : Bytes) (good : Bool) : State :=
  let x := s.port p
  let o := etherOff bs + 2
  match be16 bs o with
  | 0x0001 =>
    let s := countPort s p 24 1
    if good && x.fcmode == 1 then modPort s p (fun x => { x with pausePort := be16 bs (o + 2) }) else s
  | 0x0101 =>
    let s := countPort s p 25 1
    if good && x.fcmode == 2 then
      (List.range 8).foldl (fun s c =>
        if (be16 bs (o + 2)).testBit c then countPort (modPort s p (fun x => { x with pauseCls := put 0 x.pauseCls c (be16 bs (o + 4 + 2 * c)) })) p (39 + c) 1
        else s) s
    else s
  | _ => countPort s p 26 1

/-- The verdicts of IEEE 802.1AE-2018 on a received frame, each with its counter of R326. -/
inductive SecVerdict where
  | untagged
  | noTag
  | badTag
  | noSA
  | notValid
  | invalid
  | late
  | ok
  | unchecked
  deriving DecidableEq, Repr

/-- The receive SA that a SecTAG names (R322): by its SCI, by the source address under ES, or the one peer's. -/
def rxSa (x : PortS) (bs : Bytes) (t : SecTag) : Option Sa :=
  let sci : Option W64 := t.sci.orElse (fun _ => if t.es then some (BitVec.ofNat 64 (srcMac bs * 65536 + 1)) else none)
  x.sas.find? (fun a => a.receive && a.an == t.an && (sci.map (fun c => c == a.sci)).getD true)

/-- MACsec's verdict under validateFrames, replayProtect and the window of the port (R322; the order is that of IEEE 802.1AE-2018,
PRESUMED, log entry 79). -/
def macVerdict (x : PortS) (bs : Bytes) (tag : Option SecTag) : SecVerdict :=
  let mode := bits x.macsec 13 12
  if x.exhausted && x.sas.isEmpty then .noSA
  else match tag with
  | none => if mode = 2 then .noTag else .untagged
  | some t =>
    if !t.wellFormed then .badTag
    else
      match rxSa x bs t with
      | none => if mode = 2 || t.encrypted then .noSA else .unchecked
      | some a =>
        if bit x.macsec 2 && decide (t.pn.toNat + x.macWindow.toNat < a.pn.toNat) then .late
        else if mode = 0 && !t.encrypted then .unchecked
        else if t.icvOk then .ok
        else if mode = 2 || t.encrypted then .notValid
        else .invalid

/-- The counter of a MACsec verdict, in the order of R326. -/
def verdictIndex : SecVerdict → Nat
  | .untagged => 64
  | .noTag => 65
  | .badTag => 66
  | .noSA => 67
  | .notValid => 68
  | .invalid => 69
  | .late => 70
  | .ok => 71
  | .unchecked => 72

/-- MACsec drops the frame (R325). -/
def verdictDrops : SecVerdict → Bool
  | .noTag => true
  | .badTag => true
  | .noSA => true
  | .notValid => true
  | .late => true
  | _ => false

/-- The frame goes through MACsec: it carries a SecTAG, or comes in over the controlled port without one (R322). -/
def throughMacsec (x : PortS) (bs : Bytes) (tag : Option SecTag) : Bool := if tag.isSome then x.secure else secured x bs

/-- The SA of a verified frame expects the next packet number. -/
def advancePn (x : PortS) (bs : Bytes) (t : SecTag) : PortS :=
  match rxSa x bs t with
  | none => x
  | some a => { x with sas := x.sas.map (fun b => if b == a then { b with pn := if t.pn.toNat ≥ a.pn.toNat then t.pn + 1 else a.pn } else b) }

/-- Stage 3 (R322, R324 to R326): the state, and whether the frame goes on. A secured port drops every truncated frame. -/
def macsecStage (s : State) (p : Port) (f : NetFrame) (bs : Bytes) (trunc : Bool) : State × Bool :=
  let x := s.port p
  if trunc && x.secure then (countPort s p 73 1, false)
  else if !throughMacsec x bs f.sec then (s, true)
  else
    let v := macVerdict x bs f.sec
    let s := countPort s p (verdictIndex v) 1
    match f.sec with
    | some t =>
      if v = .ok then
        let n := bs.length - 12 + (if f.seqNo.isSome then 6 else 0)
        (countPort (modPort s p (fun x => advancePn x bs t)) p (if t.encrypted then 77 else 76) n, true)
      else (s, !verdictDrops v)
    | none => (s, !verdictDrops v)

/-- Forward an HSR frame to the other port, unchanged with its tag (R279). -/
def forward (s : State) (p : Port) (seqNo : Option (BitVec 16)) (path : BitVec 16) (bs : Bytes) : State :=
  let o := otherPort p
  let f : TxFrame := { src := srcForward, cls := BitVec.ofNat 3 (framePcp bs), bytes := bs, id := 0, seqNo := seqNo, hsrPath := some path }
  let x := s.port o
  let n := cellsOf bs.length
  if !canSend x f then countPort s o 37 1
  else if x.fwdCells + n > 512 then
    let s := countPort s o 63 1
    recordT s 3 0x4201 (portNo o) (look 0 (s.port o).counters 63)
  else countPort (modPort s o (fun x => { x with forwarding := x.forwarding ++ [f], fwdCells := x.fwdCells + n })) o 62 1

/-- Stage 4 (R276, R278, R279): the state, and whether the frame goes on. -/
def redundancyStage (s : State) (p : Port) (seqNo : Option (BitVec 16)) (path : BitVec 16) (bs : Bytes) : State × Bool :=
  let src : BitVec 48 := BitVec.ofNat 48 (srcMac bs)
  let hsr := pairMode s == 2
  let node := nodeMac s p
  if pairMode s = 0 then (s, true)
  else if hsr && src.toNat == node then (countPort s p 61 1, false)
  else if (seqNo.map (fun n => s.net.dups.contains (src, n))).getD false then (countPort s p 60 1, false)
  else
    let s := match seqNo with
      | some n =>
        let old := if s.net.dups.length ≥ 4096 then s.net.dups.tail else s.net.dups
        s.setNet { s.net with dups := old ++ [(src, n)] }
      | none => s
    let alone := dstMac bs == node
    if hsr && !alone then (forward s p seqNo path bs, castOf (dstMac bs) != 0) else (s, true)

/-- Stage 2 meets a MAC control frame (R275): the EtherType that stands there, before a SecTAG or an HSR tag is removed, is 0x8808. -/
def isMacControl (s : State) (f : NetFrame) (bs : Bytes) : Bool :=
  f.sec.isNone && !(pairMode s == 2 && f.seqNo.isSome) && etherType bs == 0x8808

/-- A frame with a wrong FCS had been steered to a partition queue (R272, R289). -/
def wouldSteer (s : State) (p : Port) (f : NetFrame) : Option Nat :=
  let bs := f.bytes
  let dup := pairMode s != 0 && (f.seqNo.map (fun n => s.net.dups.contains (BitVec.ofNat 48 (srcMac bs), n))).getD false
  let own := pairMode s == 2 && srcMac bs == nodeMac s p
  let other := pairMode s == 2 && dstMac bs != nodeMac s p && castOf (dstMac bs) == 0
  let sec := throughMacsec (s.port p) bs f.sec && verdictDrops (macVerdict (s.port p) bs f.sec)
  if isMacControl s f bs ∨ dup ∨ own ∨ other ∨ sec then none
  else
    match steer s p bs with
    | .queue q => if q < 128 then some q else none
    | _ => none

/-- The counters of a received frame (R303). -/
def countReceived (s : State) (p : Port) (f : NetFrame) (bs : Bytes) : State :=
  let s := countPort (countPort (countPort s p 2 1) p (4 + lengthBin f.wireLen) 1) p (18 + castOf (dstMac bs)) 1
  if (frameTag bs).isSome then countPort s p 29 1 else s

/-- Stages 5 to 7 for a frame with a good outcome so far, `ok` when MACsec verified it. -/
def steerFrame (s : State) (p : Port) (f : NetFrame) (bs : Bytes) (trunc ok : Bool) : State :=
  match steer s p bs with
  | .vellek => settleVellek s p bs trunc
  | .drop => countPort s p 35 1
  | .queue q =>
    if q < 128 then
      toQueue s q { word := headerWord p bs trunc ok, bytes := bs } f.bufs
    else toSystem s p q f bs

/-- A received frame from the MAC to its outcome (R271). -/
def receiveNet (s : State) (p : Port) (f : NetFrame) : State :=
  let x := s.port p
  let n := f.wireLen
  let s := modPort (countPort (countPort s p 34 f.pcsErrors) p 0 n) p (fun x => { x with winRx := x.winRx + n, msRx := x.msRx + n })
  let trunc := decide (n > x.maxlen)
  if n < 64 then countPort s p 32 1
  else if !f.fcsOk && !trunc then
    let s := countPort s p 31 1
    (match wouldSteer s p f with | some q => faultyFrame s q { word := 0, bytes := f.bytes } f.bufs | none => s)
  else
    let tag := if pairMode s = 2 ∧ f.seqNo.isSome then 6 else 0
    let kept := match f.seqNo with
      | some k => if pairMode s = 1 then f.bytes ++ prpTrailer p k (f.bytes.length - 8) else f.bytes
      | none => f.bytes
    let bs := if trunc then kept.take (x.maxlen - 4 - tag) else f.bytes
    let s := countReceived (if trunc then countPort s p 33 1 else s) p f bs
    let ok := throughMacsec x bs f.sec && macVerdict x bs f.sec == .ok
    if isMacControl s f bs then macControl s p bs (!trunc)
    else
      let (s, on) := macsecStage s p f bs trunc
      if !on then s
      else
        let (s, on) := redundancyStage s p (if trunc && pairMode s == 1 then none else f.seqNo) f.hsrPath bs
        if on then steerFrame s p f bs trunc ok else s

/-- NETWORK_FRAME_RECEIVED (R271): a port whose link is down receives nothing. -/
def execNetworkFrameReceived (p : Port) (f : NetFrame) (s : State) : Out :=
  whenPowered s (if (s.port p).link then flowBoth (receiveNet s p f) else s)

/-! ### Doorbells and the transmit fetch (R286, R290, R291) -/

/-- The queue doorbell of page p (R286). -/
def ringQueue (s : State) (p : BitVec 7) (w : W32) : State :=
  let q := p.toNat
  let x := s.nq q
  let n := bits w 14 0
  let tx := bit w 31
  let size := if tx then x.txSize else x.rxSize
  let prod := if tx then x.txProd else x.rxProd
  let cons := if tx then x.txCons else x.rxCons
  let lent (i : Nat) : Nat := (i + size - cons % size) % size
  if !s.hr.running then s
  else if n ≥ size ∨ lent n < lent prod then countNq s q 10 1
  else modNq s q (fun x => if tx then { x with txProd := n } else { x with rxProd := n })

/-- QUEUE_DOORBELL (R286): page p's queue. -/
def execQueueDoorbell (p : BitVec 7) (w : W32) (s : State) : Out := whenPowered s (ringQueue s p w)

/-- The ports that a queue sends on (R277, R280). -/
def queuePorts (s : State) (q : Nat) : List Port :=
  if pairMode s ≠ 0 then [.np0, .np1]
  else
    match bits ((s.nq q).qw 6) 47 46 with
    | 1 => [.np0]
    | 2 => [.np1]
    | _ => []

/-- The frame as it is scheduled, or none for a tag violation (R291). -/
def tagFrame (x : NQueue) (data : Bytes) (pcp : Nat) : Option (Bytes × Nat) :=
  let w := x.qw 6
  if bit w 63 then some (data, framePcp data)
  else if isTpid (be16 data 12) then none
  else
    let c := min pcp (bits w 62 60)
    some (data.take 12 ++ beBytes 2 0x8100 ++ beBytes 2 (c * 2 ^ 13 + bits w 59 48) ++ data.drop 12, c)

/-- A frame has been fetched: tag, pad, check and schedule it (R291). -/
def scheduleFrame (s : State) (q : Nat) (data : Bytes) (pcp : Nat) : State :=
  match tagFrame (s.nq q) data pcp with
  | none => countNq s q 8 1
  | some (bs, c) =>
    let ports := queuePorts s q
    let f : TxFrame := { src := q, cls := BitVec.ofNat 3 c, bytes := bs, id := 0 }
    if ports.any (fun p => decide (wireBytes s p f > (s.port p).maxlen)) then countNq s q 9 1
    else
      let s := modNq s q (fun x => { x with pendingTx := x.pendingTx + 1, txCells := x.txCells + cellsOf bs.length })
      sendOn s ports f

/-- The frame's cells fit the queue's quota, those of one that will end as a tag violation too (R290). -/
def txFits (s : State) (q : Nat) (data : Bytes) (pcp : Nat) : Bool :=
  match tagFrame (s.nq q) data pcp with
  | none => decide ((s.nq q).txCells + cellsOf data.length ≤ (s.nq q).txq)
  | some (bs, _) => decide ((s.nq q).txCells + cellsOf bs.length ≤ (s.nq q).txq)

/-- The oldest frame of a queue, when one waiting copy alone holds it on a paused port (R277). -/
def heldByPause (s : State) (q : Nat) : Option (Port × TxFrame) :=
  let mine (p : Port) : List (Port × TxFrame) := ((s.port p).copies.filter (fun f => f.src == q)).map (fun f => (p, f))
  let inAir (p : Port) : List Nat := match (s.port p).sending with | some f => if f.src = q then [f.id] else [] | none => []
  let all := mine .np0 ++ mine .np1
  let ids := all.map (fun e => e.2.id) ++ inAir .np0 ++ inAir .np1
  match ids with
  | [] => none
  | i :: is =>
    let oldest := is.foldl min i
    match all.filter (fun e => e.2.id == oldest), (inAir .np0 ++ inAir .np1).contains oldest with
    | [e], false => if (s.port e.1).paused e.2.cls.toNat then some e else none
    | _, _ => none

/-- A queue at its quota gives up the copies that hold its oldest frames on a paused port (R277). -/
def relieve : Nat → State → Nat → Bytes → Nat → State
  | 0, s, _, _, _ => s
  | n + 1, s, q, data, pcp =>
    if pairMode s = 0 ∨ txFits s q data pcp then s
    else
      match heldByPause s q with
      | some (p, f) => relieve n (discardCopy s p f 38) q data pcp
      | none => s

/-- The descriptors of the next frame: up to the one with `EOP`. -/
def frameDescs : List TxDesc → List TxDesc
  | [] => []
  | d :: ds => if d.eop then [d] else d :: frameDescs ds

/-- TRANSMIT_FETCH (R290, R291, R293): the queue waits while a frame does not fit its quota. -/
def execTransmitFetch (q : Nat) (descs : List TxDesc) (s : State) : Out :=
  if q ≥ 160 then .fault .noSuchUnit
  else
    let x := s.nq q
    let ds := frameDescs descs
    let data := ds.flatMap TxDesc.data
    let pcp := (ds.getLast?.map (fun d => d.pcp.toNat)).getD 0
    let lent := (x.txProd + x.txSize - x.txCons % x.txSize) % x.txSize
    let whole := (ds.getLast?.map (fun d => d.eop)).getD false && decide (ds.length ≤ 64) && decide (ds.length ≤ lent)
      && ds.all (fun d => decide (1 ≤ d.data.length ∧ d.data.length ≤ 16384))
    whenPowered s (
      if !x.txen || inBuffer s q || !whole || (queuePorts s q).isEmpty then s
      else
        match ds.find? (fun d => !inWindow x d.addr.toNat d.data.length) with
        | some d => windowFault s q 1 d.addr.toNat
        | none =>
          let s := relieve 64 s q data pcp
          if !txFits s q data pcp then s
          else
            let s := countNq (countNq s q 5 1) q 7 data.length
            let s := modNq s q (fun x => { x with txCons := (x.txCons + ds.length) % x.txSize })
            raiseNq (writeIndex (scheduleFrame s q data pcp) q) q)

/-- NETWORK_FRAME_SENT (R291, R325, R336). -/
def execNetworkFrameSent (p : Port) (s : State) : Out :=
  let x := s.port p
  whenPowered s (
    match x.sending with
    | none => s
    | some f =>
      let s := countSent (modPort s p (fun x => { x with sending := none })) p f
      let s := if secured x f.bytes then protectedSent s p f else s
      let s := if f.src = srcForward then modPort s p (fun x => { x with fwdCells := x.fwdCells - cellsOf f.bytes.length }) else s
      flowBoth (vellekSent (leaveCopy s f true) f))

/-! ### Pause, low power, links and load windows -/

/-- PAUSE_EXPIRY (R295): the timer of the port or of a class reaches zero. -/
def execPauseExpiry (p : Port) (cls : Option (BitVec 3)) (s : State) : Out :=
  whenPowered s (modPort s p (fun x =>
    match cls with
    | none => { x with pausePort := 0 }
    | some c => { x with pauseCls := put 0 x.pauseCls c.toNat 0 }))

/-- XOFF_REPEAT (R296): while the occupancy stays at or above `XON`. -/
def execXoffRepeat (p : Port) (cls : BitVec 3) (s : State) : Out :=
  whenPowered s (if look false (s.port p).xoff cls.toNat && decide (occupancy s p cls.toNat ≥ (s.port p).xonAt) then pushControl s p cls.toNat 0xFFFF else s)

/-- PHY and link partner advertise EEE at the port's rate in registers 7.60 and 7.61 as the link came up with them (R298; the bits are
free values, log entry 80). -/
def eeeAgreed (s : State) (p : Port) : Bool :=
  let x := s.port p
  let adv (reg : Nat) : Bool := Config.eeeAdvertised (look 0 s.net.phy (phyKey (portNo p) 7 reg)) x.rate
  adv 60 && adv 61

/-- LPI_ENTRY (R298): the port has had nothing to send, also behind a pause. -/
def execLpiEntry (p : Port) (s : State) : Out :=
  let x := s.port p
  whenPowered s (
    if !bit (x.pw 0) 54 || !x.link || x.lpi || x.sending.isSome || !x.ctrlFrames.isEmpty || !(readyCopies s x).isEmpty || !x.forwarding.isEmpty || !eeeAgreed s p then s
    else countPort (modPort s p (fun x => { x with lpi := true })) p 55 1)

/-- LPI_WAKE (R298). -/
def execLpiWake (p : Port) (s : State) : Out :=
  let x := s.port p
  whenPowered s (
    if x.lpi && (!x.ctrlFrames.isEmpty || (chooseFrame s x).isSome) then startNext (modPort s p (fun x => { x with lpi := false })) p else s)

/-- LINK_DOWN (R269): 1 PHY, 2 lane lock. -/
def execLinkDown (p : Port) (cause : Nat) (s : State) : Out := whenPowered s (linkDown s p cause)

/-- LINK_UP (R269, R300). -/
def execLinkUp (p : Port) (lmode : BitVec 2) (s : State) : Out := whenPowered s (linkUp s p lmode)

/-- PHY_POLL (R269): the PCS status's receive link bit takes the link down. -/
def execPhyPoll (p : Port) (pcs an : BitVec 16) (s : State) : Out :=
  let s' := modPort s p (fun x => { x with pcs := pcs, an := an })
  whenPowered s (if bit pcs 2 then s' else linkDown s' p 1)

/-- The load of a window in Mbit/s, rounded down: the larger direction's octets over the window in ms (R299). -/
def loadMbit (rx tx ms : Nat) : Nat := max rx tx * 8 / (1000 * ms)

/-- Load over the low rate compared in exact numbers: octets * 8 * 100 against per cent of the low rate in one window. -/
def overLoad (x : PortS) (rx tx ms percent : Nat) : Bool := decide (max rx tx * 8 * 100 > percent * rateMbit x.lowRate * 1000 * ms)

/-- The load is below `DNTHR` per cent of the low rate in this 1 s window. -/
def underLoad (x : PortS) : Bool := decide (max x.winRx x.winTx * 8 * 100 < bits (x.pw 0) 15 8 * rateMbit x.lowRate * 1000 * 1000)

/-- LOAD_WINDOW_1S (R300 rule 1): a window in part of which a port was not FULL restarts both counts. -/
def execLoadWindow1s (s : State) : Out :=
  let full := s.net.port0.step == .full && s.net.port1.step == .full && !s.net.notFull
  let one (s : State) (p : Port) : State :=
    let x := s.port p
    let o := s.port (otherPort p)
    let hold := if full && underLoad x then x.hold + 1 else 0
    let need := let h := bits (x.pw 0) 31 16; if h = 0 then 60 else h
    let s := modPort s p (fun x => { x with hold := min hold 65535, winRx := 0, winTx := 0 })
    if x.stepen && x.link && o.link && x.step == .full && o.step == .full && pairMode s != 0 && decide (hold ≥ need) then
      stepDown s p (loadMbit x.winRx x.winTx 1000) else s
  let close (s : State) : State := s.setNet { s.net with notFull := !(s.net.port0.step == .full && s.net.port1.step == .full) }
  whenPowered s (close (one (one s .np0) .np1))

/-- LOAD_WINDOW_1MS (R300 rule 3). -/
def execLoadWindow1ms (s : State) : Out :=
  let one (s : State) (p : Port) : State :=
    let x := s.port p
    let s := modPort s p (fun x => { x with msRx := 0, msTx := 0 })
    if x.step == .low && overLoad x x.msRx x.msTx 1 (bits (x.pw 0) 7 0) then stepUp s p 1 else s
  whenPowered s (one (one s .np0) .np1)

/-- LINK_WAIT_TIMEOUT (R300 rules 2 and 5). -/
def execLinkWaitTimeout (p : Port) (s : State) : Out :=
  let fail (s : State) (n : Nat) : State := recordT (countPort s p 59 1) 3 0x4105 (portNo p) n
  whenPowered s (
    match (s.port p).step with
    | .downstep => toUpstep (fail s 1) p
    | .upstep => negotiate (fail s 2) p (s.port p).adv
    | _ => s)

/-- DUPLICATE_ENTRY_FORGET (R278). -/
def execDuplicateEntryForget (src : BitVec 48) (seqNo : BitVec 16) (s : State) : Out :=
  whenPowered s (s.setNet { s.net with dups := s.net.dups.erase (src, seqNo) })

/-- A supervision frame of IEC 62439-3 (log entry 23): its own sequence number is a free value. -/
def supervisionBytes (s : State) (n : W64) : Bytes :=
  let mac := s.net.port0.mac
  beBytes 6 0x01154E000100 ++ beBytes 6 mac ++ beBytes 2 0x88FB ++ [0, 1] ++ beBytes 2 (bits n 15 0)
    ++ [if pairMode s = 2 then 23 else 20, 6] ++ beBytes 6 mac ++ [0, 0]

/-- SUPERVISION_SEND (R276): through transmit queue 130. -/
def execSupervisionSend (s : State) : Out :=
  let (n, t) := s.takeFree
  let bs := supervisionBytes s n
  let f : TxFrame := { src := 130, cls := 0, bytes := bs, id := 0 }
  whenPowered s (
    if pairMode s = 0 then s
    else
      let t := countNq (countNq t 130 5 1) 130 7 bs.length
      sendOn (modNq t 130 (fun x => { x with pendingTx := x.pendingTx + 1, txCells := x.txCells + cellsOf bs.length })) [.np0, .np1] f)

/-- PTP_MESSAGE_SEND (R318): one message on one port, in the class of its PCP. -/
def execPtpMessageSend (p : Port) (msg : Bytes) (s : State) : Out :=
  let f : TxFrame := { src := srcPtp, cls := BitVec.ofNat 3 (framePcp msg), bytes := msg, id := s.net.nextId }
  whenPowered s (
    if canSend (s.port p) f then modPort (s.setNet { s.net with nextId := s.net.nextId + 1 }) p (fun x => { x with copies := x.copies ++ [f] })
    else countPort s p 37 1)

end Sys2Proof.Machine
end

