-- ==== Sys2Proof/Machine/NetCmd.lean ====
section
/-! DEFINITION. The mailbox commands of ports, network queues, PHYs, Vellek and network time, and the events of the time unit and
the PPS pins (R267 to R337, R479). -/

namespace Sys2Proof.Machine

/-! ### Port records (R267, R268) -/

/-- Reserved fields of a port record. -/
def portClean (r : List W64) : Bool :=
  zeroBits (r.getD 2 0) 7 0 && r.getD 3 0 == 0 && bits (r.getD 0 0) 56 55 != 3 && bits (r.getD 0 0) 52 51 != 3

/-- Ranges of R267. -/
def portRanges (r : List W64) : Bool :=
  let w := r.getD 0 0
  let v := r.getD 1 0
  let lnk := bits v 47 32
  decide (1518 ≤ bits w 50 37 ∧ bits w 50 37 ≤ 9216) && decide (1 ≤ bits w 15 8 ∧ bits w 15 8 ≤ 99)
    && decide (bits w 15 8 < bits w 7 0 ∧ bits w 7 0 ≤ 100) && decide (1 ≤ bits v 63 48) && (lnk == 0 || decide (100 ≤ lnk ∧ lnk ≤ 10000))
    && decide (1 ≤ bits v 31 16 ∧ bits v 31 16 ≤ 32768) && decide (bits v 15 0 < bits v 31 16) && decide (1 ≤ bits (r.getD 2 0) 15 8)

/-- `ADV` of a record. -/
def advOf (r : List W64) : Nat := bits (r.getD 0 0) 60 57

/-- Rules of R268 for one record beside the other port's. -/
def portOk (r other : List W64) : Bool :=
  let w := r.getD 0 0
  let o := other.getD 0 0
  let adv := advOf r
  let several := adv != 1 && adv != 2 && adv != 4 && adv != 8
  adv.testBit (3 - bits w 62 61) && bits w 52 51 == bits o 52 51
    && (!bit w 53 || (bits w 52 51 != 0 && several)) && !(bit w 53 && bit o 53)

/-- The fields whose change renegotiates the link (R267). -/
def renegotiates (a b : List W64) : Bool :=
  let key (r : List W64) : Nat × Nat := (bits (r.getD 0 0) 63 55 * 2 ^ 16 + bits (r.getD 0 0) 52 51, bits (r.getD 0 0) 50 32 * 2 ^ 48 + bits (r.getD 2 0) 63 16)
  key a != key b

/-- Write a port record (R267, R300 rule 3): low-power idle ends at once when it is no longer allowed. -/
def writePort (s : State) (p : Port) (r : List W64) : State :=
  let x := s.port p
  let t := modPort s p (fun x => { x with record := r, hold := 0, lpi := x.lpi && bit (r.getD 0 0) 54 })
  if x.isolated then modPort t p (fun x => { x with rate := x.lmode })
  else if renegotiates x.record r then
    let t := if x.step = .low then stepUp t p 3 else linkDown t p 3
    let t := modPort t p (fun x => { x with rate := if x.step == .downstep then x.lowRate else x.lmode })
    let y := t.port p
    negotiate t p (if y.step = .downstep then BitVec.ofNat 4 (2 ^ (3 - y.rate.toNat)) else y.adv)
  else if x.step = .low && !bit (r.getD 0 0) 53 then stepUp t p 3
  else flowControl t p

/-- The port of a number. -/
def portOf (n : W32) : Port := if n = 0 then .np0 else .np1

/-- PORT_WRITE (R267, R268). -/
def execPortWrite (p : BitVec 7) (port : W32) (record : List W64) (s : State) : Out :=
  let q := portOf port
  serveIn 3 s p (Req.portWrite port record) (owner0 p) (checked s p
    [(record.length == 4, .badLength), (decide (port.toNat < 2), .outOfRange), (portClean record, .reservedSet), (portRanges record, .outOfRange),
      (portOk record (s.port (otherPort q)).record, .refused)]
    (acceptConfig s (writePort s q record) p (Req.portWrite port record)))

/-- PAIR_WRITE (R268); HSR while the servo follows PTP is refused, as `TSRC` 0b01 is under HSR (R317; log entry 81). -/
def execPairWrite (p : BitVec 7) (r0 r1 : List W64) (s : State) : Out :=
  serveIn 3 s p (Req.pairWrite r0 r1) (owner0 p) (checked s p
    [(r0.length == 4 && r1.length == 4, .badLength), (portClean r0 && portClean r1, .reservedSet), (portRanges r0 && portRanges r1, .outOfRange),
      (portOk r0 r1 && portOk r1 r0, .refused), (!(bits (r0.getD 0 0) 52 51 == 2 && timeSource s == 1), .refused)]
    (acceptConfig s (writePort (writePort s .np0 r0) .np1 r1) p (Req.pairWrite r0 r1)))

/-- Reserved fields of a filter entry (R282). -/
def nfilterClean (e : W64 × W64) : Bool :=
  let q := bits e.2 63 56
  zeroBits e.1 58 56 && zeroBits e.1 6 0 && zeroBits e.2 55 0 && bits e.1 60 59 != 3 && (decide (q < 128) || q == 131 || q == 255)

/-- NFILTER_WRITE (R282). -/
def execNfilterWrite (p : BitVec 7) (first : W32) (entries : List (W64 × W64)) (s : State) : Out :=
  serveIn 3 s p (Req.nfilterWrite first entries) (owner0 p) (checked s p
    [(decide (first.toNat + entries.length ≤ 512), .outOfRange), (entries.all nfilterClean, .reservedSet),
      (entries.all (fun e => decide (bits e.1 55 44 ≤ bits e.1 43 32)), .outOfRange)]
    (acceptConfig s (s.setNet { s.net with filters := putAll (0, 0) s.net.filters first.toNat entries }) p (Req.nfilterWrite first entries)))

/-! ### Queues (R284, R285, R304) -/

/-- The owner's fields of a queue record. -/
def ownerFields (r : List W64) : List Nat :=
  let w := r.getD 0 0
  [bits w 63 62, bits w 55 40, (r.getD 1 0).toNat, (r.getD 2 0).toNat, (r.getD 3 0).toNat]

/-- Partition 0's fields. -/
def zeroFields (r : List W64) : List Nat :=
  let w := r.getD 0 0
  [bits w 61 61, bits w 31 0, (r.getD 4 0).toNat, (r.getD 5 0).toNat, bits (r.getD 6 0) 63 46]

/-- Reserved fields of a queue record. -/
def queueClean (r : List W64) : Bool :=
  zeroBits (r.getD 0 0) 60 56 && zeroBits (r.getD 0 0) 39 32 && zeroBits (r.getD 6 0) 45 0 && r.getD 7 0 == 0

/-- Ranges of the owner's fields; with the rings in the packet buffer the addresses are ignored (R285). -/
def ownerRanges (s : State) (r : List W64) : Bool :=
  let w := r.getD 0 0
  let al (k n : Nat) : Bool := bit w 61 || !s.hr.pcie || (r.getD k 0).toNat % n == 0
  decide (6 ≤ bits w 55 52) && decide (6 ≤ bits w 51 48) && decide (1 ≤ bits w 47 40 ∧ bits w 47 40 ≤ 64) && al 1 64 && al 2 64 && al 3 16

/-- Ranges of partition 0's fields. -/
def zeroRanges (s : State) (q : Nat) (r : List W64) : Bool :=
  let w := r.getD 0 0
  let v := r.getD 6 0
  let al (k : Nat) : Bool := (r.getD k 0).toNat % 4096 == 0
  decide (1 ≤ bits w 31 16 ∧ bits w 31 16 ≤ 32768) && decide (1 ≤ bits w 15 0 ∧ bits w 15 0 ≤ 32768) && al 4 && al 5
    && (!bit v 63 || q == 0) && (pairMode s != 0 || bits v 47 46 == 1 || bits v 47 46 == 2)

/-- With `LOC` 0, both rings and the index block lie within the window (R285). -/
def ringsInside (s : State) (r : List W64) : Bool :=
  let x : NQueue := { record := r }
  bit (r.getD 0 0) 61 || !s.hr.pcie
    || (inWindow x (x.qw 1).toNat (16 * x.rxSize) && inWindow x (x.qw 2).toNat (16 * x.txSize) && inWindow x (x.qw 3).toNat 16)

/-- Packet-buffer cells that a queue record takes (R284). -/
def queueCells (s : State) (r : List W64) : Nat :=
  let x : NQueue := { record := r }
  let ring (log : Nat) : Nat := if log < 6 then 0 else 2 ^ log / 16
  x.rxq + x.txq + (if bit (r.getD 0 0) 61 || !s.hr.pcie then ring (bits (r.getD 0 0) 55 52) + ring (bits (r.getD 0 0) 51 48) else 0)

/-- Quotas and rings of all queues and of both forwarding queues stay within the pool (R284). -/
def poolFits (s : State) : Bool := decide (s.net.queues.foldl (fun n e => n + queueCells s e.2.record) 1024 ≤ 32768)

/-- QUEUE_WRITE (R284, R285): a partition writes its own queue's fields, partition 0 its fields of every queue. Enabling transmission
releases the frames that a window fault left pending (R293). -/
def execQueueWrite (p : BitVec 7) (q : W32) (record : List W64) (s : State) : Out :=
  let n := q.toNat
  let old := (s.nq n).record
  let mine := p.toNat == n
  let t := modNq s n (fun x => { x with record := record, stopped := x.stopped && !bit (record.getD 0 0) 62 })
  serveIn 3 s p (Req.queueWrite q record) true (checked s p
    [(record.length == 8, .badLength), (decide (n < 128), .outOfRange), (mine || owner0 p, .notFound), (queueClean record, .reservedSet),
      (mine || ownerFields record == ownerFields old, .refused), (owner0 p || zeroFields record == zeroFields old, .refused),
      (!mine || ownerRanges s record, .outOfRange), (!owner0 p || zeroRanges s n record, .outOfRange), (ringsInside s record, .refused),
      (poolFits t, .noSpace)]
    (acceptConfig s t p (Req.queueWrite q record)))

/-- QUEUE_COUNTERS (R304, R305): a partition reads its own queue's counters. -/
def execQueueCounters (p : BitVec 7) (q : W32) (s : State) : Out :=
  serveIn 3 s p (Req.queueCounters q) true (checked s p [(decide (q.toNat < 160), .outOfRange), (q.toNat == p.toNat, .notFound)]
    (answer s p ((List.range 12).flatMap (fun i => leBytes 8 (look 0 (s.nq q.toNat).counters i)))))

/-- FRAME_READ (R285): the oldest unreturned frame. -/
def execFrameRead (p : BitVec 7) (q : W32) (s : State) : Out :=
  let n := q.toNat
  serveIn 3 s p (Req.frameRead q) true (checked s p
    [(decide (n < 128), .outOfRange), (n == p.toNat, .notFound), (inBuffer s n, .refused), (!(s.nq n).frames.isEmpty, .notFound)]
    (match (s.nq n).frames with
     | f :: rest => answerObject (modNq s n (fun x => { x with frames := { f with read := true } :: rest })) p (leBytes 8 f.word.toNat) f.bytes
     | [] => s))

/-- FRAME_RETURN (R285): frees the oldest frame read. -/
def execFrameReturn (p : BitVec 7) (q : W32) (s : State) : Out :=
  let n := q.toNat
  let ready := match (s.nq n).frames with
    | f :: _ => f.read
    | [] => false
  serveIn 3 s p (Req.frameReturn q) true (checked s p
    [(decide (n < 128), .outOfRange), (n == p.toNat, .notFound), (inBuffer s n, .refused), (ready, .notFound)]
    (flowBoth (answer (modNq s n (fun x => { x with frames := x.frames.tail })) p)))

/-- FRAME_SEND (R285, R290, R291): a frame that does not fit the quota is turned away. -/
def execFrameSend (p : BitVec 7) (q pcp : W32) (data : Bytes) (s : State) : Out :=
  let n := q.toNat
  let s1 := relieve 64 s n data pcp.toNat
  serveIn 3 s p (Req.frameSend q pcp data) true (checked s p
    [(decide (n < 128), .outOfRange), (n == p.toNat, .notFound), (decide (pcp.toNat < 8), .outOfRange),
      (decide (1 ≤ data.length ∧ data.length ≤ 16384), .badLength), (inBuffer s n && (s.nq n).txen, .refused), (!(queuePorts s n).isEmpty, .conflict),
      (txFits s1 n data pcp.toNat, .noSpace)]
    (answer (scheduleFrame (countNq (countNq s1 n 5 1) n 7 data.length) n data pcp.toNat) p))

/-! ### PHY registers (R269) -/

/-- The registers that NR manages (R269). -/
def managedPhy (mmd reg : W32) : Bool :=
  [(1, 0), (3, 0), (7, 0), (7, 16), (7, 32), (7, 60)].contains (mmd.toNat, reg.toNat)

/-- A PHY register exists. -/
def phyOk (port mmd reg : W32) : Bool := decide (port.toNat < 2) && decide (mmd.toNat < 32) && decide (reg.toNat < 65536)

/-- PHY_READ (R269): what the PHY answers on MDIO. -/
def execPhyRead (p : BitVec 7) (port mmd reg : W32) (value : BitVec 16) (s : State) : Out :=
  serveIn 3 s p (Req.phyRead port mmd reg) (owner0 p) (checked s p [(phyOk port mmd reg, .outOfRange)]
    (answer (s.setNet { s.net with phy := put 0 s.net.phy (phyKey port.toNat mmd.toNat reg.toNat) value }) p (leBytes 4 value.toNat)))

/-- PHY_WRITE (R269). -/
def execPhyWrite (p : BitVec 7) (port mmd reg v : W32) (s : State) : Out :=
  serveIn 3 s p (Req.phyWrite port mmd reg v) (owner0 p) (checked s p
    [(phyOk port mmd reg && decide (v.toNat < 65536), .outOfRange), (!managedPhy mmd reg, .refused)]
    (answer (s.setNet { s.net with phy := put 0 s.net.phy (phyKey port.toNat mmd.toNat reg.toNat) (v.setWidth 16) }) p))

/-! ### Vellek records (R327, R332, R333) -/

/-- Bytes that must be zero. -/
def zeroBytes (bs : Bytes) : Bool := bs.all (fun b => b == 0)

/-- VELLEK_WRITE (R327). -/
def execVellekWrite (p : BitVec 7) (record : Bytes) (s : State) : Out :=
  let w := recWord record 0
  serveIn 3 s p (Req.vellekWrite record) (owner0 p) (checked s p
    [(record.length == 64, .badLength), (zeroBits w 46 32 && zeroBytes ((record.drop 8).take 4) && zeroBytes (record.drop 32), .reservedSet),
      (decide (1024 ≤ bits w 31 16), .outOfRange)]
    (acceptConfig s (s.setNet { s.net with vellek := record }) p (Req.vellekWrite record)))

/-- Reserved fields of a station record. -/
def vstClean (x : VStation) : Bool :=
  zeroBits (x.vw 0) 58 56 && zeroBits (x.vw 1) 63 48 && zeroBits (x.vw 3) 23 0 && zeroBytes (x.record.drop 48)
    && (x.ip6 || zeroBytes (x.sip.take 12))

/-- Ranges of a station record (R332, R333). -/
def vstRanges (s : State) (x : VStation) : Bool :=
  let ic := bits (x.vw 0) 47 24
  let oc := bits (x.vw 1) 47 24
  let w := x.vw 3
  decide (1 ≤ x.limit) && decide (5 ≤ ic) && decide (bits (x.vw 0) 23 0 < ic) && (if oc = 0 then bits (x.vw 1) 23 0 == 0 else decide (5 ≤ oc ∧ bits (x.vw 1) 23 0 < oc))
    && decide (bits w 50 44 ≤ 64) && decide (bits w 30 24 ≤ 64) && decide (bits w 63 51 + bits w 50 44 ≤ 8192) && decide (bits w 43 31 + bits w 30 24 ≤ 8192)
    && (pairMode s != 0 || bits (x.vw 0) 61 60 == 1 || bits (x.vw 0) 61 60 == 2)

/-- Points of a block belong to the station, with the direction and types of R333. -/
def blockOk (s : State) (st : Nat) (output : Bool) (b : Nat × Nat) : Bool :=
  decide (b.1 + b.2 ≤ 2 ^ 20) && (blockPoints b).all (fun i =>
    let m := modeOf s.image i
    let ty := typeOf s.image i
    stationOf s.image i == vNumber st && (if output then isOutput m else isInput m) && (ty == tyBool || ty == tyInt || ty == tyUint || ty == tyReal))

/-- Bytes of a station's output frame before trailer and MACsec. -/
def outFrameBytes (s : State) (x : VStation) : Nat :=
  14 + (if bit (vWord s 0) 62 then 4 else 0) + (if x.ip6 then 40 else 20) + 24 + (outBlocks s x).foldl (fun n b => n + 8 + 4 * b.2) 0

/-- The checks of R333 on a valid station. -/
def vstOk (s : State) (st : Nat) (x : VStation) : Bool :=
  (inBlocks s x).all (blockOk s st false) && (outBlocks s x).all (blockOk s st true)
    && (if x.ip6 then beNat (v6Addr s) != 0 else beNat (v4Addr s) != 0)
    && (stationPorts s x).all (fun p =>
      decide (wireBytes s p { src := srcVellek st, cls := 0, bytes := List.replicate (outFrameBytes s x) 0, id := 0 } ≤ (s.port p).maxlen))

/-- A station starts WAITING, or leaves supervision; a held frame counts as overwritten and a waiting frame as discarded. -/
def resetVst (s : State) (st : Nat) (record : Bytes) : State :=
  let x := s.vst st
  let s := removeWaiting s st 11
  let s := if x.holding then countVst s st 6 1 else s
  let s := modVst s st (fun x => { x with record := record, heard := false, missed := 0, held := [], holding := false, heldOver := 0 })
  modVst s st (fun x => { x with state := if x.valid then .waiting else .unconfigured })

/-- VSTATION_WRITE (R332, R333). -/
def execVstationWrite (p : BitVec 7) (st : W32) (record : Bytes) (s : State) : Out :=
  let n := st.toNat
  let x : VStation := { record := record }
  serveIn 3 s p (Req.vstationWrite st record) (owner0 p) (checked s p
    [(record.length == 64, .badLength), (decide (n < 4096), .outOfRange), (vstClean x, .reservedSet), (vstRanges s x, .outOfRange), (vstOk s n x, .refused)]
    (acceptConfig s (resetVst s n record) p (Req.vstationWrite st record)))

/-- A valid entry of the block table on its own, whether or not a station names it (R333): its points exist, belong to one network
station, and have its direction and a type that a block carries. -/
def entryOk (s : State) (w : W64) : Bool :=
  let st := stationOf s.image (bits w 51 32)
  !bit w 63 || (decide (0x1000 ≤ st ∧ st < 0x2000) && blockOk s (st - 0x1000) (bit w 62) (bits w 51 32, bits w 15 0))

/-- Valid blocks of the table. -/
def allBlocks (s : State) : List (Nat × Nat) :=
  s.net.vblocks.filterMap (fun e => if bit e.2 63 then some (bits e.2 51 32, bits e.2 15 0) else none)

/-- Two valid blocks overlap (R333). -/
def disjointBlocks : List (Nat × Nat) → Bool
  | [] => true
  | b :: bs => bs.all (fun c => decide (b.1 + b.2 ≤ c.1 ∨ c.1 + c.2 ≤ b.1)) && disjointBlocks bs

/-- A valid block covers point i, so that its `MODE`, `TYPE` and `STATION` stay (R333). -/
def blockCovers (s : State) (i : Nat) : Bool := (allBlocks s).any (fun b => decide (b.1 ≤ i ∧ i < b.1 + b.2))

/-- VBLOCK_WRITE (R333). -/
def execVblockWrite (p : BitVec 7) (first : W32) (entries : List W64) (s : State) : Out :=
  let t := s.setNet { s.net with vblocks := putAll 0 s.net.vblocks first.toNat entries }
  serveIn 3 s p (Req.vblockWrite first entries) (owner0 p) (checked s p
    [(decide (first.toNat + entries.length ≤ 8192), .outOfRange), (entries.all (fun w => zeroBits w 61 52 && zeroBits w 31 16), .reservedSet),
      (entries.all (fun w => decide (1 ≤ bits w 15 0 ∧ bits w 15 0 ≤ 2048)), .outOfRange), (entries.all (entryOk s), .refused), (disjointBlocks (allBlocks t), .refused),
      (t.net.vstations.all (fun e => !e.2.valid || vstOk t e.1 e.2), .refused)]
    (acceptConfig s t p (Req.vblockWrite first entries)))

/-- VSTATION_COUNTERS (R337). -/
def execVstationCounters (p : BitVec 7) (st : W32) (s : State) : Out :=
  serveIn 3 s p (Req.vstationCounters st) (owner0 p) (checked s p [(decide (st.toNat < 4096), .outOfRange)]
    (answer s p ((List.range 15).flatMap (fun i => leBytes 4 (look 0 (s.vst st.toNat).counters i)))))

/-! ### Network time (R309 to R321) -/

/-- TIME_WRITE (R312, R317): a change of `TSRC` leaves FREE, or starts acquiring. -/
def execTimeWrite (p : BitVec 7) (r0 r1 : W64) (s : State) : Out :=
  let src := bits r0 63 62
  let off : Int := (BitVec.ofNat 32 (bits r0 31 0)).toInt
  let t := s.setTime { s.time with rec0 := r0, rec1 := r1, ppsOut := s.time.ppsOut && bit r0 61 }
  let u := if src = timeSource s then t else setTstate (t.setTime { t.time with lockRun := 0 }) (if src = 0 then 0 else 1)
  serveIn 3 s p (Req.timeWrite r0 r1) (owner0 p) (checked s p
    [(zeroBits r0 51 32 && zeroBits r1 31 0 && src != 3, .reservedSet),
      (decide (1 ≤ bits r0 60 52 ∧ bits r0 60 52 ≤ 500) && decide (-500000000 ≤ off ∧ off ≤ 499999999) && decide (bits r1 63 32 ≤ 1000000), .outOfRange),
      (!(src == 1 && pairMode s == 2), .refused)]
    (acceptConfig s (trialLock u) p (Req.timeWrite r0 r1)))

/-- DTIME is stepped (R311), and the firmware records it with its source (R313). -/
def stepTime (s : State) (v : W64) (source : Nat) : State :=
  let ms := Int.tdiv ((v.toNat : Int) - s.time.dtime.toNat) 1000000
  let sat := max (-2 ^ 31) (min (2 ^ 31 - 1) ms)
  record (s.setTime { s.time with dtime := v, frac := 0, stepped := true }) (erNum s.pair.active) 0x4301 (BitVec.ofNat 32 source)
    (BitVec.ofInt 32 sat) (BitVec.ofNat 32 (v.toNat / 2 ^ 32))

/-- The source of the step, the first that is available (R313): 1 a PTP offset from a selected master, 2 a PPS_IN edge, 3 AR's
real-time counter alone; with the DTIME that it gives. -/
def stepSource (s : State) : Nat × W64 :=
  match s.time.offset, s.time.ppsLast with
  | some d, _ => (1, BitVec.ofInt 64 ((s.time.dtime.toNat : Int) - d))
  | none, some l =>
    let since := s.time.dtime.toNat - l.toNat
    let second := (s.dev.rtc.toNat - since + 500000000) / 1000000000
    (2, BitVec.ofNat 64 (second * 1000000000 + since))
  | none, none => (3, s.dev.rtc)

/-- A write of TU_STEP by the ACTIVE region (R311, R313): one, in START, before the first token. -/
def writeStep (s : State) (v : W64) : State :=
  if s.dev.dstate = .start ∧ !s.time.stepped then stepTime s v (stepSource s).1
  else recordT s (erNum s.pair.active) 0x4302 (erNum s.pair.active) 0

/-- A write of a time unit register by the ACTIVE region (R309; log entry 30 for the offsets). -/
def writeTimeUnit (s : State) (off : Nat) (v : W64) : State :=
  if off = 0 then s.setTime { s.time with rate := BitVec.ofNat 32 (bits v 63 32), slewMax := BitVec.ofNat 27 (bits v 26 0) }
  else if off = 8 then s.setTime { s.time with slewRem := (BitVec.ofNat 48 (bits v 47 0)).toInt * 2 ^ 40 }
  else if off = 0x10 then writeStep s v
  else if off = 0x18 then setTstate s (bits v 63 62)
  else s

/-- TU_STEP_WRITE (R311): a write from elsewhere is discarded (R309). -/
def execTuStepWrite (v : W64) (fromActive : Bool) (s : State) : Out :=
  whenPowered s (if fromActive then writeStep s v else s)

/-- DTIME of the next second plus `PPSOFF` (R320). -/
def Time.nextRise (t : Time) : Nat := t.dtime.toNat + (1000000000 - t.ppsPhase)

/-- DTIME `PPSW` ms after the last rise (R320). -/
def Time.nextFall (t : Time) : Nat := t.dtime.toNat + (t.ppsWidth - t.ppsPhase)

/-- Set the level of PPS_OUT. -/
def drivePps (s : State) (v : Bool) : State := s.setTime { s.time with ppsOut := v }

/-- PPS_OUT_RISE (R320): while `PPSEN` is set and the pin is low, DTIME reaches the next second plus `PPSOFF`. -/
def execPpsOutRise (s : State) : Out :=
  whenPowered s (if bit s.time.rec0 61 && !s.time.ppsOut then drivePps (advanceTo s s.time.nextRise) true else s)

/-- PPS_OUT_FALL (R320): while the pin is high, `PPSW` ms pass since its rise. -/
def execPpsOutFall (s : State) : Out :=
  whenPowered s (if s.time.ppsOut then drivePps (advanceTo s s.time.nextFall) false else s)

/-- PPS_IN_EDGE (R312, R321): the edge marks a second. -/
def execPpsInEdge (s : State) : Out :=
  let now := s.time.dtime.toNat
  let fifo := (if s.time.ppsFifo.length ≥ 16 then s.time.ppsFifo.tail else s.time.ppsFifo) ++ [s.time.dtime]
  let good := (s.time.ppsLast.map (fun l => decide (999000000 ≤ now - l.toNat ∧ now - l.toNat ≤ 1001000000))).getD false
  let t := s.setTime { s.time with ppsFifo := fifo, ppsLast := some s.time.dtime }
  let r : Nat := now % 1000000000
  let offset : Int := if r < 500000000 then r else (r : Int) - 1000000000
  whenPowered s (
    if timeSource s ≠ 2 then t
    else if good then servoMeasure t 255 offset
    else t.setTime { t.time with ppsInvalid := satInc t.time.ppsInvalid })

/-- TIME_SOURCE_LOST (R312). -/
def execTimeSourceLost (s : State) : Out := whenPowered s (if timeSource s = 0 then s else sourceLost (s.setTime { s.time with srcPort := none }))

/-- A portDS with the port's own portState in its place (R314, R319). -/
def livePort (x : PortS) : Bytes := patchBytes x.portDs 10 [BitVec.ofNat 8 x.ptp.code]

/-- A dataset of PTP_READ and PTP_WRITE (R314, R479). -/
def ptpData (s : State) (ds : Nat) : Bytes :=
  match ds with
  | 0 => s.net.defaultDs
  | 1 => s.net.timeDs
  | 2 => livePort s.net.port0
  | _ => livePort s.net.port1

/-- Bytes of a dataset in the encoding of IEEE 1588-2019 (PRESUMED, log entry 20). -/
def ptpLength (ds : Nat) : Nat :=
  match ds with
  | 0 => 20
  | 1 => 4
  | _ => 26

/-- The options of R314: the domain, and the intervals of a port and its delay mechanism, delay request-response or peer-to-peer (1 or
2). Nothing in the datasets says which profile or transport runs, so domains 0 to 127 are taken (log entry 20). -/
def ptpOk (ds : Nat) (d : Bytes) : Bool :=
  let iv (k : Nat) (lo hi : Int) : Bool := decide (lo ≤ (d.getD k 0).toInt ∧ (d.getD k 0).toInt ≤ hi)
  match ds with
  | 0 => decide ((d.getD 18 0).toNat ≤ 127)
  | 1 => true
  | _ => ((d.getD 23 0) == 1 || (d.getD 23 0) == 2) && iv 11 (-4) 4 && iv 20 0 3 && iv 22 (-4) 1 && iv 24 (-4) 4

/-- PTP_READ (R314). -/
def execPtpRead (p : BitVec 7) (ds : W32) (s : State) : Out :=
  serveIn 3 s p (Req.ptpRead ds) (owner0 p) (checked s p [(decide (ds.toNat < 4), .outOfRange)] (answer s p (fitBytes (ptpLength ds.toNat) (ptpData s ds.toNat))))

/-- PTP_WRITE (R314). -/
def execPtpWrite (p : BitVec 7) (ds : W32) (data : Bytes) (s : State) : Out :=
  let t := match ds.toNat with
    | 0 => s.setNet { s.net with defaultDs := data }
    | 1 => s.setNet { s.net with timeDs := data }
    | 2 => modPort s .np0 (fun x => { x with portDs := data })
    | _ => modPort s .np1 (fun x => { x with portDs := data })
  serveIn 3 s p (Req.ptpWrite ds data) (owner0 p) (checked s p
    [(decide (ds.toNat < 4), .outOfRange), (data.length == ptpLength ds.toNat, .badLength), (ptpOk ds.toNat data, .outOfRange)]
    (acceptConfig s t p (Req.ptpWrite ds data)))

/-- LATENCY_WRITE (R314). -/
def execLatencyWrite (p : BitVec 7) (port lmode ingress egress : W32) (s : State) : Out :=
  let t := modPort s (portOf port) (fun x => { x with latency := put (0, 0) x.latency lmode.toNat (ingress, egress) })
  serveIn 3 s p (Req.latencyWrite port lmode ingress egress) (owner0 p) (checked s p [(decide (port.toNat < 2) && decide (lmode.toNat < 4), .outOfRange)]
    (acceptConfig s t p (Req.latencyWrite port lmode ingress egress)))

end Sys2Proof.Machine
end

