-- ==== Sys2Proof/Machine/Security.lean ====
section
/-! DEFINITION. SR (R403 to R435) and MACsec's keys (R322 to R325): the key hierarchy, key slots, the key update message and its
journal, sealing, attestation, entropy, self-tests and the response to tamper. -/

namespace Sys2Proof.Machine

/-! ### Keys (R409 to R414) -/

/-- Change SR. -/
def modSec (s : State) (f : Sr → Sr) : State := s.setSec (f s.sec)

/-- The ASCII bytes of a label. -/
def label (l : String) : Bytes := l.toList.map (fun c => BitVec.ofNat 8 c.toNat)

/-- Seeds of the identity signing key. -/
def idSignSeeds : Bytes := Config.kmac256 Config.deviceSecret (label "OZ1 ID SIGN") 96
/-- Seeds of the identity KEM key. -/
def idKemSeeds : Bytes := Config.kmac256 Config.deviceSecret (label "OZ1 ID KEM") 64
/-- The identity public key. -/
def idPublic : Bytes := Config.slhPublic idSignSeeds
/-- The device ID (R411). -/
def deviceId : Bytes := Config.shake256 idPublic 32

/-- The sealing key of a partition (R414): M, and the value of the named slot or 32 zero bytes. -/
def sealKey (m : Bytes) (p : BitVec 7) (k : Bytes) : Bytes :=
  Config.kmac256 Config.deviceSecret (label "OZ1 SEAL" ++ m ++ [BitVec.ofNat 8 p.toNat] ++ k) 32

/-- The slot store key (R414, R417). -/
def storeKeyOf (m2 : Bytes) : Bytes := Config.kmac256 Config.deviceSecret (label "OZ1 STORE" ++ m2) 32
/-- The key journal key (R414, R424). -/
def journalKeyOf (m2 : Bytes) : Bytes := Config.kmac256 Config.deviceSecret (label "OZ1 JOURNAL" ++ m2) 32

/-! ### Slots (R415 to R417) -/

/-- A key slot as SR can use it: none is full while the slot store is not decrypted (R408, R417). -/
def State.kslot (s : State) (n : Nat) : KSlot := if s.sec.shut then {} else look {} s.sec.slots n

/-- Write a key slot. -/
def setKslot (s : State) (n : Nat) (v : KSlot) : State := modSec s (fun x => { x with slots := put {} x.slots n v })

/-- Engines of `USAGE`: 0 MACSEC, 1 SEAL, 2 ATTEST, 3 PMAC, 4 TRANSPORT. -/
def usable416 (k : KSlot) (engine : Nat) (owner : BitVec 7) : Bool := k.full && bit k.usage engine && k.owner == owner

/-- A slot's record (R415). -/
def slotRecord (s : State) (n : Nat) : Bytes :=
  let k := s.kslot n
  leBytes 8 (k.full.toNat * 2 ^ 63 + k.owner.toNat * 2 ^ 56 + n * 2 ^ 48 + k.usage.toNat * 2 ^ 32 + k.gen.toNat)
    ++ (if k.full then (Config.kmac256 k.value (label "OZ1 KCV") 32).take 8 else List.replicate 8 0)

/-- A slot's value, or 32 zero bytes. -/
def slotValue (s : State) (n : Option Nat) : Bytes :=
  match n with
  | some n => (s.kslot n).value
  | none => List.replicate 32 0

/-- An authority of the table (R418): 1 root, 2 owner, 3 the partition's. -/
def authority (s : State) (kind : Nat) (part : Nat) : Auth :=
  match kind with
  | 1 => s.sec.root
  | 2 => s.sec.owner
  | _ => look {} s.sec.parts part

/-- Write an authority. -/
def setAuthority (s : State) (kind part : Nat) (v : Auth) : State :=
  match kind with
  | 1 => modSec s (fun x => { x with root := v })
  | 2 => modSec s (fun x => { x with owner := v })
  | _ => modSec s (fun x => { x with parts := put {} x.parts part v })

/-! ### Secret-using functions and tamper (R408, R430 to R433) -/

/-- Known-answer test n + 1 of R406 has failed, so that its algorithm is off. -/
def algOff (s : State) (n : Nat) : Bool := bit s.sec.kat n

/-- The port follows the locked policy while secret-using functions are off (R431). -/
def portPolicy (s : State) (p : Port) : State :=
  if !bit (s.port p).macsec 0 then s
  else if s.sec.secretsOn then modPort s p (fun x => { x with unprotected := false })
  else
    let s := modPort s p (fun x => { x with sas := [], sak := [], ick := [], kek := [], exhausted := true, unprotected := s.sec.policy })
    purgePort s p

/-- Secret-using functions are off (R26, R431), which raises source 623 (R434). -/
def endSecrets (s : State) : State :=
  let s := raise s 623
  syncDev (portPolicy (portPolicy (modSec s (fun x => { x with secretsOn := false, secOff := true })) .np0) .np1)

/-- Secret-using functions are turned off (R430, R432): 1 T1 at start, 2 T2, 3 BBK lost, 4 known-answer test. -/
def secretsOff (s : State) (cause : Nat) : State := endSecrets (recordT s 5 0x6105 cause 0)

/-- The command code of R404 that a mailbox command asks for, if it uses secrets. -/
def secretCommand (cmd : Nat) : Option Nat :=
  if cmd = 0x0A01 then some 1 else if cmd = 0x0A02 then some 3 else if cmd = 0x0A03 then some 4
  else if cmd = 0x0A04 ∨ cmd = 0x0A05 then some 5 else if cmd = 0x0A06 then some 6 else none

/-- Running secret-using commands end with TAMPER_ABORT; a key update past its journal's valid mark is held (R430). -/
def abortRunning (s : State) : State :=
  s.hr.pages.foldl (fun s e =>
    let p : BitVec 7 := BitVec.ofNat 7 e.1
    match secretCommand (bits e.2.req 31 16) with
    | some c => if e.2.busy && s.sec.heldPage != some p then turnAway (recordT s 5 0x6104 c e.1) p .tamperAbort else s
    | none => s) s

/-- SR restarts, and a command that it runs ends without its result (R26, R425): the page that waits for it is refused as for any region
that does not run (log entry 61). -/
def dropRunning (s : State) : State :=
  let held := s.sec.heldPage
  s.hr.pages.foldl (fun s e =>
    let p : BitVec 7 := BitVec.ofNat 7 e.1
    let x := e.2
    if x.busy && !s.hr.doorbells.contains p && x.object.isNone && ((secretCommand (bits x.req 31 16)).isSome || held == some p) then turnAway s p .unavailable
    else s) (modSec s (fun x => { x with heldPage := none }))

/-- Every key slot is empty (R430, R432). -/
def emptySlots (x : Sr) : Sr := { x with slots := x.slots.map (fun e => (e.1, { e.2 with full := false, usage := 0, value := [] })) }

/-- A T2 event (R430): BBK, key cells and MACsec key cells are zeroised; a key update that was held aborts like any other command. -/
def tamperT2 (s : State) (sensor : Nat) : State :=
  let s := abortRunning (modSec s (fun x => { x with heldPage := none }))
  let s := raise (recordT (modSec s (fun x => emptySlots { x with bbk := false, t2 := true, secret := false, storeKey := [], journalKey := [] })) 5 0x6102 sensor s.dev.dstate.code) 618
  let erase (s : State) (p : Port) : State := if (s.port p).sas.isEmpty then s else recordT s 5 0x4403 (portNo p) 2
  let s := erase (erase s .np0) .np1
  let clear (s : State) (p : Port) : State := modPort s p (fun x => { x with sas := [], sak := [], ick := [], kek := [] })
  secretsOff (clear (clear s .np0) .np1) 2

/-- Seconds of AON time (R361). -/
def aonSeconds (s : State) : W32 := BitVec.ofNat 32 (s.dev.rtc.toNat / 10 ^ 9)

/-- A T1 event (R429, R430): the ninth within one second of AON time is a T2 event. After the latch read of step 2 it keeps step 3 from
using a secret until the condition ends. -/
def tamperT1 (s : State) (sensor : Nat) : State :=
  let now := s.dev.rtc.toNat
  let recent := s.sec.t1Times.filter (fun t => decide (now < t + 10 ^ 9)) ++ [now]
  let s := modSec s (fun x => { x with t1 := true, t1Latched := true, t1Count := satInc x.t1Count, t1Times := recent })
  let s := if s.dev.dstate = .start ∧ s.dev.startStep = 2 then s.setDev { s.dev with waitT1 := true } else s
  let s := abortRunning (raise (recordT s 5 0x6101 sensor s.dev.dstate.code) 616)
  if recent.length ≥ 9 then tamperT2 s 4 else s

/-- TAMPER_T1 (R430): rows 1 to 3 of R429 are of class T1; in OFF and DORMANT it is not sensed. -/
def execTamperT1 (sensor : Nat) (s : State) : Out := whenPowered s (if 1 ≤ sensor ∧ sensor ≤ 3 then tamperT1 s sensor else s)

/-- TAMPER_T2 (R429, R430): rows 4 to 6 of R429 are of class T2; the external loop counts under `LOOPEN`. -/
def execTamperT2 (sensor : Nat) (s : State) : Out :=
  whenPowered s (if sensor < 4 ∨ 6 < sensor ∨ (sensor = 6 ∧ s.sec.loopEn = false) then s else tamperT2 s sensor)

/-- The cells that one check of the mesh and the loop in DORMANT logs (R430): sensor rows 5 and 6 of R429. -/
def dormantCells (s : State) (meshOk loopOk : Bool) : List TamperCell :=
  let cell (n : Nat) : TamperCell := { cls := 2, sensor := n, aonTime := aonSeconds s }
  (if meshOk then [] else [cell 5]) ++ (if loopOk || !s.sec.loopEn then [] else [cell 6])

/-- DORMANT_CHECK (R430): the AR zeroises the BBK by itself and logs each event in its four cells. -/
def execDormantCheck (meshOk loopOk : Bool) (s : State) : Out :=
  let cells := dormantCells s meshOk loopOk
  .next (
    if s.dev.dstate ≠ .dormant ∨ cells = [] then s
    else modSec s (fun x => { x with bbk := false, tamperLog := x.tamperLog ++ cells.take (4 - x.tamperLog.length) }))

/-! ### Entropy (R407) -/

/-- The DRBG generates n bytes. -/
def generate (s : State) (n : Nat) : Bytes × State :=
  let r := s.sec.drbgReqs + 1
  (Config.drbg s.sec.drbgIdx n, modSec s (fun x => { x with drbgIdx := x.drbgIdx + 1, drbgReqs := if r ≥ 2 ^ 20 then 0 else r }))

/-- ENTROPY_FAILURE (R407). -/
def entropyFails (s : State) (kind : Nat) : State :=
  critFails (raise (recordT (modSec s (fun x => { x with drbgOn := false })) 5 0x6301 kind 0) 621) 5

/-- ENTROPY_FAILURE (R407): 1 repetition count, 2 adaptive proportion, 3 start-up. -/
def execEntropyFailure (kind : Nat) (s : State) : Out := whenPowered s (entropyFails s kind)

/-- The DRBG is instantiated or reseeded. -/
def reseed (s : State) : State := modSec s (fun x => { x with drbgOn := !bit x.kat 7, drbgReqs := 0, drbgIdx := x.drbgIdx + 1 })

/-- ENTROPY_RETEST (R407): a full start-up test. -/
def execEntropyRetest (pass : Bool) (s : State) : Out :=
  whenPowered s (if s.sec.drbgOn then s else if pass then reseed s else entropyFails s 3)

/-- DRBG_RESEED (R407). -/
def execDrbgReseed (s : State) : Out := whenPowered s (if s.sec.drbgOn then reseed s else s)

/-! ### Serving SR's commands (R404, R405, R426, R430) -/

/-- A command that SR serves without a secret. -/
def serveSr (s : State) (p : BitVec 7) (q : Request) (allowed : Bool) (t : State) : Out :=
  serveIn 5 s p q allowed (if s.sec.running then t else turnAway s p .unavailable)

/-- A secret-using command with code c of R404 that needs the algorithms `algs` (rows of R406 from 0). -/
def serveSecret (s : State) (p : BitVec 7) (q : Request) (c : Nat) (algs : List Nat) (t : State) : Out :=
  serveSr s p q true (
    if !s.sec.secretsOn || algs.any (algOff s) then turnAway s p .secretsOff
    else if s.sec.t1 then turnAway (recordT s 5 0x6104 c p.toNat) p .tamperAbort
    else t)

/-- The manufacture certificate, 29,984 bytes (R479). -/
def certificate : Bytes :=
  leBytes 4 0x43455254 ++ leBytes 2 1 ++ leBytes 2 0 ++ fitBytes 32 deviceId ++ fitBytes 64 idPublic
    ++ fitBytes 32 (Config.shake256 (Config.mlkemPublic idKemSeeds) 32) ++ leBytes 8 Config.serialNumber.toNat ++ List.replicate 48 0
    ++ fitBytes 29792 Config.certificateSignature

/-- IDENTITY (R404, R409 to R411). -/
def execIdentity (p : BitVec 7) (s : State) : Out :=
  let own : List W64 := if p = 0 then
      s.sec.root.counter :: s.sec.owner.counter :: (List.range 127).map (fun i => (authority s 3 (i + 1)).counter)
    else [(authority s 3 p.toNat).counter]
  serveSecret s p Req.identity 1 [0, 1, 5, 6] (answerObject s p [] (deviceId ++ fitBytes 64 idPublic ++ fitBytes 1568 (Config.mlkemPublic idKemSeeds)
    ++ wordBytes own ++ certificate))

/-- RANDOM (R404, R407). -/
def execRandom (p : BitVec 7) (len : W32) (s : State) : Out :=
  let (bs, t) := generate s len.toNat
  serveSr s p (Req.random len) true (checked s p [(decide (1 ≤ len.toNat ∧ len.toNat ≤ 256), .outOfRange), (s.sec.drbgOn, .refused)] (answer t p bs))

/-- SLOT_INFO (R415): a tenant sees its own slots only; the check values need KMAC256, so its failed test turns the command off
(R408). -/
def execSlotInfo (p : BitVec 7) (first count : W32) (s : State) : Out :=
  let ns := (List.range count.toNat).map (fun k => first.toNat + k)
  serveSr s p (Req.slotInfo first count) true (checked s p [(decide (first.toNat + count.toNat ≤ 256), .outOfRange), (!algOff s 5 && !s.sec.shut, .secretsOff)]
    (answerObject s p [] ((ns.filter (fun n => p == 0 || (s.kslot n).owner == p)).flatMap (slotRecord s))))

/-- SR firmware is on trial (R450). -/
def srOnTrial (s : State) : Bool := (s.img.update.map (fun u => u.sr && u.onTrial)).getD false

/-- An update of SR firmware runs, so that key updates are refused (R426, R454). -/
def srUpdating (s : State) : Bool := (s.img.update.map (fun u => u.sr)).getD false

/-- SR_STATUS (R479). -/
def execSrStatus (p : BitVec 7) (s : State) : Out :=
  let x := s.sec
  serveSr s p Req.srStatus (owner0 p) (answer s p (leBytes 4
    (x.secretsOn.toNat * 2 ^ 31 + x.drbgOn.toNat * 2 ^ 30 + (srOnTrial s).toNat * 2 ^ 29 + x.t1Count.toNat)))

/-- Known-answer tests that failed, bit n for row n + 1 of R406 (R408): 1 start-up, 2 command. -/
def katFailures (s : State) (failed : Nat) (when_ : Nat) : State :=
  let rows := (List.range 8).filter (fun n => failed.testBit n)
  let s := rows.foldl (fun s n => raise (recordT s 5 0x6302 (n + 1) when_) 622) s
  let s := modSec s (fun x => { x with kat := x.kat ||| BitVec.ofNat 32 (failed % 256), drbgOn := x.drbgOn && !failed.testBit 7 })
  let s := if rows.isEmpty then s else critFails s 5
  if rows.contains 0 || rows.contains 6 then haltDevice s
  else if rows.any (fun n => n != 7) then raise (recordT s 5 0x6105 4 0) 623
  else s

/-- SELFTEST (R408): the tests of the algorithms that are defective fail, and those that the operand names (log entry 32). -/
def execSelftest (p : BitVec 7) (failed : W32) (s : State) : Out :=
  let n := (failed ||| s.sec.defects).toNat % 256
  serveSr s p Req.selftest (owner0 p) (let t := answer s p (leBytes 4 n)
    if n = 0 then t else katFailures t n 2)

/-- The public keys that SR stores (R404, R418): of the root, the owner and the partitions. -/
def storedKeys (s : State) : List Bytes := ([s.sec.root, s.sec.owner] ++ s.sec.parts.map Prod.snd).map Auth.key

/-- SR_VERIFY (R404): what SR answers the firmware; a key that SR does not store verifies nothing. -/
def execSrVerify (key msg sig : Bytes) (s : State) : Out :=
  let ok := key ≠ [] ∧ key ∈ storedKeys s ∧ Config.slhVerify key msg sig = true
  whenPowered s (if s.sec.running && !algOff s 0 then modSec s (fun x => { x with reply := [if ok then 1 else 0] }) else s)

/-! ### Sealing, PMAC and attestation (R427, R428) -/

/-- The slot of a request: 0xFF for none. -/
def slotArg (n : W32) : Option Nat := if n = 0xFF then none else some n.toNat

/-- The 32-byte header of a blob (log entry 25): five words of 4 bytes, then zeros. -/
def sealHeader (p : BitVec 7) (slot : W32) (len sel : Nat) : Bytes :=
  leBytes 4 0x5345414C ++ leBytes 4 p.toNat ++ leBytes 4 slot.toNat ++ leBytes 4 len ++ leBytes 4 sel ++ List.replicate 12 0

/-- A blob that SEAL has made goes into the sealed area while its 4 MiB half has room: into the half of the current copies, and from the
start of an update until the cold start that ends it into both (R441, R454, R456; log entry 61). -/
def keepBlob (s : State) (blob : Bytes) : State :=
  let add (l : List Bytes) : List Bytes := if (l.map List.length).sum + blob.length ≤ 2 ^ 22 then l ++ [blob] else l
  let g := s.img
  let both := g.update.isSome || g.complete.isSome
  s.setImg { g with
    sealed0 := if !g.half1 || both then add g.sealed0 else g.sealed0
    sealed1 := if g.half1 || both then add g.sealed1 else g.sealed1 }

/-- SEAL (R427). -/
def execSeal (p : BitVec 7) (slot sel : W32) (data : Bytes) (s : State) : Out :=
  let k := slotArg slot
  let m := if sel = 0 then some s.sec.mordant else s.sec.announce
  let (nonce, t) := generate s 12
  let h := sealHeader p slot data.length sel.toNat
  let (c, tag) := Config.gcmSeal (sealKey (m.getD []) p (slotValue s k)) nonce h data
  serveSecret s p (Req.seal slot sel data) 5 [2, 5] (checked s p
    [(decide (data.length ≤ 65536), .badLength), (decide (slot.toNat < 256) && decide (sel.toNat < 2), .outOfRange),
      ((k.map (fun n => usable416 (s.kslot n) 1 p)).getD true, .refused), (m.isSome && s.sec.drbgOn, .refused)]
    (let blob := h ++ nonce ++ c ++ tag; answerObject (keepBlob t blob) p [] blob))

/-- UNSEAL (R427): only the partition that sealed, the current M and a correct tag. -/
def execUnseal (p : BitVec 7) (blob : Bytes) (s : State) : Out :=
  let h := blob.take 32
  let n := fieldLE blob 12 4
  let slot : W32 := BitVec.ofNat 32 (fieldLE blob 8 4)
  let k := slotArg slot
  let data := (blob.drop 44).take n
  let plain := Config.gcmOpen (sealKey s.sec.mordant p (slotValue s k)) ((blob.drop 32).take 12) h data (blob.drop (44 + n))
  serveSecret s p (Req.unseal blob) 5 [2, 5] (checked s p
    [(decide (blob.length = n + 60 ∧ n ≤ 65536), .badLength),
      (h == sealHeader p slot n (fieldLE blob 16 4) && decide (slot.toNat < 256) && decide (fieldLE blob 16 4 < 2), .refused),
      ((k.map (fun n => usable416 (s.kslot n) 1 p)).getD true, .refused), (plain.isSome, .refused)]
    (answerObject s p [] (plain.getD [])))

/-- PMAC (R404, R406). -/
def execPmac (p : BitVec 7) (slot verify : W32) (tag data : Bytes) (s : State) : Out :=
  let t := Config.kmac256 (s.kslot slot.toNat).value data 32
  serveSecret s p (Req.pmac slot verify tag data) 6 [5] (checked s p
    [(decide (data.length ≤ 4096), .badLength), (decide (slot.toNat < 256), .outOfRange), (decide (verify.toNat < 2), .reservedSet),
      (usable416 (s.kslot slot.toNat) 3 p, .refused), (verify == 0 || t == tag, .macMismatch)]
    (answer s p (if verify = 0 then t else [])))

/-- The bytes of a report before its tag (R428). -/
def reportBody (s : State) (p : BitVec 7) (tagged : Bool) (nonce : Bytes) : Bytes :=
  let x := s.sec
  let flags := tagged.toNat + s.duplex.toNat * 2 + (if s.pair.active = .B then 4 else 0) + x.t1Latched.toNat * 8 + (srOnTrial s).toNat * 16
  let own := (List.range 256).filter (fun n => (s.kslot n).owner == p)
  let count := if p = 0 then x.owner.counter else (authority s 3 p.toNat).counter
  leBytes 4 0x41545354 ++ leBytes 2 1 ++ leBytes 1 p.toNat ++ leBytes 1 flags ++ fitBytes 32 deviceId ++ fitBytes 32 nonce
    ++ leBytes 8 s.time.dtime.toNat ++ leBytes 8 s.nowTick ++ leBytes 4 s.dev.opTime.toNat ++ leBytes 4 (s.dev.pcycle.toNat * 256)
    ++ fitBytes 64 x.mordant ++ (List.range 6).flatMap (fun k => fitBytes 64 (x.meas.getD k [])) ++ leBytes 8 (s.time.tstate.toNat * 2 ^ 62)
    ++ Config.shake256 (own.flatMap (slotRecord s)) 32 ++ leBytes 8 count.toNat

/-- The report of R428. -/
def report (s : State) (p : BitVec 7) (tagSlot : Option Nat) (nonce : Bytes) : Bytes :=
  let body := reportBody s p tagSlot.isSome nonce
  let tag := match tagSlot with
    | some n => Config.kmac256 (s.kslot n).value (label "OZ1 ATTEST" ++ body) 32
    | none => List.replicate 32 0
  let signed := body ++ fitBytes 32 tag ++ List.replicate 16 0
  signed ++ fitBytes 29792 (Config.slhSign idSignSeeds signed)

/-- ATTEST (R404, R407, R428). -/
def execAttest (p : BitVec 7) (flags slot : W32) (nonce : Bytes) (s : State) : Out :=
  let given := bit flags 0
  let tagged := bit flags 1
  let (rnd, t) := if given then (nonce, s) else generate s 32
  serveSecret s p (Req.attest flags slot nonce) 4 [0, 5, 6] (checked s p
    [(nonce.length == 32, .badLength), (decide (flags.toNat < 4), .reservedSet), (!tagged || decide (slot.toNat < 256), .outOfRange),
      (!tagged || usable416 (s.kslot slot.toNat) 2 p, .refused), (given || s.sec.drbgOn, .refused)]
    (answerObject t p [] (report t p (if tagged then some slot.toNat else none) rnd)))

/-! ### The key update message (R419 to R426) -/

/-- `OP` of an operation (R420), and its other fields. -/
def opCode (w : W64) : Nat := bits w 63 56
/-- `SLOT`. -/
def opSlot (w : W64) : Nat := bits w 55 48
/-- `OWNER`. -/
def opOwner (w : W64) : Nat := bits w 46 40
/-- `USAGE`. -/
def opUsage (w : W64) : BitVec 5 := BitVec.ofNat 5 (bits w 36 32)
/-- `MIDX`. -/
def opIdx (w : W64) : Nat := bits w 3 0

/-- Field `n` bytes at `off` of a message. -/
def kf (m : Bytes) (off n : Nat) : Nat := fieldLE m off n
/-- `MTYPE`. -/
def kType (m : Bytes) : Nat := kf m 6 1
/-- `NOPS`. -/
def kNops (m : Bytes) : Nat := kf m 7 1 % 32
/-- `COUNTER`. -/
def kCounter (m : Bytes) : W64 := BitVec.ofNat 64 (kf m 0x28 8)
/-- `SKIND`. -/
def kKind (m : Bytes) : Nat := kf m 0x33 1
/-- `SPART`. -/
def kPart (m : Bytes) : Nat := kf m 0x30 4 % 128
/-- `TSV`. -/
def kTsv (m : Bytes) : Bool := (kf m 0x34 4).testBit 8
/-- `TSLOT`. -/
def kTslot (m : Bytes) : Nat := kf m 0x34 1
/-- `SUBJ`. -/
def kSubj (m : Bytes) : Nat := kf m 0x98 4 % 128
/-- `AUTHKEY`. -/
def kAuthKey (m : Bytes) : Bytes := (m.drop 0x58).take 64
/-- The slot operations. -/
def kOps (m : Bytes) : List W64 := (List.range (kNops m)).map (fun i => BitVec.ofNat 64 (kf m (0xA0 + 16 * i) 8))

/-- Bytes a to b - 1 are zero. -/
def zeroRange (m : Bytes) (a b : Nat) : Bool := zeroBytes ((m.drop a).take (b - a))

/-- Reserved fields of an operation are zero. -/
def opClean (m : Bytes) (i : Nat) : Bool :=
  let w : W64 := BitVec.ofNat 64 (kf m (0xA0 + 16 * i) 8)
  zeroRange m (0xA8 + 16 * i) (0xB0 + 16 * i) && bits w 47 47 == 0 && bits w 39 37 == 0 && bits w 31 4 == 0

/-- Check 1 of R423. -/
def check1 (m : Bytes) : Bool :=
  let t := kType m
  let b7 := kf m 7 1
  let n := kNops m
  m.length == 32320 && kf m 0 4 == 0x4B555044 && kf m 4 2 == 1 && decide (1 ≤ t ∧ t ≤ 4) && !b7.testBit 5 && (t == 2 || b7 < 64)
    && (if t = 1 then decide (1 ≤ n ∧ n ≤ 16) else n == 0)
    && kf m 0x30 4 / 128 % 2 ^ 17 == 0 && (kKind m == 3 || kPart m == 0) && kf m 0x34 4 < 512 && (kTsv m || kTslot m == 0) && (t == 1 || !kTsv m)
    && (t == 2 || t == 3 || zeroRange m 0x58 0x98) && kf m 0x98 4 < 128 && (if t = 3 ∨ t = 4 then kSubj m != 0 else kSubj m == 0)
    && zeroRange m 0x9C 0xA0 && (List.range n).all (opClean m) && zeroRange m (0xA0 + 16 * n) 0x1A0 && zeroRange m 0x7CC 0x7D0
    && (t == 1 || (zeroRange m 0x1A0 0x7CC && zeroRange m 0x7D0 0x9E0))

/-- Check 3 of R423, with R422. -/
def check3 (s : State) (p : BitVec 7) (m : Bytes) : Bool :=
  let k := kKind m
  let a := authority s k (kPart m)
  let kindOk := match kType m with
    | 1 => k == 2 || k == 3
    | 2 => k == 1
    | _ => k == 2
  kindOk && (if k = 3 then p.toNat == kPart m && kPart m != 0 else p == 0) && a.key != []
    && (m.drop 0x38).take 32 == Config.shake256 a.key 32

/-- Check 5 of R423. -/
def check5 (s : State) (m : Bytes) : Bool :=
  let ops := kOps m
  let part := kPart m
  let one (w : W64) : Bool :=
    let k := s.kslot (opSlot w)
    let u := opUsage w
    let oneBit := decide (((List.range 5).filter (fun i => bit u i)).length = 1)
    let own := kKind m != 3 || k.owner.toNat == part
    own && (match opCode w with
      | 1 => oneBit && (!bit u 0 || opOwner w == 0) && decide (opIdx w < kNops m) && (kKind m != 3 || opOwner w == part)
      | 2 => true
      | 3 => oneBit && k.full && (!bit u 0 || k.owner == 0)
      | 4 => kKind m != 3
      | _ => false)
  ops.all one && decide ((ops.map opSlot).Nodup)

/-- Check 6 of R423. -/
def check6 (s : State) (m : Bytes) : Bool := !kTsv m || usable416 (s.kslot (kTslot m)) 4 (if kKind m = 3 then BitVec.ofNat 7 (kPart m) else 0)

/-- The decrypted `MAT` of check 8 (R414). -/
def decryptMat (s : State) (m : Bytes) : Option Bytes :=
  let ss := Config.mlkemDecaps idKemSeeds ((m.drop 0x1A0).take 1568)
  let key := Config.kmac256 ss (label "OZ1 KU" ++ leBytes 8 (kCounter m).toNat ++ (m.drop 8).take 32 ++ slotValue s (if kTsv m then some (kTslot m) else none)) 32
  Config.gcmOpen key ((m.drop 0x7C0).take 12) (m.take 0x7D0) ((m.drop 0x7D0).take 512) ((m.drop 0x9D0).take 16)

/-- The first check of R423 that fails. -/
def failedCheck (s : State) (p : BitVec 7) (m : Bytes) : Option Nat :=
  let a := authority s (kKind m) (kPart m)
  if !check1 m then some 1
  else if (m.drop 8).take 32 != deviceId then some 2
  else if !check3 s p m then some 3
  else if (kCounter m).toNat ≤ a.counter.toNat then some 4
  else if !check5 s m then some 5
  else if !check6 s m then some 6
  else if !Config.slhVerify a.key (m.take 0x9E0) (m.drop 0x9E0) then some 7
  else if kType m == 1 && (decryptMat s m).isNone then some 8
  else none

/-- The key journal of a checked message (R424 step 1). -/
def journalOf (s : State) (m : Bytes) : Journal :=
  let mat := (decryptMat s m).getD []
  { skind := kKind m, spart := BitVec.ofNat 7 (kPart m), mtype := kType m, counter := kCounter m, subj := BitVec.ofNat 7 (kSubj m),
    authKey := kAuthKey m, policy := (kf m 7 1).testBit 7, loopEn := (kf m 7 1).testBit 6,
    ops := (kOps m).map (fun w => (w, if opCode w = 1 then (mat.drop (32 * opIdx w)).take 32 else [])), committed := false }

/-- SR deletes every SA derived from an erased MACSEC slot (R424), and what it derived from that slot for MKA. -/
def eraseCak (s : State) (n : Nat) : State :=
  let one (s : State) (p : Port) : State :=
    let x := s.port p
    let s := if x.kekSlot.toNat = n then modPort s p (fun x => { x with ick := [], kek := [] }) else s
    let s := if x.sakSlot.toNat = n then modPort s p (fun x => { x with sak := [] }) else s
    if x.sas.any (fun a => a.slot.toNat == n) then
      purgePort (recordT (modPort s p (fun x => { x with sas := x.sas.filter (fun a => a.slot.toNat != n) })) 5 0x4403 (portNo p) 1) p
    else s
  one (one s .np0) .np1

/-- One slot operation (R420). -/
def applyOp (s : State) (o : W64 × Bytes) : State :=
  let n := opSlot o.1
  let k := s.kslot n
  let gone (s : State) : State := if k.full && bit k.usage 0 then eraseCak s n else s
  match opCode o.1 with
  | 1 => setKslot s n { full := true, owner := BitVec.ofNat 7 (opOwner o.1), usage := opUsage o.1, gen := satInc k.gen, value := o.2 }
  | 2 => gone (setKslot s n { k with full := false, usage := 0, value := [] })
  | 3 => setKslot s n { k with usage := opUsage o.1 }
  | 4 => gone (setKslot s n { k with full := false, usage := 0, value := [], owner := BitVec.ofNat 7 (opOwner o.1) })
  | _ => s

/-- Apply a journal to the slot store and the authority table, and advance the signer's counter (R421, R424 step 2). -/
def applyJournal (s : State) (j : Journal) : State :=
  let s := j.ops.foldl applyOp s
  let s := match j.mtype with
    | 2 => modSec s (fun x => { x with owner := { x.owner with key := j.authKey }, policy := j.policy, loopEn := j.loopEn, parts := x.parts.map (fun e => (e.1, { e.2 with key := [] })) })
    | 3 => setAuthority s 3 j.subj.toNat { authority s 3 j.subj.toNat with key := j.authKey }
    | 4 => setAuthority s 3 j.subj.toNat { authority s 3 j.subj.toNat with key := [] }
    | _ => s
  setAuthority s j.skind j.spart.toNat { authority s j.skind j.spart.toNat with counter := j.counter }

/-- First parameter of the key update codes. -/
def signerParam (kind part : Nat) : Nat := kind * 2 ^ 24 + part

/-- Commit a journal (R424 steps 2 and 3). -/
def commitJournal (s : State) (j : Journal) : State :=
  let s := modSec (applyJournal s j) (fun x => { x with journal := some { j with committed := true } })
  raise (recordN s 5 0x6201 (signerParam j.skind j.spart.toNat) (j.counter.toNat % 2 ^ 32) (j.mtype * 2 ^ 8 + j.ops.length)) 619

/-- A start finds a valid journal without its commit mark (R425). -/
def completeJournal (s : State) : State :=
  match s.sec.journal with
  | some j =>
    if j.committed then s
    else
      let s := modSec (applyJournal s j) (fun x => { x with journal := some { j with committed := true } })
      raise (recordT s 5 0x6203 (signerParam j.skind j.spart.toNat) (j.counter.toNat % 2 ^ 32)) 619
  | none => s

/-- A key update is refused (R423, R426). -/
def refuseUpdate (s : State) (p : BitVec 7) (m : Bytes) (check : Nat) (st : Stat) : State :=
  let s := raise (recordN s 5 0x6202 (signerParam (kKind m) (kPart m)) check ((kCounter m).toNat % 2 ^ 32)) 620
  turnAway s p st (if check = 9 then 0 else check)

/-- The supplies fail next: a brown-out waits behind no more than its own warnings (R362, R365, R367). -/
def powerGoes : List Instr → Bool
  | .brownOut :: _ => true
  | .powerWarning :: r => powerGoes r
  | .commitCutoff :: r => powerGoes r
  | .vinOutOfRange _ _ :: r => powerGoes r
  | _ => false

/-- What waits can fall into a command that SR runs: a tamper event, a reset of the chip or of SR, or a loss of power (R354, R425,
R430). -/
def cutsShort (s : State) : Bool :=
  match s.pending with
  | .tamperT1 k :: _ => decide (1 ≤ k ∧ k ≤ 3)
  | .tamperT2 k :: _ => decide (4 ≤ k ∧ k ≤ 6) && (k != 6 || s.sec.loopEn)
  | .resetN :: _ => true
  | .haltRestart :: _ => s.dev.dstate == .halt && !s.dev.haltLimit
  | .resetAssert .sr :: _ => true
  | l => powerGoes l

/-- A checked key update (R424, R425, R430; log entry 61). Where a tamper event, a reset or a loss of power comes next, the spec leaves open how far
the update has come by then, and a free value decides: not to the journal's valid mark, past it, or past the commit mark. Until that
command the page stays busy; past the valid mark it holds the response. -/
def updateKeys (s : State) (p : BitVec 7) (msg : Bytes) : State :=
  let j := journalOf s msg
  let (w, t) := s.takeFree
  if !cutsShort s || w.toNat % 3 = 2 then
    answer (commitJournal (if cutsShort s then t else s) j) p (leBytes 8 (kCounter msg).toNat)
  else if w.toNat % 3 = 0 then t
  else modSec t (fun x => { x with journal := some j, heldPage := some p })

/-- KEY_UPDATE (R419 to R426). -/
def execKeyUpdate (p : BitVec 7) (msg : Bytes) (s : State) : Out :=
  serveSr s p (Req.keyUpdate msg) true (
    if s.dev.pfwLow then refuseUpdate s p msg 9 .powerWarning
    else if srUpdating s then refuseUpdate s p msg 9 .conflict
    else if !s.sec.secretsOn || [0, 1, 2, 5, 6].any (algOff s) then refuseUpdate s p msg 9 .secretsOff
    else if s.sec.t1 then turnAway (recordT s 5 0x6104 3 p.toNat) p .tamperAbort
    else
      match failedCheck s p msg with
      | some n => refuseUpdate s p msg n .refused
      | none => updateKeys s p msg)

/-- The T1 condition has ended: a held key update is committed and answered (R430). -/
def t1Ended (s : State) : State :=
  let s := raise (modSec s (fun x => { x with t1 := false })) 617
  match s.sec.heldPage, s.sec.journal with
  | some p, some j =>
    let s := if j.committed then s else commitJournal s j
    answer (modSec s (fun x => { x with heldPage := none })) p (leBytes 8 j.counter.toNat)
  | _, _ => s

/-! ### MACsec's keys (R322 to R325) -/

/-- The key derivation of IEEE 802.1X-2020, to 256 bits (PRESUMED, log entry 24). -/
def mkaKdf (key : Bytes) (lbl : String) (context : Bytes) : Bytes :=
  let block (i : Nat) : Bytes := Config.cmac key (BitVec.ofNat 8 i :: label lbl ++ [0] ++ fitBytes 16 context ++ beBytes 2 256)
  block 1 ++ block 2

/-- The CAK that a port's configuration names is usable (R416). -/
def cakUsable (s : State) (p : Port) : Bool := usable416 (s.kslot (s.port p).cakSlot.toNat) 0 0

/-- The port of an SR operation. -/
def secPort : SecOp → Port
  | .derive p => p
  | .icv p _ => p
  | .genSak p => p
  | .wrapSak p => p
  | .unwrapSak p _ => p
  | .installSa p _ _ _ _ _ => p
  | .deleteSa p _ _ _ => p

/-- The key-encrypting key of a port's connectivity association, which the key derivation operation puts into SR. -/
def kekOf (s : State) (p : Port) : Bytes := mkaKdf (s.kslot (s.port p).cakSlot.toNat).value "IEEE8021 KEK" (s.port p).ckn
/-- The integrity check key. -/
def ickOf (s : State) (p : Port) : Bytes := mkaKdf (s.kslot (s.port p).cakSlot.toNat).value "IEEE8021 ICK" (s.port p).ckn

/-- Carry out a checked operation (R322, R323): a SAK counts as derived from the slot whose CAK gave the KEK that it is distributed
under (R424; log entry 126); one transmit SC, at most 16 receive SCs, four SAs of an SC; an SA takes its salt and
SSCI under XPN. -/
def secOp (s : State) (op : SecOp) : State :=
  let reply (s : State) (bs : Bytes) : State := modSec s (fun x => { x with reply := bs })
  match op with
  | .derive p => reply (modPort s p (fun x => { x with ick := ickOf s p, kek := kekOf s p, kekSlot := x.cakSlot })) []
  | .icv p pdu => reply s (Config.cmac (s.port p).ick pdu)
  | .genSak p =>
    if s.sec.drbgOn then let (k, s) := generate s 32; reply (modPort s p (fun x => { x with sak := k, sakSlot := x.kekSlot })) [] else s
  | .wrapSak p => reply s (Config.kwWrap (s.port p).kek (s.port p).sak)
  | .unwrapSak p w =>
    match Config.kwUnwrap (s.port p).kek w with
    | some k => reply (modPort s p (fun x => { x with sak := k, sakSlot := x.kekSlot })) [1]
    | none => reply s [0]
  | .installSa p rx sci an ssci salt =>
    let x := s.port p
    let scs := (x.sas.filter (fun a => a.receive && a.sci != sci)).map Sa.sci
    if rx && decide (scs.eraseDups.length ≥ 16) then s
    else
      let rest := x.sas.filter (fun a => !(a.receive == rx && a.sci == sci && a.an == an) && (rx || a.receive || a.sci == sci))
      let sa : Sa := { receive := rx, sci := sci, an := an, key := x.sak, ssci := if bit x.macsec 1 then ssci else 0, salt := if bit x.macsec 1 then salt else [], slot := x.sakSlot }
      let s := modPort s p (fun x => { x with sas := rest ++ [sa], exhausted := x.exhausted && rx, rekey := x.rekey && rx })
      recordT s 5 0x4401 (portNo p) (rx.toNat * 256 + an.toNat)
  | .deleteSa p rx sci an =>
    let s := modPort s p (fun x => { x with sas := x.sas.filter (fun a => !(a.receive == rx && a.sci == sci && a.an == an)) })
    purgePort (recordT s 5 0x4403 (portNo p) 1) p

/-- SR_MACSEC (R323, R416, R430): the firmware's command for MKA. -/
def execSrMacsec (op : SecOp) (s : State) : Out :=
  let p := secPort op
  whenPowered s (
    if !s.sec.running || !s.sec.secretsOn || [3, 4].any (algOff s) || !cakUsable s p then s
    else if s.sec.t1 then recordT s 5 0x6104 7 0
    else secOp s op)

/-- MACSEC_CONFIG (R322, R416). -/
def execMacsecConfig (p : BitVec 7) (port options window slot prio cknLen : W32) (ckn : Bytes) (s : State) : Out :=
  let q := portOf port
  let t := modPort s q (fun x => { x with
    macsec := options, macWindow := window, cakSlot := BitVec.ofNat 8 slot.toNat, macPrio := BitVec.ofNat 8 prio.toNat, ckn := ckn.take cknLen.toNat })
  let t := purgePort (portPolicy t q) q
  serveIn 3 s p (Req.macsecConfig port options window slot prio cknLen ckn) (owner0 p) (checked s p
    [(ckn.length == 32, .badLength), (decide (port.toNat < 2) && decide (slot.toNat < 256) && decide (prio.toNat < 256)
        && decide (1 ≤ cknLen.toNat ∧ cknLen.toNat ≤ 32), .outOfRange),
      (zeroBits options 31 14 && zeroBits options 11 10 && zeroBits options 7 6 && bits options 9 8 != 3 && bits options 13 12 != 3, .reservedSet),
      (!bit options 0 || !s.sec.secretsOn || usable416 (s.kslot slot.toNat) 0 0, .refused)]
    (acceptConfig s t p (Req.macsecConfig port options window slot prio cknLen ckn)))

end Sys2Proof.Machine
end

