-- ==== Sys2Proof/Machine/Health.lean ====
section
/-! DEFINITION. Faults, blocks and spares, self-tests and rotations, the contact sheet, and rejoin (R26, R36, R37, R192 to R196,
R203 to R221). -/

namespace Sys2Proof.Machine

/-! ### Blocks (R203, R215, R216) -/

/-- Region of a block ID. -/
def blkRegion (b : Nat) : Nat := b / 8192
/-- Kind of a block ID. -/
def blkKind (b : Nat) : Nat := b / 256 % 32
/-- Instances of each kind of an execution region (R215): 114 blocks. -/
def erKinds : List (Nat × Nat) := [(1, 34), (2, 9), (3, 64), (4, 1), (5, 1), (6, 1), (7, 2), (8, 1), (9, 1)]

/-- Every block ID in ascending order (R214). -/
def allBlockIds : List Nat :=
  let ofEr (r : Nat) : List Nat := erKinds.flatMap (fun k => (List.range k.2).map (fun i => blockId r k.1 i))
  ofEr 0 ++ ofEr 1 ++ (List.range 32).map (blockId 2 0x10) ++ (List.range 2).map (blockId 3 0x11)

/-- Change a block. -/
def modBlock (s : State) (b : Nat) (f : Block → Block) : State := s.setBlock b (f (s.block b))

/-- Blocks of a kind in a region. -/
def blocksOf (r kind : Nat) : List Nat := (List.range (((erKinds.find? (fun k => k.1 == kind)).map Prod.snd).getD 0)).map (blockId r kind)

/-- Blocks of a kind that are in a state. -/
def inState (s : State) (r kind : Nat) (st : BState) : List Nat := (blocksOf r kind).filter (fun b => (s.block b).state == st)

/-- Memory banks and the code store: blocks whose spares are segments (R203). -/
def segmented (kind : Nat) : Bool := kind == 3 || kind == 9

/-- The block that an ID names: the instance of a code-store ID says which 1 MiB part of it a command means (log entry 120). -/
def blockOf (b : Nat) : Nat := if blkKind b = 9 then b - b % 256 else b

/-- The spare segments left where an ID points, and the segments under test there: of a bank, or of a part of the code store (R203). -/
def segments (s : State) (b : Nat) : Nat × Nat :=
  let x := s.block (blockOf b)
  if blkKind b = 9 then (look 4 x.parts (b % 256), x.segments) else (x.spares.toNat, x.segments)

/-- `spent` segments more are spared where an ID points, `back` spares come back, and the segments under test are `tests`. -/
def setSegments (s : State) (b spent back tests : Nat) : State :=
  modBlock s (blockOf b) (fun x => { x with
    spares := x.spares - BitVec.ofNat 8 spent + BitVec.ofNat 8 back
    parts := if blkKind b = 9 then put 4 x.parts (b % 256) (look 4 x.parts (b % 256) - spent + back) else x.parts
    segments := tests })

/-- A spare of a kind: a SPARE block, or a block UNDER TEST, one in the rotation before one in a targeted test (R204, R207). -/
def spareOf (s : State) (r kind : Nat) : Option Nat :=
  let test := inState s r kind .underTest
  (inState s r kind .spare ++ test.filter (fun b => !(s.block b).targeted) ++ test.filter (fun b => (s.block b).targeted)).head?

/-- A region has no spare of a kind: no block, or for a bank or the code store no segment. -/
def spareless (s : State) (r kind : Nat) : Bool :=
  if kind = 9 then (s.block (blockId r 9 0)).parts.any (fun e => e.2 == 0)
  else if segmented kind then (blocksOf r kind).any (fun b => (s.block b).spares == 0) else (spareOf s r kind).isNone

/-- NO_SPARE when what happened since state `before` has left a region with no spare of a kind (R207). -/
def checkSpare (before s : State) (r kind : Nat) : State :=
  if spareless s r kind && !spareless before r kind then raise (recordN s r 0x2107 r kind (inState s r kind .inService).length) 4 else s

/-! ### Self-flags (R192 to R194, R221) -/

/-- A region fails for a cause of R192: it leaves, a rejoin of it is abandoned, and with no partner in service a rejoin of the
partner is abandoned and the device enters HALT (R26, R185, R221). -/
def regionFails (s : State) (er : Er) (block cause reason : Nat) : State :=
  if s.serving er then
    if s.serving (otherEr er) then takeOut s er block cause reason
    else haltDevice (endRegion (abandonRejoin s 0xFFFF) er block cause)
  else
    match s.pair.rejoin with
    | some j => if j.er = er then abandonRejoin s block (cause == 10) else s
    | none => s

/-- The block that raised a self-flag of a region is to take its targeted self-test during the region's entry self-test (R192): no
spare serves in its place, for the region is out; of a bank or the code store, a segment that fails there takes one. -/
def markFlagged (s : State) (er : Er) (block : Nat) : State :=
  if blkRegion block = erNum er ∧ blockOf block ∈ allBlockIds ∧ (s.block (blockOf block)).state ≠ .retired then
    modBlock s (blockOf block) (fun x => { x with targeted := true })
  else s

/-- A self-flag (R192): the region fails. Within 40 edges of the partner's switch-over the chip level handles it (R193). -/
def selfFlag (s : State) (er : Er) (cause block : Nat) (within40 : Bool) : State :=
  let s := markFlagged s er block
  if within40 then haltDevice (endRegion s er block cause) else regionFails s er block cause 1

/-! ### Sparing (R204 to R207) -/

/-- A block that errs and is in service is replaced by a spare of its kind and takes its targeted self-test; without a spare
the region raises a self-flag with cause 10 (R204, R207). A run on a replaced engine stays there to its end (R97; log entry 49).
DESIGN CHOICE (log entry 117): a recurring error in LPDDR5X finds no spare segment, since R203 gives it none. -/
def spareBlock (s : State) (er : Er) (b reason : Nat) : State :=
  let r := erNum er
  let k := blkKind b
  if segmented k then
    let (left, tests) := segments s b
    if left = 0 then selfFlag s er 10 (blockOf b) false
    else checkSpare s (raise (recordN (setSegments s b 1 0 (tests + 1)) r 0x2104 (blockOf b) (blockOf b) reason) 3) r k
  else
    match spareOf s r k with
    | none => selfFlag s er 10 b false
    | some n =>
      let t := modBlock s n (fun x => { x with state := .inService, last := if x.state = .underTest then 3 else x.last, targeted := false })
      let t := modBlock t b (fun x => { x with state := .underTest, targeted := true })
      checkSpare s (raise (recordN t r 0x2104 b n reason) 3) r k

/-- A block is retired (R205, R206): it never returns. Of a bank or the code store a segment is. -/
def retireBlock (s : State) (id step : Nat) : State :=
  let b := blockOf id
  let t := modBlock s b (fun x => { x with
    state := if segmented (blkKind b) then x.state else .retired
    last := 1, lasting := satInc x.lasting, targeted := false, segments := x.segments - 1 })
  let t := raise (recordN t (blkRegion b) 0x2106 b step (t.block b).lasting.toNat) 3
  if blkRegion b < 2 then checkSpare s t (blkRegion b) (blkKind b) else t

/-- A block of an execution region errs and its retry has failed, or it has produced a self-flag with a cause of R192, which ends a
rejoin of the region as well (R221). -/
def blockErrs (s : State) (er : Er) (b : Nat) (flagged : Bool) (cause : Nat) : State :=
  let k := blkKind b
  if 4 ≤ k ∧ k ≤ 8 then selfFlag s er cause b false
  else if k = 1 ∨ k = 2 then
    match (s.block b).state with
    | .inService =>
      let s := spareBlock s er b 1
      if flagged then selfFlag s er cause b false else s
    | .retired => s
    | _ => retireBlock s b 0
  else
    let s := spareBlock s er b 1
    if flagged then selfFlag s er cause (blockOf b) false else s

/-- A channel or port is isolated while it is tested (R204); a retired one never returns (R205). -/
def isolateBlock (s : State) (b : Nat) : State :=
  if (s.block b).state = .retired then s
  else
    let s := modBlock s b (fun x => { x with state := .isolated, targeted := true })
    if blkKind b = 0x10 then isolateChannel s (b % 256) else isolatePort s (if b % 256 = 0 then .np0 else .np1)

/-! ### Ledgers and shared regions (R26, R36, R37) -/

/-- A frozen queue's entries are lost, and counted once (R36). -/
def freezeQueue (s : State) (qid : Nat) : State :=
  let q := s.queue qid
  countLost (s.setQueue qid { q with frozen := true, occ := 0, held := [], part := 0 }) qid q.occ

/-- Packet buffer cells that hold frames or rings (R284). -/
def cellsUsed (s : State) : Nat :=
  let rings (x : NQueue) : Nat := queueCells s x.record - x.rxq - x.txq
  s.net.port0.fwdCells + s.net.port1.fwdCells
    + s.net.queues.foldl (fun n e => n + e.2.txCells + rings e.2 + e.2.held) 0

/-- Descriptors of a ring in the packet buffer, receive or transmit, that the device or a frame holds, and the ring's size (R34,
R285); a ring in host memory is no pool. -/
def ringUse (s : State) (q dir : Nat) : Nat × Nat :=
  let x := s.nq q
  if !inBuffer s q then (0, 0)
  else if dir = 0 then (min x.rxSize (x.frames.map (fun f => cellsOf f.bytes.length)).sum, x.rxSize)
  else ((x.txProd + x.txSize - x.txCons % x.txSize) % x.txSize, x.txSize)

/-- The allocated entries and the size of the pool that a queue feeds (R34, R95, R231, R242, R284; log entry 74): the exposures
taken and not yet fixed, two for each task slot (R92, R95); FR's receive buffers (number 0) and its transmit buffers (number 1);
NR's packet buffer cells (number 0) and, from number 1, the two rings of each queue. -/
def poolUse (s : State) (qid : Nat) : Nat × Nat :=
  let num := qid % 1024
  match erOf (qid / 1024 % 8) with
  | some er => (((s.region er).runs.filter (fun x => x.phase != .waiting)).length, 2 * 512)
  | none =>
    if qid / 1024 % 8 = 2 then
      if num = 0 then (s.chans.foldl (fun n c => n + (c.2.rx.filter (fun b => b.2.buf.isSome)).length) 0, 32 * 256)
      else (s.chans.foldl (fun n c => n + (c.2.tx.filter (fun b => b.2.waiting.isSome)).length) 0, 32 * 64)
    else if num = 0 then (cellsUsed s, 32768)
    else ringUse s ((num - 1) / 2) ((num - 1) % 2)

/-- A pool's ledger: free entries, allocated entries, size. Free are the entries of the pool that nothing holds. -/
def poolLedger (s : State) (qid : Nat) : Nat × Nat × Nat := ((poolUse s qid).2 - (poolUse s qid).1, poolUse s qid)

/-- The queues that feed a pool whose ledger the part checks at every cycle: the exposure pools, FR's receive and transmit buffers, the
packet buffer's cells, and the rings of each network queue that holds something (R34; log entry 74). -/
def pools (s : State) : List Nat :=
  [stagingQueue .A, stagingQueue .B, queueId 2 2 0, queueId 2 2 1, queueId 3 3 0]
    ++ s.net.queues.flatMap (fun e => [queueId 3 3 (1 + 2 * e.1), queueId 3 3 (2 + 2 * e.1)])

/-- A pool's invariant fails: pool size = free entries + allocated entries (R34). -/
def poolFails (s : State) (qid : Nat) : Bool :=
  let (f, a, n) := poolLedger s qid
  n != f + a

/-- The ledger words of a record of R37: available, in flight or held, capacity or issued. -/
def ledgerWords (s : State) (kind qid : Nat) : Nat × Nat × Nat :=
  let q := s.queue qid
  if kind = 3 then
    let r := s.region ((erOf (qid / 8192 % 8)).getD s.pair.active)
    (r.applied.toNat, tokensHeld r.staging, s.fab.issued.toNat)
  else if kind = 2 then poolLedger s qid
  else (q.avail, q.flight, q.cap)

/-- The record of a ledger violation (R37), and its source. -/
def recordLedger (s : State) (kind qid check : Nat) : State :=
  let (a, f, c) := ledgerWords s kind qid
  let seen := (s.queue qid).lastSeen.toNat
  critFails (raise (recordN s (qid / 8192 % 8) (if check = 4 then 0x2402 else 0x2401) (check * 2 ^ 24 + kind * 2 ^ 16 + qid)
    (a % 65536 * 65536 + f % 65536) (c % 65536 * 65536 + seen % 65536)) 7) 6

/-- A ledger violation: the record of R37, then the producer's self-flag or the frozen queue of R36. A cell of the staging
queues' producer stands in the fabric switch: an error there is a chip-level error. -/
def ledgerFails (s : State) (kind qid check : Nat) : State :=
  let s := recordLedger s kind qid check
  if check = 4 ∧ kind ≠ 2 ∧ (qid = stagingQueue .A ∨ qid = stagingQueue .B) then haltDevice s
  else
    match erOf (qid / 8192 % 8) with
    | some er => selfFlag s er 4 0xFFFF false
    | none => freezeQueue s qid

/-- The ledgers' own checks, at every cycle (R34, R35): of each queue whose producer runs and is armed, of each token ledger and
of each pool. A command that lets edges pass (log entry 1) leaves every ledger as it was, so that what fails at one of them is
found at the next edge at which no command waits. -/
def checkLedgers (s : State) : State :=
  let live (src : Nat) (s : State) : Bool := ((erOf src).map s.serving).getD true
  let s := s.fab.queues.foldl (fun s e =>
    if e.2.open && live (e.1 / 8192 % 8) s && e.2.violation != 0 then ledgerFails s 1 e.1 e.2.violation else s) s
  let s := [Er.A, Er.B].foldl (fun s er =>
    let r := s.region er
    if s.serving er && s.fab.issued - r.applied != BitVec.ofNat 16 (tokensHeld r.staging) then ledgerFails s 3 (stagingQueue er) 1 else s) s
  (pools s).foldl (fun s q => if live (q / 8192 % 8) s && poolFails s q then ledgerFails s 2 q 1 else s) s

/-- SR has failed (R26): criterion [0] of its trial is lost (R449), and secret-using functions end. -/
def srFails (s : State) : State := endSecrets (if onTrialOf s none then critFails s 0 else s)

/-- What a region-level error of a shared region does (R26): HR's host port is held in reset and its mailboxes are refused until it runs
again. -/
def sharedFails (s : State) (region unit : Nat) : State :=
  match region with
  | 2 => isolateBlock s (blockId 2 0x10 (unit % 32))
  | 3 => isolateBlock s (blockId 3 0x11 (unit % 2))
  | 4 => haltDevice s
  | 5 => srFails s
  | 6 =>
    let s := if s.hr.linkUp then recordT s 6 0x8102 2 0 else s
    s.setHr { s.hr with running := false, linkUp := false }
  | _ => s

/-- The clock monitors find both PLLs failed: each failure is recorded, then the chip level handles it (R27, R341). -/
def bothPlls (s : State) : State :=
  let cause (k : Nat) : Nat := 1 + (Config.freeValue (s.free + k)).toNat % 2
  let t := { s with free := s.free + 2 }
  haltDevice (recordT (recordT t 7 0x5101 0 (cause 0)) 7 0x5101 1 (cause 1))

/-- A slot whose images cannot be read: one that would run fails its checks at the next start (R443), one that waits is EMPTY. -/
def ISlot.unreadable (x : ISlot) (tys : List Nat) : ISlot :=
  if x.state == .ready then { x with state := .empty, images := [] } else { x with images := tys.map (fun ty => (ty, [0])) }

/-- The structure of R441 at an MRAM offset is invalid: what both copies held is lost. -/
def loseStructure (s : State) (off : Nat) (len : Nat) : State :=
  let g := s.img
  let fw (x : ISlot) : ISlot := x.unreadable [2, 3, 4]
  let one (base size : Nat) : Bool := decide (base + size ≤ off)
  if off < 0x03000000 then
    s.setImg (if one 0 0x01800000 then { g with fwA1 := fw g.fwA1 } else { g with fwA0 := fw g.fwA0 })
  else if off < 0x06000000 then
    s.setImg (if one 0x03000000 0x01800000 then { g with fwB1 := fw g.fwB1 } else { g with fwB0 := fw g.fwB0 })
  else if off < 0x06400000 then
    s.setImg (if one 0x06000000 0x200000 then { g with sr1 := g.sr1.unreadable [1] } else { g with sr0 := g.sr0.unreadable [1] })
  else if off < 0x0A400000 then
    let n := (one 0x06400000 0x2000000).toNat
    s.setImg { g with directory := g.directory.filter (fun e => look 0 g.stores e.1 != n) }
  else if off < 0x0B400000 then
    s.setImg (if one 0x0A400000 0x800000 then { g with cfg1 := g.cfg1.unreadable [5], cfgLog1 := [] }
      else { g with cfg0 := g.cfg0.unreadable [5], cfgLog0 := [] })
  else if off < 0x0D400000 then s.setImg (if one 0x0B400000 0x1000000 then { g with retain1 := {} } else { g with retain0 := {} })
  else if off < 0x0E400000 then
    let a := off - 0x0D400000
    s.setRecd { s.recd with ring := s.recd.ring.filter (fun e => decide (32 * e.1 + 32 ≤ a ∨ a + len ≤ 32 * e.1)) }
  else if off < 0x0E500000 then
    modSec s (fun x => { x with
      slots := [], owner := {}, parts := [], root := { x.root with counter := 0 }, journal := none, storeCopy := none })
  else if off < 0x0ED00000 then s.setImg (if one 0x0E500000 0x400000 then { g with sealed1 := [] } else { g with sealed0 := [] })
  else if off < 0x0EE00000 then s.setHealth { s.health with mram := [], unfit := [] }
  else if off < 0x0EF00000 then
    let all (x : ISlot) : ISlot := { x.unreadable [1, 2, 3, 4, 5] with state := .empty }
    s.setImg { g with
      fwA0 := all g.fwA0, fwA1 := all g.fwA1, fwB0 := all g.fwB0, fwB1 := all g.fwB1, sr0 := all g.sr0, sr1 := all g.sr1
      cfg0 := all g.cfg0, cfg1 := all g.cfg1, directory := [], update := none, complete := none }
  else s

/-- A read of MRAM finds an uncorrectable error (R441): the other copy is taken and the failed one rewritten; with both gone the
structure is invalid, and MRAM_UNREADABLE is recorded. -/
def mramFails (s : State) (off len : Nat) (bothCopies : Bool) : State :=
  if bothCopies then syncDev (loseStructure (recordT s (erNum s.pair.active) 0x7103 off len) off len) else s

/-- BLOCK_FAULT (R26): the level at which an error was detected decides. DESIGN CHOICE (log entry 87): of FABRIC_LOCKSTEP the spec gives
the check code alone (R37); `SRC` is the ACTIVE region's number, and ledger kind, queue ID, P2 and P3 are 0. -/
def execBlockFault (f : FaultEvent) (s : State) : Out :=
  whenPowered s (match f with
    | .corrected b => modBlock s (blockOf b.toNat) (fun x => { x with corr := satInc x.corr })
    | .block b retryOk flagged cause =>
      let n := b.toNat
      if retryOk && !flagged then s
      else
        match erOf (blkRegion n) with
        | some er => blockErrs s er n flagged cause
        | none => if blkKind n = 0x10 ∨ blkKind n = 0x11 then isolateBlock s n else s
    | .selfFlag er cause b w => selfFlag s er cause b.toNat w
    | .bothFlags cA bA cB bB =>
      let s := markFlagged (markFlagged s .A bA.toNat) .B bB.toNat
      let s := match s.pair.rejoin with
        | some j => if j.er = .A then abandonRejoin s bA.toNat (cA == 10) else abandonRejoin s bB.toNat (cB == 10)
        | none => s
      haltDevice (endRegion (endRegion s .A bA.toNat cA) .B bB.toNat cB)
    | .ledger kind qid check => ledgerFails s kind qid.toNat check
    | .lockstep => haltDevice (critFails (raise (recordN s (erNum s.pair.active) 0x2403 0 0 0) 7) 6)
    | .linkPattern qid inSwitch => if inSwitch then haltDevice (recordLedger s 1 qid.toNat 4) else ledgerFails s 1 qid.toNat 4
    | .eqParity eq copy1 => eqParity s eq.toNat copy1
    | .shared region unit => sharedFails (if 4 ≤ region ∧ region ≤ 7 then recordOpen s region else s) region unit
    | .bothPlls => bothPlls s
    | .chip => haltDevice (recordOpen s (erNum s.pair.active))
    | .mram off len bothCopies => mramFails s off len bothCopies
    | .algorithm row => modSec s (fun x => { x with defects := setBit x.defects row.toNat true }))

/-- What the block does while no command waits (log entry 1): one CORE edge, at which the ledgers check themselves (R34). -/
def idleEdge (s : State) : State := if s.powered then checkLedgers (coreEdge s) else coreEdge s

/-! ### Self-tests and rotations (R204 to R210, R504) -/

/-- An entry self-test of a block's region is under way: the region is TESTING, or the device is in START (R218, R363). -/
def entryTesting (s : State) (b : Nat) : Bool :=
  match erOf (blkRegion b) with
  | some er => s.regState er == .testing || s.dev.dstate == .start
  | none => false

/-- A block fails its self-test (R205, R206, R504): it is retired; in an entry self-test a segment that fails takes a spare one,
and a block with no spare leaves its region without a needed block (R207, R218). -/
def testFails (s : State) (b step : Nat) : State :=
  let r := blkRegion b
  let (left, tests) := segments s b
  let t := if segmented (blkKind b) && tests == 0 && left != 0 then setSegments s b 1 0 0 else s
  let t := retireBlock t b step
  let needed := (4 ≤ blkKind b && blkKind b ≤ 8) || (segmented (blkKind b) && tests == 0 && left == 0)
  match erOf r with
  | some er => if needed then selfFlag t er 10 (blockOf b) false else t
  | none => t

/-- A block passes a targeted self-test (R205): the error was transient, and the block, or the segment that a spare one had
replaced, is a spare again; a channel, a port, a block with no spare or a segment still in place returns to service. -/
def testPasses (s : State) (id : Nat) (micros : W32) : State :=
  let b := blockOf id
  let k := blkKind b
  let tests := (segments s id).2
  let s := modBlock s b (fun x => { x with
    last := 0, trans := satInc x.trans, targeted := false
    state := if k = 1 ∨ k = 2 then .spare else .inService })
  let s := if segmented k && tests != 0 then setSegments s id 0 1 (tests - 1) else s
  let s := if k = 0x10 then returnChannel s (b % 256) else if k = 0x11 then returnPort s (if b % 256 = 0 then .np0 else .np1) else s
  raise (recordN s (blkRegion b) 0x2105 b (s.block b).trans.toNat micros.toNat) 3

/-- SELF_TEST_COMPLETE (R205, R504): `failStep` 0 when every step passed. -/
def execSelfTestComplete (block : BitVec 16) (failStep : Nat) (micros : W32) (s : State) : Out :=
  let b := blockOf block.toNat
  let x := s.block b
  let entry := entryTesting s b && x.state != .retired
  let due := x.segments != 0 && !(blkKind b == 9 && decide (4 ≤ (segments s block.toNat).1))
  let testing := x.state == .underTest || x.state == .isolated || due || entry
  whenPowered s (
    if !testing then s
    else
      let s := modBlock s b (fun x => { x with tests := x.tests + 1, ttime := s.time.dtime })
      if failStep ≠ 0 then testFails s block.toNat failStep
      else if x.targeted || due then testPasses s block.toNat micros
      else modBlock s b (fun x => { x with last := 0, passed := true }))

/-- The next block in service in ascending order after n, wrapping. -/
def nextInService (s : State) (r kind n : Nat) : Option Nat :=
  let l := inState s r kind .inService
  ((l.filter (fun b => decide (n < b))) ++ l).head?

/-- A block leaves service for its rotation test. -/
def leaveForTest (s : State) (b : Nat) : State := modBlock s b (fun x => { x with state := .underTest, targeted := false, passed := false })

/-- The engine that a region's rotation tested last. -/
def rotation (s : State) : Er → Nat
  | .A => s.health.rotA
  | .B => s.health.rotB

/-- The rotation goes on to an engine. -/
def setRotation (s : State) (er : Er) (b : Nat) : State :=
  match er with
  | .A => s.setHealth { s.health with rotA := b }
  | .B => s.setHealth { s.health with rotB := b }

/-- ENGINE_ROTATION (R208): the engine UNDER TEST that has passed becomes SPARE, and a SPARE takes the place of the next engine
in service, which leaves at the end of its current run. With 33 engines the one that is left takes that place itself; an engine
whose test has not ended is waited for. -/
def execEngineRotation (er : Er) (s : State) : Out :=
  let r := erNum er
  let tests := (inState s r 1 .underTest).filter (fun b => !(s.block b).targeted)
  whenPowered s (
    if s.dev.dstate ≠ .run || !s.serving er || tests.any (fun b => !(s.block b).passed) then s
    else
      match (inState s r 1 .spare ++ tests).head?, nextInService s r 1 (tests.head?.getD (rotation s er)) with
      | some n, some b =>
        let s := tests.foldl (fun s u => modBlock s u (fun x => { x with state := .spare })) s
        let s := setRotation (modBlock s n (fun x => { x with state := .inService })) er b
        let e := look {} (s.region er).engines (b % 256)
        if e.running then s.setRegion er { s.region er with engines := put {} (s.region er).engines (b % 256) { e with leaving := true } }
        else leaveForTest s b
      | _, _ => s)

/-- ENGINE_LEAVES_SERVICE (R208): the current run of an engine that is to leave has ended. One that has erred since is no longer in
service: it takes its targeted test, or it is RETIRED and never returns (R204, R205). -/
def execEngineLeavesService (er : Er) (s : State) : Out :=
  let r := s.region er
  let done := r.engines.filter (fun e => e.2.leaving && !e.2.running)
  whenPowered s (done.foldl (fun s e =>
    let b := blockId (erNum er) 1 e.1
    let s := s.setRegion er { s.region er with engines := put {} (s.region er).engines e.1 { e.2 with leaving := false } }
    if (s.block b).state = .inService then leaveForTest s b else s) s)

/-- LANE_ROTATION (R209): the lane UNDER TEST that has passed, or a SPARE one, enters service and the next lane leaves. -/
def execLaneRotation (er : Er) (s : State) : Out :=
  let r := erNum er
  let passed := (inState s r 2 .underTest).filter (fun b => !(s.block b).targeted && (s.block b).passed)
  whenPowered s (
    if s.dev.dstate ≠ .run || !s.serving er then s
    else
      match (passed ++ inState s r 2 .spare).head? with
      | none => s
      | some u =>
        match nextInService s r 2 u with
        | some b => leaveForTest (modBlock s u (fun x => { x with state := .inService })) b
        | none => s)

/-- SCRUB_PASS (R210): corrected errors count, and one that recurs spares its segment. -/
def execScrubPass (er : Er) (corrected recurring : List (BitVec 16)) (s : State) : Out :=
  let s' := corrected.foldl (fun s b => modBlock s (blockOf b.toNat) (fun x => { x with corr := satInc x.corr })) s
  whenPowered s (recurring.foldl (fun s b => if s.serving er then spareBlock s er b.toNat 2 else s) s')

/-- The bit that a fixer's next known-answer test flips (R212). -/
def katBit (h : Health) : Er → Nat
  | .A => h.katA
  | .B => h.katB

/-- The bit walks through the 64 positions. -/
def walkKat (h : Health) : Er → Health
  | .A => { h with katA := (h.katA + 1) % 64 }
  | .B => { h with katB := (h.katB + 1) % 64 }

/-- FIXER_KAT (R212): a wrong outcome (dummy pair, bit) is a self-flag with cause 6. Of pair 1 the bit is the one that was
flipped; of the other pairs, the place where the fixer found a mismatch. -/
def execFixerKat (er : Er) (fail : Option (Nat × Nat)) (s : State) : Out :=
  let t := s.setHealth (walkKat s.health er)
  whenPowered s (match fail with
    | none => t
    | some (pair, b) =>
      selfFlag (recordN t (erNum er) 0x210B (erNum er) pair (if pair = 1 then katBit s.health er else b)) er 6 (blockId (erNum er) 4 0) false)

/-! ### The contact sheet (R213 to R216) -/

/-- HEALTH_RECORD_WRITE (R213): after the cutoff of R365 no such commit begins. -/
def execHealthRecordWrite (s : State) : Out :=
  whenPowered s (if s.dev.cutoff then s else s.setHealth { s.health with mram := s.health.blocks })

/-- `STATE` codes of R216. -/
def BState.code : BState → Nat
  | .inService => 0
  | .spare => 1
  | .underTest => 2
  | .retired => 3
  | .isolated => 4

/-- One entry (R216). -/
def blockBytes (s : State) (b : Nat) : Bytes :=
  let x := s.block b
  leBytes 8 (x.corr.toNat * 2 ^ 32 + x.last * 2 ^ 24 + x.state.code * 2 ^ 16 + b) ++ leBytes 8 (x.trans.toNat * 2 ^ 32 + x.lasting.toNat)
    ++ leBytes 8 x.ttime.toNat ++ leBytes 8 (x.tests.toNat * 2 ^ 32 + x.spares.toNat)

/-- The sheet (R214). -/
def contactSheet (s : State) : Bytes :=
  let p := s.pair
  leBytes 8 s.time.dtime.toNat ++ leBytes 8 s.nowTick
    ++ leBytes 8 (262 * 2 ^ 32 + p.stateB.code * 2 ^ 24 + p.stateA.code * 2 ^ 16 + erNum p.active * 2 ^ 8 + s.mode)
    ++ leBytes 8 (p.switches.toNat * 2 ^ 32 + p.rejoins.toNat) ++ leBytes 8 (p.referees.toNat * 2 ^ 32 + p.refdisc.toNat)
    ++ leBytes 8 p.tj.toNat ++ List.replicate 16 0 ++ allBlockIds.flatMap (blockBytes s)

/-- CONTACT_SHEET (R213, R214). -/
def execContactSheet (p : BitVec 7) (s : State) : Out := serve s p Req.contactSheet (owner0 p) (answerObject s p [] (contactSheet s))

/-- HEALTH_CLEAR (R213). -/
def execHealthClear (p : BitVec 7) (s : State) : Out :=
  serve s p Req.healthClear (owner0 p) (answer ((s.health.blocks.map Prod.fst).foldl (fun s b => modBlock s b (fun x => { x with corr := 0, trans := 0 })) s) p)

/-! ### Rejoin (R217 to R221) -/

/-- Region outs within 3,600 s. -/
def recentOuts (s : State) (er : Er) : Nat :=
  let now := s.dev.opTime.toNat
  ((match er with | .A => s.pair.outsA | .B => s.pair.outsB).filter (fun t => decide (now < t + 3600))).length

/-- A rejoin begins: phase 1 of R218. -/
def beginRejoin (s : State) (er : Er) : State :=
  let s := s.setPair { (s.setRegState er .testing).pair with rejoin := some { er := er, phase := 1, pass := 0 } }
  syncDev (raise (raise (recordT s (erNum er) 0x2108 (erNum er) (recentOuts s er)) 2) 1)

/-- The input that feeds a region is in range (R22). -/
def vinOf (s : State) : Er → Bool
  | .A => s.dev.vinA
  | .B => s.dev.vinB

/-- A region that is out can begin a rejoin: it is fed, its partner serves, and no other rejoin runs. -/
def mayRejoin (s : State) (er : Er) : Bool :=
  s.dev.dstate == .run && vinOf s er && s.serving (otherEr er) && s.pair.rejoin.isNone

/-- REJOIN_STARTED (R217): an OUT region rejoins by itself, and always within an update (R451, R457). -/
def execRejoinStarted (er : Er) (s : State) : Out :=
  let wanted := s.pair.autoRejoin || (s.img.update.map (fun u => u.trialOf == some er)).getD false
  whenPowered s (if s.regState er == .out && wanted && mayRejoin s er then beginRejoin s er else s)

/-- After the entry self-test: the first `need` sound blocks of a kind in service, the next under test, the rest spare. -/
def arrange (s : State) (r kind need : Nat) : State :=
  let live := (blocksOf r kind).filter (fun b => (s.block b).state != .retired)
  let t := live.zipIdx.foldl (fun s b => modBlock s b.1 (fun x => { x with
    state := if b.2 < need then .inService else if b.2 = need then .underTest else .spare
    last := 0, tests := x.tests + 1, ttime := s.time.dtime, passed := true })) s
  checkSpare s t r kind

/-- The other blocks' entry self-tests: a block that failed one has reported it before (R218). -/
def entryTests (s : State) (r : Nat) : State :=
  ((erKinds.filter (fun k => decide (3 ≤ k.1))).flatMap (fun k => blocksOf r k.1)).foldl (fun s b =>
    modBlock s b (fun x => if x.state = .retired then x else { x with last := 0, tests := x.tests + 1, ttime := s.time.dtime })) s

/-- A block of a region has still to take its targeted self-test (R192, R218 phase 1). -/
def testsDue (s : State) (r : Nat) : Bool :=
  (erKinds.flatMap (fun k => blocksOf r k.1)).any (fun b => (s.block b).targeted || (s.block b).segments != 0)

/-- A region has 32 engines and 8 lanes that are not retired (R218 phase 1). -/
def enoughBlocks (s : State) (r : Nat) : Bool :=
  let live (k : Nat) : Nat := ((blocksOf r k).filter (fun b => (s.block b).state != .retired)).length
  decide (32 ≤ live 1 ∧ 8 ≤ live 2)

/-- The rejoin of a region, when it is in a phase. -/
def inPhase (s : State) (er : Er) (ok : Nat → Bool) : Option Rejoin :=
  match s.pair.rejoin with
  | some j => if j.er = er ∧ ok j.phase then some j else none
  | none => none

/-- REJOIN_TESTING_COMPLETE (R218 phase 1). -/
def execRejoinTestingComplete (er : Er) (memoryBad : Bool) (s : State) : Out :=
  let r := erNum er
  whenPowered s (match inPhase s er (fun n => n == 1) with
    | none => s
    | some j =>
      if memoryBad || !enoughBlocks s r then abandonRejoin s 0xFFFF true
      else if testsDue s r then s
      else
        let s := arrange (arrange (entryTests s r) r 1 32) r 2 8
        let s := s.setPair { (s.setRegState er .joining).pair with rejoin := some { j with phase := 2 } }
        syncDev (raise s 1))

/-- REJOIN_COPY_PASS_COMPLETE (R218 phases 2 to 4): the final pass follows once at most 256 KiB are dirty. -/
def execRejoinCopyPassComplete (er : Er) (dirtyPages : Nat) (s : State) : Out :=
  whenPowered s (match inPhase s er (fun n => decide (2 ≤ n ∧ n ≤ 4)) with
    | none => s
    | some j =>
      let n := j.pass + 1
      let next := if j.phase = 4 then 5 else if dirtyPages ≤ 64 ∨ n ≥ 4 then 4 else 3
      s.setPair { s.pair with rejoin := some { j with phase := next, pass := n, tj := s.fab.nextTick } })

/-- Work that the joining region inherits and that the mirror has still to complete (R220). -/
def inheritedWorks (r : Region) : List WorkRef :=
  (r.runs.filter (fun x => !x.closedSent)).map (fun x => .run x.slot x.no)
    ++ (r.samples.filter (fun x => !x.decided)).map (fun x => .sample x.slot x.tick)

/-- REJOIN_JOIN (R218 phase 5, R219): the region holds the ACTIVE region's copy, and applies tick tj itself. The state that a sample
evaluated before the join left stands in the copy, so no mirror writes it again (R171). -/
def execRejoinJoin (er : Er) (s : State) : Out :=
  let a := s.region (otherEr er)
  let tj := a.tick + 1
  whenPowered s (match inPhase s er (fun n => n == 5) with
    | none => s
    | some j =>
      if s.dev.dstate ≠ .run || decide (tj.toNat < j.tj.toNat) then s
      else
        let mine : Region := { a with
          runs := a.runs.map (fun x => { x with inherited := true })
          samples := a.samples.map (fun x => { x with inherited := true, settled := x.settled || x.evaluated })
          kept := [], keptSamples := [], engines := [] }
        let s := (s.setRegion er mine).setQueue (stagingQueue er) ((s.queue (stagingQueue er)).clear.write (stagingSize a.staging))
        let s := s.setRegState er .standby
        let s := s.setPair { s.pair with rejoin := none, tj := tj, lead := otherEr er, rejoins := satInc s.pair.rejoins, mirror := inheritedWorks a }
        let s := match er with
          | .A => s.setIr { s.ir with relA := [], notA := [] }
          | .B => s.setIr { s.ir with relB := [], notB := [] }
        let s := recordN s (erNum er) 0x2109 (erNum er) j.pass (tj.toNat % 2 ^ 32)
        let s := syncDev (raise (raise (raise s 2) 1) 14)
        let s := if (s.img.update.map (fun u => u.trialOf == some er && !u.onTrial && !onNew s er)).getD false then startTrial s else s
        reloadRegions s)

/-- MIRROR_ACK (R220): every write of an inherited run or sample has completed in the joined region. -/
def execMirrorAck (w : WorkRef) (s : State) : Out :=
  let a := s.lead
  let o := otherEr a
  whenPowered s (
    if !s.pair.mirror.contains w || !s.duplex then s
    else
      match w with
      | .run slot no =>
        match findRun (s.region a) slot no with
        | none => s.setPair { s.pair with mirror := s.pair.mirror.erase w }
        | some x =>
          if x.phase != .closed then s
          else
            let s := s.setPair { s.pair with mirror := s.pair.mirror.erase w }
            let r := s.region o
            let s := s.setRegion o { r with vars := put [] r.vars slot.toNat (look [] (s.region a).vars slot.toNat) }
            if x.decided && !x.closedSent then
              let mark (s : State) (er : Er) : State := s.setRegion er (modRun (s.region er) slot no (fun x => { x with closedSent := true }))
              pushNotice (mark (mark s .A) .B) a (.closed slot no)
            else s
      | .sample slot t =>
        match findSample (s.region a) slot t with
        | none => s.setPair { s.pair with mirror := s.pair.mirror.erase w }
        | some x =>
          if !x.evaluated then s
          else
            let s := s.setPair { s.pair with mirror := s.pair.mirror.erase w }
            let r := s.region o
            match findSample r slot t with
            | some y =>
              if y.settled then s
              else
                let r := modSample r slot t (fun y => { y with words := x.words, settled := true })
                s.setRegion o (setLoop r slot.toNat (writeBack (loopOf r slot.toNat) (loopLaw x)))
            | none => s)

/-! ### Health commands (R187, R192, R217) -/

/-- AUTO_REJOIN (R217). -/
def execAutoRejoin (p : BitVec 7) (en : W32) (s : State) : Out :=
  serve s p (Req.autoRejoin en) (owner0 p) (checked s p [(decide (en.toNat < 2), .reservedSet)]
    (answer (s.setPair { s.pair with autoRejoin := en == 1 }) p))

/-- The region that a request names. -/
def regionArg (n : W32) : Er := if n = 0 then .A else .B

/-- REJOIN (R217): of a HELD or OUT region. -/
def execRejoin (p : BitVec 7) (region : W32) (s : State) : Out :=
  let er := regionArg region
  serve s p (Req.rejoin region) (owner0 p) (checked s p
    [(decide (region.toNat < 2), .outOfRange), ((s.regState er == .out || s.regState er == .held) && mayRejoin s er, .conflict)]
    (answer (beginRejoin s er) p))

/-- REGION_OUT (R192 cause 11): refused for the only region in service. -/
def execRegionOut (p : BitVec 7) (region : W32) (s : State) : Out :=
  let er := regionArg region
  serve s p (Req.regionOut region) (owner0 p) (checked s p
    [(decide (region.toNat < 2), .outOfRange), (s.duplex, .conflict)]
    (answer (takeOut s er 0xFFFF 11 5) p))

/-- ROLE_SWAP (R187): refused outside DUPLEX. -/
def execRoleSwap (p : BitVec 7) (s : State) : Out :=
  serve s p Req.roleSwap (owner0 p) (checked s p [(s.duplex, .conflict)] (present s p [.roleSwap]))

end Sys2Proof.Machine
end

