-- ==== Sys2Proof/Machine/Fixer.lean ====
section
/-! DEFINITION. The fixers (R72, R93, R99, R100, R180, R181, R188 to R191) and the referee (R197 to R202). -/

namespace Sys2Proof.Machine

/-! ### Journals (R188) -/

/-- `EKIND`. -/
def entryKind (w : W64) : Nat := bits w 63 60
/-- `TARGET`. -/
def entryTarget (w : W64) : Nat := bits w 51 32
/-- The entries of a closed journal, without its close words. -/
def journalBody (j : List W64) : List W64 := j.take (j.length - 2)
/-- Close word 0. -/
def close0 (j : List W64) : W64 := j.getD (j.length - 2) 0
/-- Close word 1. -/
def close1 (j : List W64) : W64 := j.getD (j.length - 1) 0
/-- The abort mark. -/
def journalAbort (j : List W64) : Bool := bit (close0 j) 59
/-- The duration D. -/
def journalDuration (j : List W64) : BitVec 48 := BitVec.ofNat 48 (bits (close1 j) 31 16 * 2 ^ 32 + bits (close0 j) 31 0)
/-- The address-fault count. -/
def journalFaults (j : List W64) : Nat := bits (close1 j) 15 0

/-! ### Decisions (R72, R93, R99, R100, R180, R181) -/

/-- One fixer alone decides a work: in SIMPLEX, and an inherited work (R190, R201, R220). -/
def lone (s : State) (w : WorkRef) : Bool := !s.duplex || inheritedWork s w

/-- The fixers that release a work: both, or the one that decides alone (R190, R219). -/
def senders (s : State) (w : WorkRef) : List Er := if lone s w then [s.lead] else [.A, .B]

/-- A value as a region's fixer releases it: the force's value in place of the journal's, then the clamp, each from the region's own
tables (R72, R189). -/
def fixerValue (r : Region) (w : WorkRef) (i : Nat) (v : W32) (tick : W64) : Release :=
  let f := forceOn r i
  let v := match f with
    | some f => forcedValue r f
    | none => v
  let (v, c) := clampPoint r i v
  .value (some w) (BitVec.ofNat 20 i) v (nanOf (typeOf r i) v) c f.isSome tick

/-- The release of one journal entry of a fixed run; events travel in the FIXED notice (R93). -/
def entryRelease (r : Region) (w : WorkRef) (tick : W64) (e : W64) : Option Release :=
  let v : W32 := e.setWidth 32
  let slot : BitVec 13 := BitVec.ofNat 13 (entryTarget e)
  match entryKind e with
  | 1 => some (fixerValue r w (entryTarget e) v tick)
  | 2 => some (.request w (.setpoint slot v))
  | 3 => some (.request w (.bank slot (bit v 0)))
  | _ => none

/-- Every fixer that releases the work sends its releases. -/
def sendReleases (s : State) (w : WorkRef) (xs : Region → List Release) : State :=
  (senders s w).foldl (fun s er => (xs (s.region er)).foldl (fun s x => pushRelease s er x) s) s

/-- Send one notice from every fixer that releases the work. -/
def sendNotice (s : State) (w : WorkRef) (x : Notice) : State := (senders s w).foldl (fun s er => pushNotice s er x) s

/-- Change a run in every region in service. -/
def modRuns (s : State) (slot : BitVec 9) (no : W32) (f : Run → Run) : State :=
  eachServing s (fun s er => s.setRegion er (modRun (s.region er) slot no f))

/-- Both regions' journals are closed: the CLOSED notice is sent once, of an inherited run after the mirror (R93, R220). -/
def sendClosed (s : State) (x : Run) : State :=
  let w := WorkRef.run x.slot x.no
  if x.closedSent || s.pair.mirror.contains w then s
  else sendNotice (modRuns s x.slot x.no (fun x => { x with closedSent := true })) w (.closed x.slot x.no)

/-- The fixers' decision for a run with journal j: fixed or aborted, or discarded when it is not released (R93, R99, R100,
R128, R200). -/
def decideRun (s : State) (x : Run) (j : List W64) (released : Bool) : State :=
  let w := WorkRef.run x.slot x.no
  let src := erNum s.pair.active
  let s := modRuns s x.slot x.no (fun x => { x with decided := true })
  let body := journalBody j
  if !released then sendNotice (retract s x.slot j) w (.fixed x.slot x.no .discarded [])
  else if journalAbort j then
    let limit := ((taskOf s.image x.slot).map watchdogLimit).getD 0
    let s := modSlots (retract s x.slot j) x.slot (fun x => { x with aborts := satInc x.aborts })
    let s := raise (recordN s src 0x1103 x.slot.toNat x.no.toNat (limit % 2 ^ 32)) 11
    sendNotice s w (.fixed x.slot x.no .aborted [])
  else
    let evs := (body.filter (fun e => entryKind e == 4)).map (fun e => (BitVec.ofNat 9 (entryTarget e), (e.setWidth 16 : BitVec 16)))
    let s := sendReleases s w (fun r => body.filterMap (entryRelease r w x.tick))
    let s := modSlots s x.slot (fun y => { y with lastDuration := journalDuration j })
    let s := if journalFaults j = 0 then s else recordN s src 0x1301 x.slot.toNat x.no.toNat (journalFaults j)
    sendNotice s w (.fixed x.slot x.no .fixed evs)

/-- The fixers' decision for a loop sample with entry j (R180, R181). -/
def decideSample (s : State) (x : Sample) (j : List W64) (released : Bool) : State :=
  let w := WorkRef.sample x.slot x.tick
  let order := (s.image.samples.filter (fun y => y.tick == x.tick && y.decided)).length + 1
  let s := eachServing s (fun s er => s.setRegion er (modSample (s.region er) x.slot x.tick (fun y =>
    { y with decided := true, discarded := !released, order := order })))
  let s := if released then
      sendReleases s w (fun r => [fixerValue r w (bits (look 0 x.words 2) 19 0) ((j.getD 0 0).setWidth 32) x.tick])
    else retractSample s x.slot x.tick
  eachServing s loopNotices

/-! ### Comparison (R180, R189 to R191) -/

/-- Start a referee of a work (R198, R202). -/
def startReferee (s : State) (w : WorkRef) : State :=
  let s := match w with
    | .run slot no => modRuns s slot no (fun x => { x with refereeing := true })
    | .sample slot t => eachServing s (fun s er => s.setRegion er (modSample (s.region er) slot t (fun x => { x with refereeing := true })))
  s.setPair { s.pair with refs := s.pair.refs ++ [{ work := w }] }

/-- A run that its fixer can compare or release: closed, not decided, no earlier run of its slot undecided (R93). -/
def openRun (r : Region) (slot : BitVec 9) (no : W32) : Option Run :=
  match r.runs.find? (fun x => x.slot == slot && !x.decided) with
  | some x => if x.no = no ∧ x.phase = .closed ∧ x.refereeing = false then some x else none
  | none => none

/-- The fixers hold the closed journals of an undecided run that they need: both, or the own one where it decides alone. -/
def journalsHeld (s : State) (slot : BitVec 9) (no : W32) : Option Run :=
  let closed (er : Er) : Option Run := (findRun (s.region er) slot no).filter (fun x => x.phase == .closed && !x.decided)
  let a := s.lead
  (closed a).filter (fun _ => lone s (.run slot no) || (closed (otherEr a)).isSome)

/-- FIX_COMPARISON (R189, R190): the CLOSED notice is sent as soon as the journals are held; the decision waits for those of the
slot's earlier runs (R93). -/
def execFixComparison (slot : BitVec 9) (no : W32) (s : State) : Out :=
  let a := s.lead
  whenPowered s (
    if s.dev.dstate ≠ .run then s
    else
      let s := match journalsHeld s slot no with
        | some x => sendClosed s x
        | none => s
      match openRun (s.region a) slot no with
      | none => s
      | some x =>
        if lone s (.run slot no) then decideRun s x x.journal true
        else
          match openRun (s.region (otherEr a)) slot no with
          | none => s
          | some y =>
            if x.journal = y.journal then decideRun s x x.journal true else startReferee s (.run slot no))

/-- A sample that can be compared: evaluated, not decided, no earlier tick undecided (R181). -/
def openSample (r : Region) (slot : BitVec 13) (tick : W64) : Option Sample :=
  if r.samples.any (fun x => decide (x.tick.toNat < tick.toNat) && !x.decided) then none
  else r.samples.find? (fun x => x.slot == slot && x.tick == tick && x.evaluated && !x.decided && !x.refereeing)

/-- LOOP_SAMPLE_COMPARE (R180, R190). -/
def execLoopSampleCompare (slot : BitVec 13) (tick : W64) (s : State) : Out :=
  let a := s.lead
  whenPowered s (
    if s.dev.dstate ≠ .run then s
    else
      match openSample (s.region a) slot tick with
      | none => s
      | some x =>
        if lone s (.sample slot tick) then decideSample s x x.entry true
        else
          match openSample (s.region (otherEr a)) slot tick with
          | none => s
          | some y => if x.entry = y.entry then decideSample s x x.entry true else startReferee s (.sample slot tick))

/-- A region has closed its own journal of a work. -/
def closedIn (r : Region) (w : WorkRef) : Bool :=
  match w with
  | .run slot no => ((findRun r slot no).map (fun x => x.phase == .closed && !x.decided)).getD false
  | .sample slot t => ((findSample r slot t).map (fun x => x.evaluated && !x.decided)).getD false

/-- A work's recorder parameters: slot, with bit [31] for a loop, and run number or tick. -/
def workParams (w : WorkRef) : Nat × Nat :=
  match w with
  | .run slot no => (slot.toNat, no.toNat)
  | .sample slot t => (slot.toNat + 2 ^ 31, t.toNat % 2 ^ 32)

/-- JOURNAL_TIMEOUT (R191): the late region is taken out with cause 5. -/
def execJournalTimeout (late : Er) (w : WorkRef) (s : State) : Out :=
  let own := otherEr late
  whenPowered s (
    if s.dev.dstate ≠ .run || lone s w || !closedIn (s.region own) w || closedIn (s.region late) w then s
    else
      let (p2, p3) := workParams w
      takeOut (raise (recordN s (erNum own) 0x210C (erNum late) p2 p3) 6) late 0xFFFF 5 2)

/-! ### The referee (R197 to R202) -/

/-- The case in progress of a work. -/
def refOf (s : State) (w : WorkRef) : Option Referee := s.pair.refs.find? (fun x => x.work == w)

/-- Copy one 64-byte line. -/
def copyLine (src dst : Mem) (l : Nat) : Mem := dst.writeBytes (64 * l) (src.readBytes (64 * l) 64)

/-- What a re-execution reads: the current VAR under the pre-images of later unfixed runs and of the run itself (R198). -/
def redoView (r : Region) (x : Run) : Mem :=
  let later := ((runsOf r x.slot).filter (fun y => decide (x.no.toNat < y.no.toNat))).reverse
  let over_ (m : Mem) (y : Run) : Mem := y.lines.foldl (copyLine y.pre) m
  over_ (later.foldl over_ (look [] r.vars x.slot.toNat)) x

/-- The order in which a block takes a re-execution: a SPARE engine, the block UNDER TEST (its test is suspended), a block in service
(R198); of the lanes, the one UNDER TEST and then those in service (R202). -/
def redoRank (s : State) (b : Nat) : Option Nat :=
  match (s.block b).state with
  | .spare => if blkKind b = 1 then some 0 else none
  | .underTest => some 1
  | .inService => some 2
  | _ => none

/-- The unit that takes a second execution: one that is free, while no free unit comes before it in that order; never the unit of the
first execution. -/
def takesRedo (s : State) (er : Er) (kind first unit : Nat) (busy : Nat → Bool) : Bool :=
  let rank (n : Nat) : Option Nat := if n = first ∨ busy n then none else redoRank s (blockId (erNum er) kind n)
  match rank unit with
  | none => false
  | some k => ((blocksOf (erNum er) kind).map (fun b => b % 256)).all (fun n => ((rank n).map (fun j => decide (k ≤ j))).getD true)

/-- A test under way is suspended. -/
def suspendTest (s : State) (b : Nat) : State :=
  if (s.block b).state = .underTest then modBlock s b (fun x => { x with last := 3, passed := false }) else s

/-- A region in service executes a refereed work again: both, or the one that decides it alone (R201). -/
def refereeIn (s : State) (er : Er) (w : WorkRef) : Bool := s.serving er && (!lone s w || er == s.lead)

/-- REFEREE_HANDOVER (R198, R202): `unit` is the engine or lane that takes the second execution. -/
def execRefereeHandover (er : Er) (w : WorkRef) (unit : Nat) (s : State) : Out :=
  let r := s.region er
  match w with
  | .run slot no =>
    let b := blockId (erNum er) 1 unit
    if unit ≥ 34 then .fault .noSuchUnit
    else whenPowered s (
      match refOf s w, findRun r slot no, taskOf r slot with
      | some _, some x, some k =>
        let again := r.engines.any (fun e => e.2.running && e.2.redo && e.2.slot == slot && e.2.run == no)
        if again || !refereeIn s er w || x.second != [] || !x.refereeable || !takesRedo s er 1 x.engine unit (fun n => (engineOf r n).running) then s
        else
          let e : Engine := { running := true, redo := true, slot := slot, run := no, part := k.part, pc := k.entry, view := redoView r x }
          (suspendTest s b).setRegion er { r with engines := put {} r.engines unit e }
      | _, _, _ => s)
  | .sample slot t =>
    let b := blockId (erNum er) 2 unit
    if unit ≥ 9 then .fault .noSuchUnit
    else whenPowered s (
      match refOf s w, findSample r slot t with
      | some _, some x =>
        if !refereeIn s er w || x.second != [] || !takesRedo s er 2 x.lane unit (fun _ => false) then s
        else (suspendTest s b).setRegion er (modSample r slot t (fun x => { x with second := (loopLaw x).entry }))
      | _, _ => s)

/-- The executions of a work in one region: first, second, their signatures, whether it can be refereed, and the block of the
first. -/
structure Execs where
  first : List W64
  second : List W64
  sig1 : W64
  sig2 : W64
  ok : Bool
  block : Nat
  deriving DecidableEq, Repr

/-- The two executions agree (R199). -/
def Execs.agree (x : Execs) : Bool := x.first == x.second && x.sig1 == x.sig2

/-- The executions of a work in one region. -/
def execsOf (s : State) (er : Er) (w : WorkRef) : Option Execs :=
  match w with
  | .run slot no => (findRun (s.region er) slot no).map (fun x =>
      { first := x.journal, second := x.second, sig1 := x.sig, sig2 := x.sig2, ok := x.refereeable, block := blockId (erNum er) 1 x.engine })
  | .sample slot t => (findSample (s.region er) slot t).map (fun x =>
      { first := x.entry, second := x.second, sig1 := 0, sig2 := 0, ok := true, block := blockId (erNum er) 2 x.lane })

/-- The tick at whose boundary a work's result is late (R200). -/
def workDeadline (s : State) (w : WorkRef) : Nat :=
  let r := s.image
  match w with
  | .run slot no => match findRun r slot no, taskOf r slot with
    | some x, some k => deadlineTick k x
    | _, _ => 0
  | .sample slot t => t.toNat + ((findSample r slot t).map (fun x => bits (look 0 x.words 0) 26 0)).getD 0

/-- Decide a work with the given words, when it has not been decided yet. -/
def decideWork (s : State) (w : WorkRef) (j : List W64) (released : Bool) : State :=
  match w with
  | .run slot no => match findRun s.image slot no with
    | some x => if x.decided then s else decideRun s x j released
    | none => s
  | .sample slot t => match findSample s.image slot t with
    | some x => if x.decided then s else decideSample s x j released
    | none => s

/-- What the referee finds: case, result if there is one, regions named as differing, regions to leave, blocks to test. -/
structure Verdict where
  case_ : Nat
  result : Option (List W64)
  differ : List Er
  out : List Er
  test : List (Er × Nat)
  deriving DecidableEq, Repr

/-- The table of R199, and R201 for a region that decides alone: its partner left during the referee, whether or not it has joined
again since (R220). DESIGN CHOICE (log entry 116): alone on a run that is not refereeable there are no two executions to compare: the
run is discarded, no region goes out, and the case recorded is 5. -/
def verdict (s : State) (w : WorkRef) : Option Verdict :=
  let act := s.lead
  let standby := otherEr s.pair.active
  match execsOf s act w with
  | none => none
  | some own =>
    if lone s w then
      if !own.ok then some { case_ := 5, result := none, differ := [], out := [], test := [] }
      else if own.second = [] then none
      else if own.agree then some { case_ := 6, result := some own.first, differ := [], out := [], test := [] }
      else some { case_ := 7, result := none, differ := [act], out := [], test := [] }
    else
      match execsOf s .A w, execsOf s .B w with
      | some a, some b =>
        if !a.ok || !b.ok then some { case_ := 5, result := none, differ := [], out := [standby], test := [] }
        else if a.second = [] || b.second = [] then none
        else
          let one (n : Nat) (er : Er) (bad good : Execs) : Verdict :=
            let transient := bad.second == good.first && bad.sig2 == good.sig1 && bad.sig1 == good.sig1
            { case_ := n, result := some good.first, differ := [er], out := if transient then [] else [er],
              test := if transient then [(er, bad.block)] else [] }
          match a.agree, b.agree with
          | true, true => some { case_ := 1, result := some (match s.pair.active with | .A => a.first | .B => b.first), differ := [], out := [standby], test := [] }
          | false, true => some (one 2 .A a b)
          | true, false => some (one 3 .B b a)
          | false, false => some { case_ := 4, result := none, differ := [.A, .B], out := [standby], test := [(.A, a.block), (.B, b.block)] }
      | _, _ => none

/-- Forget a referee case and what was kept for it. -/
def endReferee (s : State) (w : WorkRef) : State :=
  let s := s.setPair { s.pair with refs := s.pair.refs.filter (fun x => x.work != w) }
  let one (s : State) (er : Er) : State :=
    let r := s.region er
    match w with
    | .run slot no =>
      let r := modRun r slot no (fun x => { x with refereeing := false })
      s.setRegion er { r with kept := r.kept.filter (fun x => !(x.slot == slot && x.no == no)) }
    | .sample slot t =>
      let r := modSample r slot t (fun x => { x with refereeing := false })
      s.setRegion er { r with keptSamples := r.keptSamples.filter (fun x => !(x.slot == slot && x.tick == t)) }
  one (one s .A) .B

/-- A block takes its targeted self-test (R199): one in service is replaced by a spare, a SPARE one or one UNDER TEST needs none. -/
def testBlock (s : State) (er : Er) (b : Nat) : State :=
  match (s.block b).state with
  | .inService => spareBlock s er b 1
  | .retired => s
  | _ => modBlock s b (fun x => { x with state := .underTest, targeted := true })

/-- REFEREE_DECIDED (R199 to R202). -/
def execRefereeDecided (w : WorkRef) (s : State) : Out :=
  whenPowered s (
    if s.dev.dstate ≠ .run then s
    else
      match refOf s w, verdict s w with
      | some c, some v =>
        let intime := !c.expired && decide (s.time.dtime.toNat < workDeadline s w * 10000)
        let released := intime && v.result.isSome
        let first := ((execsOf s s.lead w).map (fun x => x.first)).getD []
        let s := s.setPair { s.pair with
          referees := satInc s.pair.referees
          refdisc := if released then s.pair.refdisc else satInc s.pair.refdisc }
        let (p1, p3) := workParams w
        let s := raise (recordN s (erNum s.pair.active) 0x2103 p1 (v.case_ + released.toNat * 256) p3) 5
        let s := endReferee (decideWork s w (v.result.getD first) released) w
        let named := v.differ.any (fun er => (s.img.update.map (fun u => u.trialOf == some er)).getD false)
        let s := v.test.foldl (fun s t => if s.serving t.1 then testBlock s t.1 t.2 else s) s
        let s := v.out.foldl (fun s er => if s.duplex && s.serving er then takeOut s er 0xFFFF 9 4 else s) s
        if named then critFails s 1 else s
      | _, _ => s)

/-- REFEREE_DEADLINE (R200): the result comes too late, whatever the referee will find. -/
def execRefereeDeadline (w : WorkRef) (s : State) : Out :=
  whenPowered s (
    match refOf s w with
    | none => s
    | some c =>
      if c.expired || s.dev.dstate ≠ .run then s
      else
        let s := advanceTo s (workDeadline s w * 10000)
        let first := ((execsOf s s.lead w).map (fun x => x.first)).getD []
        let s := s.setPair { s.pair with refs := s.pair.refs.map (fun x => if x.work = w then { x with expired := true } else x) }
        decideWork s w first false)

end Sys2Proof.Machine
end

