-- ==== Sys2Proof/Machine/FuncBlocks.lean ====
section
/-! DEFINITION. One scan of a function-block instance (R129 to R134). -/

namespace Sys2Proof.Machine

/-- The inputs of a scan: condition bits, the registers W(b) to W(b+2), the exposure time and `EDGE_INIT`. -/
structure FbIn where
  ci : Bool
  cj : Bool
  ck : Bool
  cl : Bool
  b : W64
  b1 : W64
  b2 : W64
  xtime : W64
  edgeInit : Bool
  deriving DecidableEq, Repr

/-- An instance: its four words (R129). -/
structure FbInst where
  w0 : W64
  v : W64
  last : W64
  pvl : W64
  deriving DecidableEq, Repr

/-- What a scan gives: the instance, Q, the second output of CTUD, and the numeric output. -/
structure FbOut where
  inst : FbInst
  q : Bool
  q2 : Bool
  wd : W64
  deriving DecidableEq, Repr

/-- `INIT`. -/
def fInit : Nat := 0
/-- `Q`. -/
def fQ : Nat := 1
/-- `PIN`. -/
def fPin : Nat := 2
/-- `PJ`. -/
def fPj : Nat := 3
/-- `QD`. -/
def fQd : Nat := 4
/-- `OVF`. -/
def fOvf : Nat := 5
/-- `LASTV`. -/
def fLastv : Nat := 6

/-- The first scan of an instance (R130). -/
def FbInst.first (x : FbInst) : Bool := !bit x.w0 fInit

/-- The interval since the last scan: 0 at a first scan or without a stamp (R130, R131). -/
def FbInst.dt (x : FbInst) (now : W64) : Int := if x.first || !bit x.w0 fLastv then 0 else now.toInt - x.last.toInt

/-- The previous edge input at this scan (R130). -/
def FbInst.prevEdge (x : FbInst) (edgeInit cur : Bool) (flag : Nat) : Bool :=
  if x.first then (if edgeInit then false else cur) else bit x.w0 flag

/-- Every block: the first scan sets `INIT`, and Q and PIN are stored. -/
def FbInst.mark (x : FbInst) (q pin : Bool) : W64 := setBit (setBit (setBit x.w0 fInit true) fQ q) fPin pin

/-- The timing rule of a block: preset, elapsed time, interval, input, previous input, Q, to elapsed time and Q (R131). -/
abbrev TimerRule := Int → Int → Int → Bool → Bool → Bool → Int × Bool

/-- TON (R131). -/
def tonRule : TimerRule := fun pt et dt i pin _ =>
  let et := if i && pin then min pt (et + dt) else 0
  (et, i && decide (et ≥ pt))

/-- TOF (R131). -/
def tofRule : TimerRule := fun pt et dt i pin q =>
  if i then (0, true)
  else if pin then (0, decide (pt > 0))
  else if q then let et := min pt (et + dt); (et, decide (et < pt))
  else (et, q)

/-- TP (R131). -/
def tpRule : TimerRule := fun pt et dt i pin q =>
  if q then let et := min pt (et + dt); (et, decide (et < pt))
  else if i && !pin then (0, decide (pt > 0))
  else if !i then (0, q)
  else (et, q)

/-- A timer scan (R131). -/
def timerScan (rule : TimerRule) (i : FbIn) (x : FbInst) : FbOut :=
  let pt : Int := max 0 i.b.toInt
  let pin := if x.first then false else bit x.w0 fPin
  let (et, q) := rule pt x.v.toInt (x.dt i.xtime) i.ci pin (bit x.w0 fQ)
  let v := BitVec.ofInt 64 et
  { inst := { w0 := setBit (x.mark q i.ci) fLastv true, v := v, last := i.xtime, pvl := BitVec.ofInt 64 pt }, q := q, q2 := false, wd := v }

/-- A count that would pass the INT32 range leaves CV there and sets `OVF` (R132). -/
def countBy (cv d : Int) (ovf : Bool) : Int × Bool :=
  if cv + d > 2147483647 ∨ cv + d < -2147483648 then (cv, true) else (cv + d, ovf)

/-- CV as INT32. -/
def FbInst.cv (x : FbInst) : Int := (x.v.setWidth 32).toInt

/-- A counter scan: what became of CV and `OVF`, and the outputs (R132). -/
def counterOut (i : FbIn) (x : FbInst) (cv : Int) (ovf q q2 : Bool) (pj : Bool) : FbOut :=
  let v := BitVec.ofInt 64 cv
  let w := setBit (setBit (setBit (x.mark q i.ci) fOvf ovf) fQd q2) fPj pj
  { inst := { w0 := w, v := v, last := 0, pvl := (i.b.setWidth 32).signExtend 64 }, q := q, q2 := q2, wd := v }

/-- The preset PV. -/
def FbIn.pv (i : FbIn) : Int := (i.b.setWidth 32).toInt

/-- CTU (R132). -/
def ctuScan (i : FbIn) (x : FbInst) : FbOut :=
  let edge := i.ci && !x.prevEdge i.edgeInit i.ci fPin
  let (cv, o) := if i.ck then (0, false) else if edge then countBy x.cv 1 (bit x.w0 fOvf) else (x.cv, bit x.w0 fOvf)
  counterOut i x cv o (decide (cv ≥ i.pv)) false false

/-- CTD (R132). -/
def ctdScan (i : FbIn) (x : FbInst) : FbOut :=
  let edge := i.ci && !x.prevEdge i.edgeInit i.ci fPin
  let (cv, o) := if i.cl then (i.pv, false) else if edge then countBy x.cv (-1) (bit x.w0 fOvf) else (x.cv, bit x.w0 fOvf)
  counterOut i x cv o (decide (cv ≤ 0)) false false

/-- CTUD (R132): edges of both inputs leave CV alone. -/
def ctudScan (i : FbIn) (x : FbInst) : FbOut :=
  let up := i.ci && !x.prevEdge i.edgeInit i.ci fPin
  let dn := i.cj && !x.prevEdge i.edgeInit i.cj fPj
  let (cv, o) :=
    if i.ck then (0, false)
    else if i.cl then (i.pv, false)
    else if up && !dn then countBy x.cv 1 (bit x.w0 fOvf)
    else if dn && !up then countBy x.cv (-1) (bit x.w0 fOvf)
    else (x.cv, bit x.w0 fOvf)
  counterOut i x cv o (decide (cv ≥ i.pv)) (decide (cv ≤ 0)) i.cj

/-- A block without numeric output: `WD` receives Q (R129, R133). -/
def edgeOut (i : FbIn) (x : FbInst) (q : Bool) : FbOut :=
  { inst := { w0 := x.mark q i.ci, v := 0, last := 0, pvl := 0 }, q := q, q2 := false, wd := if q then 1 else 0 }

/-- RTRIG (R133). -/
def rtrigScan (i : FbIn) (x : FbInst) : FbOut := edgeOut i x (i.ci && !x.prevEdge i.edgeInit i.ci fPin)

/-- FTRIG (R133). -/
def ftrigScan (i : FbIn) (x : FbInst) : FbOut := edgeOut i x (x.prevEdge i.edgeInit i.ci fPin && !i.ci)

/-- SR (R133): set dominates. -/
def srScan (i : FbIn) (x : FbInst) : FbOut := edgeOut i x (i.ci || (bit x.w0 fQ && !i.ck))

/-- RS (R133): reset dominates. -/
def rsScan (i : FbIn) (x : FbInst) : FbOut := edgeOut i x (!i.ck && (i.ci || bit x.w0 fQ))

/-- 10^-9 as the nearest binary64 value (R134). -/
def nano64 : Nat := 0x3E112E0BE826D695

/-- A RAMP operand as binary64. -/
def rampIn (ty : Ty) (w : W64) : Nat :=
  match ty with
  | .real32 => (fmt32.convert fmt64 false (readReal ty w)).1
  | _ => (fmt64.ofInt false (readInt ty w)).1

/-- The order of two binary64 patterns; none with a NaN. -/
def cmp64 (a b : Nat) : Option Int := if fmt64.isNan a || fmt64.isNan b then none else some ((fmt64.decode a).cmp (fmt64.decode b))

/-- The step of RAMP (R134). -/
def rampStep (rate : Nat) (dt : Int) : Nat :=
  let acts := match cmp64 rate 0 with
    | some d => decide (d > 0)
    | none => false
  if !acts || dt ≤ 0 then 0
  else
    match fmt64.decode rate with
    | .fin _ m e => (fmt64.mul (fmt64.round false false (m * dt.toNat) e false).1 nano64).1
    | _ => fmt64.inf false

/-- `Y` moved towards the target by at most step: not at all by a step of 0, and to it by an infinite step (R134). DESIGN CHOICE (log
entry 113): a stored `Y` that is a NaN, of which the rule says nothing, stays as it is, with `Q` 0. -/
def rampMove (y target step : Nat) : Nat :=
  match cmp64 y target with
  | some d =>
    if step = 0 then y
    else if step = fmt64.inf false then target
    else if d < 0 then (fmt64.min target (fmt64.add y step).1).1
    else if d > 0 then (fmt64.max target (fmt64.sub y step).1).1
    else y
  | none => y

/-- RAMP (R134). -/
def rampScan (ty : Ty) (i : FbIn) (x : FbInst) : FbOut :=
  let target := rampIn ty i.b
  let track := rampIn ty i.b2
  let y0 := x.v.toNat
  let y :=
    if fmt64.isNan target || fmt64.isNan track then y0
    else if x.first || i.ck then track
    else rampMove y0 target (rampStep i.b1.toNat (x.dt i.xtime))
  let q := match cmp64 y target with
    | some d => decide (d = 0)
    | none => false
  let wd := match ty with
    | .real32 => BitVec.ofNat 64 (fmt64.convert fmt32 false y).1
    | _ => holdInt .int32 (fmt64.toSigned false 32 y).1
  let w := setBit (setBit (setBit x.w0 fInit true) fQ q) fLastv true
  { inst := { w0 := w, v := BitVec.ofNat 64 y, last := i.xtime, pvl := 0 }, q := q, q2 := false, wd := wd }

end Sys2Proof.Machine
end

