-- ==== Sys2Proof/Machine/Golup.lean ====
section
/-! DEFINITION. The meanings of the Golup instructions (R121 to R134), one definition for each. -/

namespace Sys2Proof.Machine

/-! ### Shared forms -/

/-- A format O instruction that writes `WD`, and `CB` when `CW` is 1 (R117). DESIGN CHOICE (log entry 89): an instruction to which R125
and R126 give no status writes 0 there. -/
def opO (id : EngId) (f : OFields) (wf : Bool) (regs : Ctx → List Nat) (conds : List Nat) (issue result : Nat)
    (val : Ctx → W64 × Bool) (s : State) : Out :=
  golup id wf (fun c => { regs := regs c, conds := conds, writes := [f.wd.toNat] }) s (fun c t =>
    let (v, st) := val c
    let e := c.e.setReg f.wd.toNat v (t + result)
    let e := if f.cw then e.setCond f.cb.toNat st (t + result) else e
    { c with e := e.advance t issue })

/-- A format O instruction that writes `CB` (R121): `CW` is ignored. -/
def opC (id : EngId) (f : OFields) (wf : Bool) (regs conds : List Nat) (val : Ctx → Bool) (s : State) : Out :=
  golup id wf (fun _ => { regs := regs, conds := conds }) s (fun c t =>
    { c with e := (c.e.setCond f.cb.toNat (val c) (t + 1)).advance t 1 })

/-- The register operand B reads. -/
def regsB (f : OFields) : List Nat := if f.im then [] else [f.wb.toNat]

/-- `WA`. -/
def Ctx.a (c : Ctx) (f : OFields) : W64 := c.e.reg f.wa.toNat

/-- Operand B. -/
def Ctx.b (c : Ctx) (f : OFields) : W64 := operandB c.e f

/-- An instruction on `WA` and operand B. -/
def opAB (id : EngId) (f : OFields) (wf : Bool) (issue result : Nat) (val : W64 → W64 → W64 × Bool) (s : State) : Out :=
  opO id f wf (fun _ => f.wa.toNat :: regsB f) [] issue result (fun c => val (c.a f) (c.b f)) s

/-- An instruction on `WA` alone. -/
def opA (id : EngId) (f : OFields) (wf : Bool) (issue result : Nat) (val : W64 → W64 × Bool) (s : State) : Out :=
  opO id f wf (fun _ => [f.wa.toNat]) [] issue result (fun c => val (c.a f)) s

/-- A compare (R121). -/
def opCmp (id : EngId) (f : OFields) (wf : Bool) (val : W64 → W64 → Bool) (s : State) : Out :=
  opC id f wf (f.wa.toNat :: regsB f) [] (fun c => val (c.a f) (c.b f)) s

/-- Issue and result of DIV and SQRT (R121). -/
def divCycles : Ty → Nat
  | .int32 => 18
  | .real32 => 14
  | .real64 => 28
  | _ => 34

/-- A result for reals and one for integers. -/
def byReal (ty : Ty) (real integer : Nat) : Nat := if isReal ty then real else integer

/-- MOV (R121): `WD` takes B. -/
def execMov (e : EngId) (f : OFields) (s : State) : Out :=
  opO e f (Instr.wf (.mov e f)) (fun _ => regsB f) [] 1 1 (fun c => (copyResult f.ty (c.b f), false)) s

/-- MOVU: `IMM` zero-extended. -/
def execMovu (e : EngId) (f : OFields) (s : State) : Out :=
  opO e f (Instr.wf (.movu e f)) (fun _ => []) [] 1 1 (fun _ => (f.imm.setWidth 64, false)) s

/-- MOVH: `IMM` above `WA`[31:0]. -/
def execMovh (e : EngId) (f : OFields) (s : State) : Out :=
  opO e f (Instr.wf (.movh e f)) (fun _ => [f.wa.toNat]) [] 1 1 (fun c => (f.imm ++ (c.a f).setWidth 32, false)) s

/-- ADD (R121, R125, R126). -/
def execAdd (e : EngId) (f : OFields) (s : State) : Out :=
  opAB e f (Instr.wf (.add e f)) 1 (byReal f.ty 4 1) (addResult f.ty) s

/-- SUB (R121, R125, R126). -/
def execSub (e : EngId) (f : OFields) (s : State) : Out :=
  opAB e f (Instr.wf (.sub e f)) 1 (byReal f.ty 4 1) (subResult f.ty) s

/-- ADDS (R121, R125, R126). -/
def execAdds (e : EngId) (f : OFields) (s : State) : Out :=
  opAB e f (Instr.wf (.adds e f)) 1 1 (addsResult f.ty) s

/-- SUBS (R121, R125, R126). -/
def execSubs (e : EngId) (f : OFields) (s : State) : Out :=
  opAB e f (Instr.wf (.subs e f)) 1 1 (subsResult f.ty) s

/-- NEG. -/
def execNeg (e : EngId) (f : OFields) (s : State) : Out :=
  opA e f (Instr.wf (.negW e f)) 1 1 (negResult f.ty) s

/-- ABS. -/
def execAbs (e : EngId) (f : OFields) (s : State) : Out :=
  opA e f (Instr.wf (.absW e f)) 1 1 (absResult f.ty) s

/-- MIN. -/
def execMin (e : EngId) (f : OFields) (s : State) : Out :=
  opAB e f (Instr.wf (.minW e f)) 1 (byReal f.ty 2 1) (minResult f.ty) s

/-- MAX. -/
def execMax (e : EngId) (f : OFields) (s : State) : Out :=
  opAB e f (Instr.wf (.maxW e f)) 1 (byReal f.ty 2 1) (maxResult f.ty) s

/-- AND (R121): bitwise. -/
def execAnd (e : EngId) (f : OFields) (s : State) : Out :=
  opAB e f (Instr.wf (.andW e f)) 1 1 (fun a b => (holdBits f.ty (a &&& b), false)) s

/-- OR (R121): bitwise. -/
def execOr (e : EngId) (f : OFields) (s : State) : Out :=
  opAB e f (Instr.wf (.orW e f)) 1 1 (fun a b => (holdBits f.ty (a ||| b), false)) s

/-- XOR (R121): bitwise. -/
def execXor (e : EngId) (f : OFields) (s : State) : Out :=
  opAB e f (Instr.wf (.xorW e f)) 1 1 (fun a b => (holdBits f.ty (a ^^^ b), false)) s

/-- ANDN (R121): bitwise. -/
def execAndn (e : EngId) (f : OFields) (s : State) : Out :=
  opAB e f (Instr.wf (.andn e f)) 1 1 (fun a b => (holdBits f.ty (a &&& ~~~b), false)) s

/-- NOT. -/
def execNot (e : EngId) (f : OFields) (s : State) : Out :=
  opA e f (Instr.wf (.notW e f)) 1 1 (fun a => (holdBits f.ty (~~~a), false)) s

/-- SHL by B[6:0] (R125). -/
def execShl (e : EngId) (f : OFields) (s : State) : Out :=
  opAB e f (Instr.wf (.shl e f)) 1 1 (fun a b => (shlResult f.ty a b, false)) s

/-- SHR by B[6:0] (R125). -/
def execShr (e : EngId) (f : OFields) (s : State) : Out :=
  opAB e f (Instr.wf (.shr e f)) 1 1 (fun a b => (shrResult f.ty a b, false)) s

/-- SAR by B[6:0] (R125). -/
def execSar (e : EngId) (f : OFields) (s : State) : Out :=
  opAB e f (Instr.wf (.sar e f)) 1 1 (fun a b => (sarResult f.ty a b, false)) s

/-- EXT. -/
def execExt (e : EngId) (f : OFields) (s : State) : Out :=
  opA e f (Instr.wf (.ext e f)) 1 1 (fun a => (extResult a f.imm, false)) s

/-- MUL. -/
def execMul (e : EngId) (f : OFields) (s : State) : Out :=
  opAB e f (Instr.wf (.mul e f)) 1 (byReal f.ty 4 3) (mulResult f.ty) s

/-- MULS. -/
def execMuls (e : EngId) (f : OFields) (s : State) : Out :=
  opAB e f (Instr.wf (.muls e f)) 1 3 (mulsResult f.ty) s

/-- DIV. -/
def execDiv (e : EngId) (f : OFields) (s : State) : Out :=
  opAB e f (Instr.wf (.div e f)) (divCycles f.ty) (divCycles f.ty) (divResult f.ty) s

/-- MOD. -/
def execMod (e : EngId) (f : OFields) (s : State) : Out :=
  opAB e f (Instr.wf (.modW e f)) (divCycles f.ty) (divCycles f.ty) (modResult f.ty) s

/-- FMA: rounded once; `WD` is read and written. -/
def execFma (e : EngId) (f : OFields) (s : State) : Out :=
  opO e f (Instr.wf (.fma e f)) (fun _ => f.wd.toNat :: f.wa.toNat :: regsB f) [] 1 5
    (fun c => fmaResult f.ty (c.a f) (c.b f) (c.e.reg f.wd.toNat)) s

/-- SQRT. -/
def execSqrt (e : EngId) (f : OFields) (s : State) : Out :=
  opA e f (Instr.wf (.sqrt e f)) (divCycles f.ty) (divCycles f.ty) (sqrtResult f.ty) s

/-- CVT from `TY` to the type in `IMM`[2:0]. -/
def execCvt (e : EngId) (f : OFields) (s : State) : Out :=
  opA e f (Instr.wf (.cvt e f)) 1 3 (cvtResult f.ty ((tyOf (f.imm.toNat % 8)).getD .int32) (bit f.imm 3)) s

/-- LIMIT: `WB` the minimum, the next register the maximum. -/
def execLimit (e : EngId) (f : OFields) (s : State) : Out :=
  opO e f (Instr.wf (.limit e f)) (fun _ => [f.wa.toNat, f.wb.toNat, f.wb.toNat + 1]) [] 1 (byReal f.ty 2 1)
    (fun c => limitResult f.ty (c.a f) (c.e.reg f.wb.toNat) (c.e.reg (f.wb.toNat + 1))) s

/-- SCALE: `WA` * `WB` + W(b+1). -/
def execScale (e : EngId) (f : OFields) (s : State) : Out :=
  opO e f (Instr.wf (.scale e f)) (fun _ => [f.wa.toNat, f.wb.toNat, f.wb.toNat + 1]) [] 1 5
    (fun c => scaleResult f.ty (c.a f) (c.e.reg f.wb.toNat) (c.e.reg (f.wb.toNat + 1))) s

/-- The index that MUX takes, clamped to 0 to `IMM` - 1 (R121). -/
def muxIndex (a : W64) (imm : W32) : Nat := if a.toInt < 0 then 0 else min a.toNat (imm.toNat - 1)

/-- MUX: status says that the index was clamped. DESIGN CHOICE (log entry 89): it reads, and so waits for (R122), `WA` and the selected
register alone. -/
def execMux (e : EngId) (f : OFields) (s : State) : Out :=
  opO e f (Instr.wf (.mux e f)) (fun c => [f.wa.toNat, f.wb.toNat + muxIndex (c.a f) f.imm]) [] 1 1
    (fun c => (copyResult f.ty (c.e.reg (f.wb.toNat + muxIndex (c.a f) f.imm)), (c.a f).toInt != (muxIndex (c.a f) f.imm : Int))) s

/-- SEL: B when C(`CB`) is 1, else `WA`. -/
def execSel (e : EngId) (f : OFields) (s : State) : Out :=
  opO e f (Instr.wf (.sel e f)) (fun _ => f.wa.toNat :: regsB f) [f.cb.toNat] 1 1
    (fun c => (copyResult f.ty (if c.e.cond f.cb.toNat then c.b f else c.a f), false)) s

/-- CEQ (R121, R126). -/
def execCeq (e : EngId) (f : OFields) (s : State) : Out :=
  opCmp e f (Instr.wf (.ceq e f)) (compare .eq f.ty) s

/-- CNE (R121, R126). -/
def execCne (e : EngId) (f : OFields) (s : State) : Out :=
  opCmp e f (Instr.wf (.cne e f)) (compare .ne f.ty) s

/-- CLT (R121, R126). -/
def execClt (e : EngId) (f : OFields) (s : State) : Out :=
  opCmp e f (Instr.wf (.clt e f)) (compare .lt f.ty) s

/-- CLE (R121, R126). -/
def execCle (e : EngId) (f : OFields) (s : State) : Out :=
  opCmp e f (Instr.wf (.cle e f)) (compare .le f.ty) s

/-- CGT (R121, R126). -/
def execCgt (e : EngId) (f : OFields) (s : State) : Out :=
  opCmp e f (Instr.wf (.cgt e f)) (compare .gt f.ty) s

/-- CGE (R121, R126). -/
def execCge (e : EngId) (f : OFields) (s : State) : Out :=
  opCmp e f (Instr.wf (.cge e f)) (compare .ge f.ty) s

/-- CLTU: unsigned. -/
def execCltu (e : EngId) (f : OFields) (s : State) : Out :=
  opCmp e f (Instr.wf (.cltu e f)) (compareU .lt f.ty) s

/-- CLEU: unsigned. -/
def execCleu (e : EngId) (f : OFields) (s : State) : Out :=
  opCmp e f (Instr.wf (.cleu e f)) (compareU .le f.ty) s

/-- CGTU: unsigned. -/
def execCgtu (e : EngId) (f : OFields) (s : State) : Out :=
  opCmp e f (Instr.wf (.cgtu e f)) (compareU .gt f.ty) s

/-- CGEU: unsigned. -/
def execCgeu (e : EngId) (f : OFields) (s : State) : Out :=
  opCmp e f (Instr.wf (.cgeu e f)) (compareU .ge f.ty) s

/-- BTST: `CB` takes `WA`[`IMM`[5:0]]. -/
def execBtst (e : EngId) (f : OFields) (s : State) : Out :=
  opC e f (Instr.wf (.btst e f)) [f.wa.toNat] [] (fun c => bit (c.a f) (f.imm.toNat % 64)) s

/-- CLOG: `CB` takes `IMM`[2x + y]. -/
def execClog (e : EngId) (f : OFields) (s : State) : Out :=
  opC e f (Instr.wf (.clog e f)) [] [f.wa.toNat % 8, f.wb.toNat % 8]
    (fun c => bit f.imm (2 * (c.e.cond f.wa.toNat).toNat + (c.e.cond f.wb.toNat).toNat)) s

/-- MOVC: `WD` takes C(`CB`). -/
def execMovc (e : EngId) (f : OFields) (s : State) : Out :=
  opO e f (Instr.wf (.movc e f)) (fun _ => []) [f.cb.toNat] 1 1 (fun c => (holdBool (c.e.cond f.cb.toNat), false)) s

/-- RDF: the run's address-fault count so far. -/
def execRdf (e : EngId) (f : OFields) (s : State) : Out :=
  opO e f (Instr.wf (.rdf e f)) (fun _ => []) [] 1 1 (fun c => (c.e.faults.setWidth 64, false)) s

/-! ### Memory (R117 to R119) -/

/-- Slots of an access: none in SCR (R122). -/
def memSlots (sp : Space) : Nat := match sp with
  | .scr => 0
  | _ => 1

/-- The loaded word of `SZ` (R117). -/
def loadWord (sz : Sz) (bs : Bytes) : W64 :=
  match sz with
  | .s32 => ((BitVec.ofNat 32 (leNat bs)).signExtend 64)
  | _ => BitVec.ofNat 64 (leNat bs)

/-- The registers that a load fills: one, or eight from a line (R121). -/
def loadRegs (f : MFields) : List Nat :=
  match f.sz with
  | .line => (List.range 8).map (fun j => f.wd.toNat + j)
  | _ => [f.wd.toNat]

/-- The words that a valid load gives, in register order. -/
def loadWords (c : Ctx) (f : MFields) (a : Nat) : List W64 :=
  match f.sz with
  | .line => (List.range 8).map (fun j => loadWord .d64 (readSpace c f.sp (a + 8 * j) 8))
  | sz => [loadWord sz (readSpace c f.sp a (szBytes sz))]

/-- The address `WA` + `OFF`, an unsigned sum (R119). -/
def memAddr (c : Ctx) (f : MFields) : Nat := (c.e.reg f.wa.toNat).toNat + f.off.toNat

/-- Write loaded words into their registers. -/
def loadAll (ready : Nat) : Engine → List Nat → List W64 → Engine
  | e, r :: rs, w :: ws => loadAll ready (e.loadReg r w ready) rs ws
  | e, _, _ => e

/-- LD (R119, R121): a suppressed load writes zero to each destination. -/
def execLd (e : EngId) (f : MFields) (s : State) : Out :=
  golup e (Instr.wf (.ld e f)) (fun _ => { regs := [f.wa.toNat], writes := loadRegs f, slots := memSlots f.sp }) s (fun c t =>
    let a := memAddr c f
    let ok := accessOk c f.sp a (szBytes f.sz)
    let ready := t + (match f.sp with | .scr => 2 | _ => 32)
    let ws := if ok then loadWords c f a else (loadRegs f).map (fun _ => 0)
    let en := loadAll ready (if ok then c.e else c.e.fault) (loadRegs f) ws
    let en := if memSlots f.sp = 0 then en else en.hold t [t + 32]
    { c with e := en.advance t 1 })

/-- A byte of `IID` or `KIND` of a function-block instance of the task, which no instruction changes (R129). -/
def instanceByte (c : Ctx) (a : Nat) : Bool :=
  c.g.insts.any (fun i => i.kind != 1 && i.slot == c.k.slot && decide (i.voff + 3 ≤ a ∧ a < i.voff + 8))

/-- A valid store: into VAR, unless it touches a forced word (R157), the `IID` and `KIND` of instances kept (R129), or into SCR. -/
def storeBytes (c : Ctx) (sp : Space) (a : Nat) (bs : Bytes) : Ctx :=
  match sp with
  | .var =>
    if touchesForced c.x.forced a bs.length then c
    else writeVar c a (bs.zipIdx.map (fun b => if instanceByte c (a + b.2) then c.vars.read (a + b.2) else b.1))
  | .scr => { c with e := { c.e with scr := c.e.scr.writeBytes a bs } }
  | _ => c

/-- ST (R119, R121): a suppressed store changes nothing. -/
def execSt (e : EngId) (f : MFields) (s : State) : Out :=
  golup e (Instr.wf (.st e f)) (fun _ => { regs := [f.wa.toNat, f.wb.toNat], slots := memSlots f.sp }) s (fun c t =>
    let a := memAddr c f
    let ok := accessOk c f.sp a (szBytes f.sz)
    let c := if ok then storeBytes c f.sp a (leBytes (szBytes f.sz) (c.e.reg f.wb.toNat).toNat) else { c with e := c.e.fault }
    let en := if memSlots f.sp = 0 then c.e else c.e.hold t [t + 32]
    { c with e := en.advance t 1 })

/-! ### Branches (R121, R123) -/

/-- BR. -/
def execBr (e : EngId) (f : BFields) (s : State) : Out :=
  golup e (Instr.wf (.br e f)) (fun _ => { conds := if f.cnd then [f.cb.toNat] else [] }) s (fun c t =>
    { c with e := if !f.cnd || c.e.cond f.cb.toNat != f.neg then c.e.jump t 4 f.tgt else c.e.advance t 1 })

/-- CALL: pushes the next offset. -/
def execCall (e : EngId) (f : BFields) (s : State) : Out :=
  golup e (Instr.wf (.call e f)) (fun _ => {}) s (fun c t =>
    { c with e := { c.e with stack := (c.e.pc + 8) :: c.e.stack }.jump t 4 f.tgt })

/-- RET: pops, or ends the run as END with an empty stack. -/
def execRet (e : EngId) (f : BFields) (s : State) : Out :=
  golup e (Instr.wf (.ret e f)) (fun _ => {}) s (fun c t =>
    match c.e.stack with
    | [] => closeRun c (t + 1) false
    | p :: rest => { c with e := { c.e with stack := rest }.jump t 4 p })

/-- END: the duration is the closing instruction's cycle, counted (R123). -/
def execEndRun (e : EngId) (f : BFields) (s : State) : Out :=
  golup e (Instr.wf (.endRun e f)) (fun _ => {}) s (fun c t => closeRun c (t + 1) false)

/-! ### Journal instructions (R119 rule 2, R127) -/

/-- A journal instruction on entry `WA` + `IDX` of a list of the given length. -/
def opJ (e : EngId) (f : JFields) (wf : Bool) (regs : List Nat) (len : Ctx → Nat) (put : Ctx → Nat → W64 → Engine) (s : State) : Out :=
  golup e wf (fun _ => { regs := regs }) s (fun c t =>
    let i := (c.e.reg f.wa.toNat).toNat + f.idx.toNat
    let en := if i < len c then put c i (c.e.reg f.wb.toNat) else c.e.fault
    { c with e := en.advance t 1 })

/-- OUT: an output whose point is BOOL keeps bit [0] (R127). -/
def execOut (e : EngId) (f : JFields) (s : State) : Out :=
  opJ e f (Instr.wf (.out e f)) [f.wa.toNat, f.wb.toNat] (fun c => c.k.outs.length) (fun c i v =>
    let pt := (c.k.outs.getD i 0).toNat
    let v : W32 := if typeOf (s.region e.er) pt = tyBool then v.setWidth 32 &&& 1 else v.setWidth 32
    { c.e with outs := Sys2Proof.Machine.put none c.e.outs i (some v) }) s

/-- LSP: a setpoint request. -/
def execLsp (e : EngId) (f : JFields) (s : State) : Out :=
  opJ e f (Instr.wf (.lsp e f)) [f.wa.toNat, f.wb.toNat] (fun c => c.k.loops.length) (fun c i v =>
    { c.e with sps := Sys2Proof.Machine.put none c.e.sps i (some (v.setWidth 32)) }) s

/-- LBANK: a bank request. -/
def execLbank (e : EngId) (f : JFields) (s : State) : Out :=
  opJ e f (Instr.wf (.lbank e f)) [f.wa.toNat, f.wb.toNat] (fun c => c.k.loops.length) (fun c i v =>
    { c.e with banks := Sys2Proof.Machine.put none c.e.banks i (some (v.setWidth 32 &&& 1)) }) s

/-- EVENT: one more, up to 65,535. -/
def execEvent (e : EngId) (f : JFields) (s : State) : Out :=
  opJ e f (Instr.wf (.event e f)) [f.wa.toNat] (fun c => c.k.events.length) (fun c i _ =>
    { c.e with evs := Sys2Proof.Machine.put 0 c.e.evs i (satInc (look 0 c.e.evs i)) }) s

/-! ### Function blocks (R119 rule 3, R122, R129 to R134) -/

/-- The instance address. -/
def fbAddr (c : Ctx) (f : FFields) : Nat := (c.e.reg f.wa.toNat).toNat + f.off.toNat

/-- The instance is valid: aligned, within VAR, of the instruction's kind. -/
def fbOk (c : Ctx) (f : FFields) (op : Nat) : Bool :=
  let a := fbAddr c f
  decide (a < 2 ^ 64) && a % 32 == 0 && decide (a + 32 ≤ c.k.vsize) && (c.vars.read (a + 3)).toNat == op

/-- The four words of an instance. -/
def fbRead (c : Ctx) (a : Nat) : FbInst :=
  let w (i : Nat) : W64 := BitVec.ofNat 64 (leNat (c.vars.readBytes (a + 8 * i) 8))
  { w0 := w 0, v := w 1, last := w 2, pvl := w 3 }

/-- The 32 bytes written back; forced bytes keep their value (R157). -/
def fbBytes (c : Ctx) (a : Nat) (x : FbInst) : Bytes :=
  (wordBytes [x.w0, x.v, x.last, x.pvl]).zipIdx.map (fun b => if touchesForced c.x.forced (a + b.2) 1 then c.vars.read (a + b.2) else b.1)

/-- The inputs of a scan. -/
def fbIn (c : Ctx) (f : FFields) : FbIn :=
  { ci := c.e.cond f.ci.toNat, cj := c.e.cond f.cj.toNat, ck := c.e.cond f.ck.toNat, cl := c.e.cond f.cl.toNat,
    b := c.e.reg f.wb.toNat, b1 := c.e.reg (f.wb.toNat + 1), b2 := c.e.reg (f.wb.toNat + 2),
    xtime := c.x.header.getD 1 0, edgeInit := c.g.edgeInit }

/-- A function-block instruction: opcode, issue count, condition bits and registers read, second output, scan. -/
def opF (e : EngId) (f : FFields) (wf : Bool) (op n : Nat) (conds regs : List Nat) (two : Bool) (scan : FbIn → FbInst → FbOut)
    (s : State) : Out :=
  golup e wf (fun _ => { regs := f.wa.toNat :: regs, conds := conds, writes := [f.wd.toNat], slots := 2 }) s (fun c t =>
    let a := fbAddr c f
    let fin (c : Ctx) (wd : W64) (q q2 : Bool) : Ctx :=
      let en := (c.e.setReg f.wd.toNat wd (t + n)).setCond f.cq.toNat q (t + n)
      let en := if two then en.setCond (f.cq.toNat + 1) q2 (t + n) else en
      { c with e := (en.hold t [t + 32, t + n + 31]).advance t n }
    if fbOk c f op then
      let o := scan (fbIn c f) (fbRead c a)
      fin (writeVar c a (fbBytes c a o.inst)) o.wd o.q o.q2
    else fin { c with e := c.e.fault } 0 false false)

/-- TON (R131). -/
def execTon (e : EngId) (f : FFields) (s : State) : Out :=
  opF e f (Instr.wf (.ton e f)) 0x80 38 [f.ci.toNat] [f.wb.toNat] false (timerScan tonRule) s

/-- TOF (R131). -/
def execTof (e : EngId) (f : FFields) (s : State) : Out :=
  opF e f (Instr.wf (.tof e f)) 0x81 38 [f.ci.toNat] [f.wb.toNat] false (timerScan tofRule) s

/-- TP (R131). -/
def execTp (e : EngId) (f : FFields) (s : State) : Out :=
  opF e f (Instr.wf (.tp e f)) 0x82 38 [f.ci.toNat] [f.wb.toNat] false (timerScan tpRule) s

/-- CTU (R132). -/
def execCtu (e : EngId) (f : FFields) (s : State) : Out :=
  opF e f (Instr.wf (.ctu e f)) 0x84 38 [f.ci.toNat, f.ck.toNat] [f.wb.toNat] false ctuScan s

/-- CTD (R132). -/
def execCtd (e : EngId) (f : FFields) (s : State) : Out :=
  opF e f (Instr.wf (.ctd e f)) 0x85 38 [f.ci.toNat, f.cl.toNat] [f.wb.toNat] false ctdScan s

/-- CTUD (R132). -/
def execCtud (e : EngId) (f : FFields) (s : State) : Out :=
  opF e f (Instr.wf (.ctud e f)) 0x86 38 [f.ci.toNat, f.cj.toNat, f.ck.toNat, f.cl.toNat] [f.wb.toNat] true ctudScan s

/-- RTRIG (R133). -/
def execRtrig (e : EngId) (f : FFields) (s : State) : Out :=
  opF e f (Instr.wf (.rtrig e f)) 0x88 34 [f.ci.toNat] [] false rtrigScan s

/-- FTRIG (R133). -/
def execFtrig (e : EngId) (f : FFields) (s : State) : Out :=
  opF e f (Instr.wf (.ftrig e f)) 0x89 34 [f.ci.toNat] [] false ftrigScan s

/-- SR (R133). -/
def execSr (e : EngId) (f : FFields) (s : State) : Out :=
  opF e f (Instr.wf (.sr e f)) 0x8A 34 [f.ci.toNat, f.ck.toNat] [] false srScan s

/-- RS (R133). -/
def execRs (e : EngId) (f : FFields) (s : State) : Out :=
  opF e f (Instr.wf (.rs e f)) 0x8B 34 [f.ci.toNat, f.ck.toNat] [] false rsScan s

/-- RAMP (R134). -/
def execRamp (e : EngId) (f : FFields) (s : State) : Out :=
  opF e f (Instr.wf (.ramp e f)) 0x8C 44 [f.ck.toNat] [f.wb.toNat, f.wb.toNat + 1, f.wb.toNat + 2] false (rampScan f.ty) s

end Sys2Proof.Machine
end

