-- ==== Sys2Proof/Machine/PointCmd.lean ====
section
/-! DEFINITION. The mailbox commands of points, limits, grants, partitions, forces, interlock equations, local I/O and loops
(R46 to R64, R75 to R82, R105 to R107, R142, R154 to R158, R160 to R168, R179, R182), with the checks that refuse them. -/

namespace Sys2Proof.Machine

/-! ### Shared checks and answers -/

/-- Points of the process image (R42). -/
def pointCount : Nat := 2 ^ 20

/-- A configuration command that is presented as a group (R186): logged when it is accepted (R452). -/
def presentConfig (s : State) (p : BitVec 7) (q : Request) (items : List Item) : State :=
  if carriable s q.1 q.2 then present (logConfig s p q.1 q.2) p items else turnAway s p .refused

/-- `READ_TICK` and FIXED_TICK (R107). -/
def ticks (s : State) (p : BitVec 7) : Bytes :=
  leBytes 8 s.image.tick.toNat ++ leBytes 8 (s.fixedTick p.toNat)

/-- Direction codes: 0 unused, 1 memo, 2 input, 3 output (R54). -/
def direction (mode : Nat) : Nat := if isInput mode then 2 else if isOutput mode then 3 else if isMemo mode then 1 else 0

/-- The directions that R46 allows a type. -/
def directionOk (ty d : Nat) : Bool :=
  if ty = tyNone then d == 0 else if ty = tyCount then d == 2 else decide (1 ≤ d)

/-- A clamp range whose minimum is above its maximum (R56). -/
def badRange (ty : Nat) (w : W64) : Bool :=
  match pointCmp ty (w.setWidth 32) (valueOf w) with
  | some d => decide (d > 0)
  | none => false

/-- A REAL32 magnitude that is negative or a NaN (R57). -/
def badMagnitude (v : W32) : Bool := fmt32.isNan v.toNat || (bit v 31 && v != 0x80000000)

/-- A rate entry with such a magnitude (R56). -/
def badRate (ty : Nat) (w : W64) : Bool := ty == tyReal && (badMagnitude (w.setWidth 32) || badMagnitude (valueOf w))

/-- Points that name limit entry `n` through a field (0 `VIDX`, 1 `CIDX`, 2 `RIDX`), with their attribute words. -/
def namers (r : Region) (n field : Nat) : List (Nat × W64) :=
  r.attr.filter (fun a => n != 0 && (match field with | 0 => vidxOf a.2 | 1 => cidxOf a.2 | _ => ridxOf a.2) == n)

/-- Another point than i names entry n through another field than this one (R58). -/
def otherRole (r : Region) (i n field : Nat) : Bool :=
  (List.range 3).any (fun f => f != field && (namers r n f).any (fun a => a.1 != i))

/-- Entries of the retain set in bytes (R445): points, ranges, loops. -/
def retainSize (counts : Nat) (ranges : List Retain) (loops : Nat) : Nat :=
  20 * counts + (ranges.foldl (fun n x => n + 16 + x.len) 0) + 8 * loops

/-- First words of COUNT48 points. -/
def countPoints (r : Region) : List Nat := (r.image.filter (fun e => bits e.2 15 8 == tyCount)).map Prod.fst

/-- Valid loop slots. -/
def validLoops (r : Region) : List Nat := (r.loops.filter (fun e => e.2.valid)).map Prod.fst

/-- Retained ranges of the running programs. -/
def retainRanges (r : Region) : List Retain := r.programs.flatMap (fun e => (e.2.map Program.retain).getD [])

/-- The most that the retain set may hold (R445). -/
def retainMax : Nat := 16 * 2 ^ 20

/-- A point of station 0's range whose attribute word may be written: an output or PWM pin keeps its type and direction, every
other local point its fixed word (R59). -/
def localOk (r : Region) (i ty : Nat) (w : W64) : Bool :=
  if i < 0x30 then ty == typeOf r i && (if isOutput (modeOf r i) then isOutput (bits w 63 61) && bits w 60 48 == 0 else w == attrOf r i)
  else ty == typeOf r i && w == attrOf r i

/-- The checks of an attribute write (R46, R51, R53, R55 to R59, R73, R333, R445), in this order. -/
def attrChecks (s : State) (i ty : Nat) (w : W64) : List (Bool × Stat) :=
  let r := s.image
  let mode := bits w 63 61
  let d := direction mode
  let st := bits w 60 48
  let v := vidxOf w
  let c := cidxOf w
  let ri := ridxOf w
  let was := typeOf r i
  let changes := decide (mode ≠ modeOf r i ∨ st ≠ stationOf r i ∨ ty ≠ was)
  let named (k : Nat) : Bool := referenced r k || blockCovers s k
  [(decide (i < pointCount), .outOfRange), (decide (ty < 256), .reservedSet),
    (decide (ty ≤ tyCount) && was != tyCount2, .refused),
    (decide (st = 0 ∨ 0x1000 ≤ st ∨ st % 128 ≠ 0), .outOfRange),
    (decide (0x200 ≤ i) || localOk r i ty w, .refused),
    (directionOk ty d && !(d == 1 && st != 0) && !(ty == tyCount && mode != 2), .refused),
    (!((mode == 3 || mode == 6) && v == 0), .refused),
    (!(c != 0 && (ty == tyBool || ty == tyCount)) && (ri == 0 || (d == 3 && (ty == tyInt || ty == tyUint || ty == tyReal))), .refused),
    (!(c != 0 && badRange ty (limitOf r c)) && !(ri != 0 && badRate ty (limitOf r ri)), .refused),
    (v == 0 || (bits (limitOf r v) 63 32 == 0 && (c == 0 || inRange ty (limitOf r c) ((limitOf r v).setWidth 32))), .refused),
    (!((v != 0 && (v == c || v == ri)) || (c != 0 && c == ri)) && !otherRole r i v 0 && !otherRole r i c 1 && !otherRole r i ri 2, .refused),
    (!(changes && (referenced r i || blockCovers s i)), .refused),
    (!(ty == tyCount && was != tyCount) || (i % 2 == 0 && !named (i + 1)), .refused),
    (!(was == tyCount && ty != tyCount) || !named (i + 1), .refused),
    (!(ri != 0 && ridxOf (attrOf r i) == 0) || decide ((r.attr.filter (fun a => ridxOf a.2 != 0)).length < 65536), .noSpace),
    (!(ty == tyCount && was != tyCount)
      || decide (retainSize ((countPoints r).length + 1) (retainRanges r) (validLoops r).length ≤ retainMax), .refused)]

/-- ATTR_WRITE (R53, R56 to R59). -/
def execAttrWrite (p : BitVec 7) (point ty : W32) (attr : W64) (s : State) : Out :=
  serve s p (Req.attrWrite point ty attr) (owner0 p) (checked s p (attrChecks s point.toNat ty.toNat attr)
    (presentConfig s p (Req.attrWrite point ty attr)
      [.attr (point.setWidth 20) (ty.setWidth 8) attr]))

/-- ATTR_READ (R53). -/
def execAttrRead (p : BitVec 7) (point : W32) (s : State) : Out :=
  let i := point.toNat
  serve s p (Req.attrRead point) (owner0 p) (checked s p [(decide (i < pointCount), .outOfRange)]
    (answer s p (layout [(4, typeOf s.image i), (8, (attrOf s.image i).toNat)])))

/-- The entry keeps R56 true for every point that names it (R58). -/
def limitKeeps (r : Region) (n : Nat) (w : W64) : Bool :=
  let v : W32 := w.setWidth 32
  (namers r n 0).all (fun a => valueOf w == 0 && (cidxOf a.2 == 0 || inRange (typeOf r a.1) (limitOf r (cidxOf a.2)) v))
    && (namers r n 1).all (fun a => !badRange (typeOf r a.1) w && (vidxOf a.2 == 0 || inRange (typeOf r a.1) w ((limitOf r (vidxOf a.2)).setWidth 32)))
    && (namers r n 2).all (fun a => !badRate (typeOf r a.1) w)

/-- LIMIT_WRITE (R57, R58). -/
def execLimitWrite (p : BitVec 7) (idx : W32) (entry : W64) (s : State) : Out :=
  let n := idx.toNat
  serve s p (Req.limitWrite idx entry) (owner0 p) (checked s p [(decide (1 ≤ n ∧ n < 65536), .outOfRange), (limitKeeps s.image n entry, .refused)]
    (presentConfig s p (Req.limitWrite idx entry) [.limit (idx.setWidth 16) entry]))

/-! ### Partitions and grants (R60 to R64, R143, R163, R474) -/

/-- GRANT_WRITE (R61, R62). -/
def execGrantWrite (p : BitVec 7) (entry : W32) (w : W64) (s : State) : Out :=
  serve s p (Req.grantWrite entry w) (owner0 p) (checked s p
    [(decide (entry.toNat < 8192), .outOfRange), (zeroBits w 55 52 && zeroBits w 31 20, .reservedSet),
      (decide (bits w 19 0 ≤ bits w 51 32), .outOfRange)]
    (presentConfig s p (Req.grantWrite entry w) [.grant (entry.setWidth 13) w]))

/-- GRANT_READ (R61): a tenant reads only entries whose `GRANTEE` it is. -/
def execGrantRead (p : BitVec 7) (entry : W32) (s : State) : Out :=
  let w := look 0 s.image.grants entry.toNat
  serve s p (Req.grantRead entry) true (checked s p [(decide (entry.toNat < 8192), .outOfRange), (p == 0 || bits w 62 56 == p.toNat, .notFound)]
    (answer s p (leBytes 8 w.toNat)))

/-- PARTITION_SET (R143). -/
def execPartitionSet (p : BitVec 7) (part budget : W32) (s : State) : Out :=
  let t := s.setPair { s.pair with budgets := put 0 s.pair.budgets part.toNat budget }
  serve s p (Req.partitionSet part budget) (owner0 p) (checked s p [(decide (part.toNat < 128), .outOfRange)]
    (acceptConfig s t p (Req.partitionSet part budget)))

/-- DMA_WINDOW (R474). -/
def execDmaWindow (p : BitVec 7) (part : W32) (base len : W64) (s : State) : Out :=
  let t := s.setHr { s.hr with windows := put (0, 0) s.hr.windows part.toNat (base, len) }
  serve s p (Req.dmaWindow part base len) (owner0 p) (checked s p
    [(decide (part.toNat < 128) && base.toNat % 4096 == 0 && len.toNat % 4096 == 0 && decide (base.toNat + len.toNat ≤ 2 ^ 64), .outOfRange)]
    (acceptConfig s t p (Req.dmaWindow part base len)))

/-- Record LOOP_REFUSED and raise source 13 (R183, R374): cause 1 admission, 2 another check. -/
def loopRefused (s : State) (slot : Nat) (part cause : Nat) : State :=
  raise (recordN s (erNum s.pair.active) 0x1502 slot part cause) 13

/-- LOOP_ASSIGN (R163, R182). -/
def execLoopAssign (p : BitVec 7) (first count part : W32) (s : State) : Out :=
  let a := first.toNat
  let n := count.toNat
  serve s p (Req.loopAssign first count part) (owner0 p) (checked s p
    [(decide (a + n ≤ 8192) && decide (part.toNat < 128), .outOfRange), (!assignTaken s.image a n (part.setWidth 7), .refused)]
    (if admitted s.image.loops then
      presentConfig s p (Req.loopAssign first count part) [.loopAssign a n (part.setWidth 7)]
    else turnAway (loopRefused s a part.toNat 1) p .admission))

/-- The points that an owner change of point i moves (R47, R59). -/
def ownerGroup (r : Region) (i : Nat) : List Nat :=
  if i < 0x30 then [i, 0xB0 + i, 0xE0 + i, 0x110 + i] else if typeOf r i = tyCount then [i, i + 1] else [i]

/-- POINT_OWNER (R64): the points of the local station follow their pin, and a COUNT48 point its first word. -/
def execPointOwner (p : BitVec 7) (point owner : W32) (s : State) : Out :=
  let i := point.toNat
  let r := s.image
  let used := (ownerGroup r i).any (fun k => referencedBy r (ownerOf r i) k || referencedBy r owner.toNat k)
  serve s p (Req.pointOwner point owner) (owner0 p) (checked s p
    [(decide (i < pointCount ∧ owner.toNat < 128), .outOfRange),
      (!decide (0x30 ≤ i ∧ i < 0x200) && typeOf r i != tyCount2 && !used, .refused)]
    (presentConfig s p (Req.pointOwner point owner) [.owner (point.setWidth 20) (owner.setWidth 7)]))

/-! ### Monitoring reads (R105 to R107, R142, R160, R161) -/

/-- TASK_COUNTERS (R105): of a slot that holds a task of the partition. -/
def execTaskCounters (p : BitVec 7) (slot : W32) (s : State) : Out :=
  let n : BitVec 9 := slot.setWidth 9
  let x := slotOf s.image n
  let own := ((taskOf s.image n).map (fun k => k.part == p)).getD false
  serve s p (Req.taskCounters slot) true (checked s p [(decide (slot.toNat < 512), .outOfRange), (own, .notFound)]
    (answer s p (layout [(4, x.runs.toNat), (4, x.overrun.toNat), (4, x.triggers.toNat), (4, x.retractedOut.toNat),
      (4, x.retractedEv.toNat), (4, x.aborts.toNat), (8, x.lastDuration.toNat)])))

/-- POINT_READ (R44, R107): ages count up to the tick current at the read; a point that the partition may not read gives the word of
R63. -/
def execPointRead (p : BitVec 7) (first count : W32) (s : State) : Out :=
  let a := first.toNat
  let n := count.toNat
  let r := s.image
  serve s p (Req.pointRead first count) true (checked s p [(decide (1 ≤ n ∧ n ≤ 65536 ∧ a + n ≤ pointCount), .outOfRange)]
    (answerObject s p (ticks s p) (wordBytes ((List.range n).map (fun k => readableWord r (BitVec.ofNat 64 s.nowTick) p.toNat (a + k))))))

/-- VAR_READ (R107, R157): a range of a variable block of the partition's running image, with forced values in place. -/
def execVarRead (p : BitVec 7) (iid off len : W32) (s : State) : Out :=
  let r := s.image
  let b := (programOf r p.toNat).bind (fun g => (g.insts.find? (fun x => x.iid == iid && x.kind == 1)).map (fun x => (g, x)))
  serve s p (Req.varRead iid off len) true (
    match b with
    | none => turnAway s p .notFound
    | some (g, x) =>
      checked s p [(decide (off.toNat + len.toNat ≤ x.len), .outOfRange)]
        (answerObject s p (ticks s p)
          ((applyForced (forcedWords r g x.slot) (look [] r.vars x.slot.toNat)).readBytes (x.voff + off.toNat) len.toNat)))

/-- CHANGE (R142): of a waiting image without a change in progress. -/
def execChange (p : BitVec 7) (tc : W64) (s : State) : Out :=
  let r := s.image
  serve s p (Req.change tc) true (checked s p
    [((look none r.waiting p.toNat).isSome, .notFound), ((look none r.changes p.toNat).isNone, .conflict)]
    (present s p [.change p tc (look 0 s.pair.budgets p.toNat)]))

/-- CHANGE_CANCEL (R142). -/
def execChangeCancel (p : BitVec 7) (s : State) : Out :=
  serve s p Req.changeCancel true (checked s p [((look none s.image.waiting p.toNat).isSome, .notFound)] (present s p [.changeCancel p]))

/-- The bytes of a change report (R160, R161). -/
def reportBytes (x : Report) : Bytes :=
  let n := min x.recs.length 65536
  layout [(4, x.result.toNat), (4, n), (8, x.tc.toNat), (8, x.tend.toNat), (2, x.gapp.toNat), (2, x.budget.toNat),
      (4, min (x.recs.length - n) (2 ^ 32 - 1))]
    ++ (x.recs.take n).flatMap (fun q => layout [(2, q.1.toNat), (2, 0), (4, q.2.1.toNat), (8, q.2.2.toNat)])

/-- CHANGE_REPORT (R160, R161). -/
def execChangeReport (p : BitVec 7) (s : State) : Out :=
  serve s p Req.changeReport true (match look none s.image.reports p.toNat with
    | none => turnAway s p .notFound
    | some x => answerObject s p [] (reportBytes x))

/-- PROGRAM_INFO (R479). -/
def execProgramInfo (p : BitVec 7) (s : State) : Out :=
  serve s p Req.programInfo true (match programOf s.image p.toNat with
    | none => turnAway s p .notFound
    | some g => answer s p (layout [(8, g.build.toNat), (8, g.bodyLen), (4, (look none s.image.waiting p.toNat).isSome.toNat)]))

/-! ### Forces (R154 to R158) -/

/-- Width in bytes of a variable force (R154). -/
def forceWidth (ty : Nat) : Nat := if ty = 0 ∨ ty = 2 ∨ ty = 4 then 4 else 8

/-- The checks of a variable force (R155). -/
def varForceChecks (r : Region) (p : BitVec 7) (f : Force) : List (Bool × Stat) :=
  let w := forceWidth f.ty
  match programOf r p.toNat with
  | none => [(false, .notFound)]
  | some g =>
    match g.insts.find? (fun b => b.iid == f.iid && b.kind == 1) with
    | none => [(false, .notFound)]
    | some b =>
      let a := b.voff + f.voff
      let hits (i : Inst) : Bool := i.kind != 1 && i.slot == b.slot && decide (i.voff + 3 < a + w ∧ a < i.voff + 8)
      let others := (forcedWords r g b.slot).filter (fun x => x.1 != a)
      [((look none r.waiting p.toNat).isNone, .conflict), (decide (f.voff + w ≤ b.len), .refused), (!g.insts.any hits, .refused),
        (!(f.ty == 2 && fmt32.isNan (f.fvalue.toNat % 2 ^ 32)), .refused), (decide (others.length < 64), .refused)]

/-- The checks of a point force (R155): an unused point has no path that a force could take. -/
def pointForceChecks (r : Region) (p : BitVec 7) (f : Force) : List (Bool × Stat) :=
  let i := f.point.toNat
  let ty := typeOf r i
  let v : W32 := f.fvalue.setWidth 32
  let c := cidxOf (attrOf r i)
  [(ownerOf r i == p.toNat, .notFound),
    (modeOf r i != 0 && ty != tyNone && ty != tyCount && ty != tyCount2 && !decide (0x30 ≤ i ∧ i < 0x200), .refused),
    (!(isInput (modeOf r i) && c != 0) || inRange ty (limitOf r c) v, .refused), (!nanOf ty v, .refused)]

/-- FORCE_SET (R154, R155). DESIGN CHOICE (log entry 114): an entry with `VALID` 0, of which the spec says nothing, is turned away as out
of range. -/
def execForceSet (p : BitVec 7) (w0 w1 w2 : W64) (s : State) : Out :=
  let r := s.image
  let f := forceOf p w0 w1 w2 0
  let shape := if f.vkey then decide (f.ty < 6) && f.point == 0 else f.ty == 0 && f.iid == 0 && f.voff == 0 && zeroBits w2 63 32
  serve s p (Req.forceSet w0 w1 w2) true (checked s p
    ([(zeroBits w0 58 52 && zeroBits w1 63 32 && shape, .reservedSet), (bit w0 63, .outOfRange),
      (!f.vkey || f.voff % forceWidth f.ty == 0, .outOfRange)]
      ++ (if f.vkey then varForceChecks r p f else pointForceChecks r p f) ++ [(forceRoom r f, .noSpace)])
    (present s p [.forceSet p w0 w1 w2]))

/-- FORCE_REMOVE (R158). -/
def execForceRemove (p : BitVec 7) (w0 w1 : W64) (s : State) : Out :=
  let f := forceOf p w0 w1 0 0
  serve s p (Req.forceRemove w0 w1) true (checked s p
    [(zeroBits w0 58 52 && zeroBits w1 63 32, .reservedSet), (holdsForce s.image f, .notFound)]
    (present s p [.forceRemove p w0 w1]))

/-- A force entry's four words (R154). -/
def forceWords (f : Force) : List W64 :=
  [BitVec.ofNat 64 (2 ^ 63 + f.vkey.toNat * 2 ^ 62 + f.ty * 2 ^ 59 + f.point.toNat * 2 ^ 32 + f.iid.toNat), BitVec.ofNat 64 f.voff,
    f.fvalue, f.shadow]

/-- FORCE_LIST (R154). -/
def execForceList (p : BitVec 7) (s : State) : Out :=
  let fs := s.image.forces.filter (fun f => f.part == p)
  serve s p Req.forceList true (answerObject s p (layout [(4, fs.length), (4, 0)]) (wordBytes (fs.flatMap forceWords)))

/-! ### Interlock and local I/O (R75 to R82) -/

/-- Reserved fields and selectors of an equation record (R75, R76). -/
def eqClean (r : List W64) : Bool :=
  let sel (k : Nat) : Nat := bits (eqWord r 8) (8 * k + 7) (8 * k)
  (List.range 8).all (fun k => decide (sel k < 128) && !decide (0x32 ≤ sel k ∧ sel k < 0x40))
    && zeroBits (eqWord r 9) 63 48 && zeroBits (eqWord r 10) 61 53 && zeroBits (eqWord r 10) 43 38 && zeroBits (eqWord r 10) 34 32
    && eqWord r 11 == 0

/-- INTERLOCK_WRITE (R75, R77 rule 6, R79, R186). -/
def execInterlockWrite (p : BitVec 7) (eq : W32) (record : List W64) (s : State) : Out :=
  let n := eq.toNat
  serveIn 4 s p (Req.interlockWrite eq record) (owner0 p) (checked s p
    [(record.length == 12, .badLength), (decide (n < 64), .outOfRange), (eqClean record, .reservedSet), (!eqLocked s n, .conflict)]
    (presentConfig s p (Req.interlockWrite eq record) [.eqWrite (BitVec.ofNat 6 n) record]))

/-- INTERLOCK_ACK (R77, R186): IR accepts or refuses it at the edge at which its group reaches IR (log entry 67). -/
def execInterlockAck (p : BitVec 7) (eq : W32) (s : State) : Out :=
  let n := eq.toNat
  serveIn 4 s p (Req.interlockAck eq) (owner0 p) (checked s p
    [(decide (n < 64), .outOfRange)]
    (present s p [.eqAck (BitVec.ofNat 6 n) p]))

/-- INTERLOCK_READ (R479). -/
def execInterlockRead (p : BitVec 7) (eq : W32) (s : State) : Out :=
  let n := eq.toNat
  let r := eqRecord s n
  serveIn 4 s p (Req.interlockRead eq) (owner0 p) (checked s p [(decide (n < 64), .outOfRange)]
    (answer s p (layout ([(4, (bit s.ir.latches n).toNat), (4, (look 0 s.ir.disagree n).toNat)]
      ++ words8 ((List.range 12).map (eqWord r))))))

/-- LIO_CONFIG (R59, R81, R82). -/
def execLioConfig (p : BitVec 7) (pin : W32) (w : W64) (s : State) : Out :=
  let n := pin.toNat
  let r := s.image
  let (ty, mode) := pinPoint w
  let same := typeOf r n == ty && direction (modeOf r n) == direction mode
  serveIn 4 s p (Req.lioConfig pin w) (owner0 p) (checked s p
    [(decide (n < 48), .outOfRange), (zeroBits w 39 12 && zeroBits w 8 3 && decide (bits w 2 0 ≤ 4), .reservedSet),
      (bits w 2 0 != 3 || decide (125 ≤ bits w 63 40), .outOfRange), (same || !referenced r n, .refused)]
    (presentConfig s p (Req.lioConfig pin w) [.lio n w]))

/-! ### Loops (R163 to R168, R179, R182) -/

/-- A loop slot exists and is the partition's. -/
def ownSlot (s : State) (p : BitVec 7) (slot : W32) : List (Bool × Stat) :=
  [(decide (slot.toNat < 8192), .outOfRange), ((loopOf s.image slot.toNat).owner == p, .notFound)]

/-- A valid loop of the partition. -/
def ownLoop (s : State) (p : BitVec 7) (slot : W32) : List (Bool × Stat) :=
  ownSlot s p slot ++ [((loopOf s.image slot.toNat).valid, .notFound)]

/-- LOOP_WRITE (R163, R167, R168, R182). -/
def execLoopWrite (p : BitVec 7) (slot : W32) (record : List W64) (s : State) : Out :=
  let n := slot.toNat
  let r := s.image
  serve s p (Req.loopWrite slot record) true (checked s p ((record.length == 24, .badLength) :: ownSlot s p slot)
    (if !loopClean record then turnAway (loopRefused s n p.toNat 2) p .reservedSet
    else if !loopRecordOk r p n record then turnAway (loopRefused s n p.toNat 2) p .refused
    else if !admitted (put {} r.loops n (writeLoop (loopOf r n) record)) then turnAway (loopRefused s n p.toNat 1) p .admission
    else presentConfig s p (Req.loopWrite slot record) [.loopWrite (slot.setWidth 13) p record]))

/-- LOOP_READ (R166). -/
def execLoopRead (p : BitVec 7) (slot : W32) (s : State) : Out :=
  let l := loopOf s.image slot.toNat
  serve s p (Req.loopRead slot) true (checked s p (ownLoop s p slot) (answer s p (ticks s p ++ wordBytes ((List.range 32).map (fun k => l.word k)))))

/-- LOOP_RUN (R163, R168, R182): stopped loops count in the sum, which a change of `RUN` leaves as it is. -/
def execLoopRun (p : BitVec 7) (slot run : W32) (s : State) : Out :=
  let n := slot.toNat
  serve s p (Req.loopRun slot run) true (checked s p (ownLoop s p slot ++ [(decide (run.toNat < 2), .reservedSet)])
    (if !admitted s.image.loops then turnAway (loopRefused s n p.toNat 1) p .admission
    else presentConfig s p (Req.loopRun slot run) [.loopRun (slot.setWidth 13) (run == 1)]))

/-- LOOP_SETPOINT (R179). -/
def execLoopSetpoint (p : BitVec 7) (slot v : W32) (s : State) : Out :=
  serve s p (Req.loopSetpoint slot v) true (checked s p (ownLoop s p slot) (present s p [.setpoint (slot.setWidth 13) v]))

/-- LOOP_BANK (R179). -/
def execLoopBank (p : BitVec 7) (slot bank : W32) (s : State) : Out :=
  serve s p (Req.loopBank slot bank) true (checked s p (ownLoop s p slot ++ [(decide (bank.toNat < 2), .reservedSet)])
    (present s p [.bank (slot.setWidth 13) (bank == 1)]))

/-- LOOP_REMOVE (R163): not while a loaded image of the partition names the slot. -/
def execLoopRemove (p : BitVec 7) (slot : W32) (s : State) : Out :=
  let r := s.image
  let gs := (programOf r p.toNat).toList ++ (look none r.waiting p.toNat).toList
  let named := gs.any (fun g => g.tasks.any (fun k => k.loops.any (fun x => x.toNat == slot.toNat)))
  serve s p (Req.loopRemove slot) true (checked s p (ownLoop s p slot ++ [(!named, .refused)])
    (presentConfig s p (Req.loopRemove slot) [.loopRemove (slot.setWidth 13)]))

end Sys2Proof.Machine
end

