-- ==== Sys2Proof/Machine/Load.lean ====
section
/-! DEFINITION. The program loader: a Golup image's header, sections, task descriptors, lists, instances, retained ranges and
migration table, and every check of R90, R95, R109 to R114, R120, R137 to R140 and R445. -/

namespace Sys2Proof.Machine

/-! ### Sections (R109 to R111) -/

/-- Chunks of `n` bytes. -/
def chunks (n : Nat) : Nat → Bytes → List Bytes
  | 0, _ => []
  | k + 1, bs => bs.take n :: chunks n k (bs.drop n)

/-- A section: type, offset, length. -/
abbrev Section := Nat × Nat × Nat

/-- The section table. -/
def sections (b : Bytes) : List Section :=
  (chunks 16 (fieldLE b 0x0C 4) (b.drop 0x40)).map (fun e => (fieldLE e 0 4, fieldLE e 4 4, fieldLE e 8 4))

/-- The bytes of a section; none when the image has no such section. -/
def sectionBytes (b : Bytes) (ty : Nat) : Option Bytes :=
  ((sections b).find? (fun x => x.1 == ty)).map (fun x => (b.drop x.2.1).take x.2.2)

/-- The program header and section table (R109 to R111). -/
def headerOk (b : Bytes) (p : Nat) : Bool :=
  let n := fieldLE b 0x0C 4
  let ss := sections b
  fieldLE b 0 4 == 0x504C4F47 && fieldLE b 4 2 == 1 && fieldLE b 6 2 == p && decide (fieldLE b 8 4 < 2)
    && zeroBytes ((b.drop 0x18).take 0x28) && decide (5 ≤ n ∧ n ≤ 9)
    && (chunks 16 n (b.drop 0x40)).all (fun e => fieldLE e 12 4 == 0)
    && ss.all (fun x => decide (1 ≤ x.1 ∧ x.1 ≤ 9) && x.2.1 % 64 == 0 && decide (0x40 + 16 * n ≤ x.2.1 ∧ x.2.1 + x.2.2 ≤ b.length))
    && decide ((ss.map (fun x => x.1)).Nodup) && [1, 2, 3, 4, 6].all (fun t => ss.any (fun x => x.1 == t))

/-! ### Task descriptors and lists (R89, R90, R112, R113) -/

/-- A list of 32-bit entries in CON: none where it does not fit or an entry has a bit above its width. -/
def conList (con : Bytes) (off count width : Nat) : Option (List Nat) :=
  if off % 4 ≠ 0 ∨ con.length < off + 4 * count then none
  else
    let l := (chunks 4 count (con.drop off)).map leNat
    if l.all (fun x => decide (x < 2 ^ width)) then some l else none

/-- The first word of a point: an exposure entry may name either word of a COUNT48 point (R113). DESIGN CHOICE (log entry 88): the right
to read (R60) of an entry that names the odd index is tested on the even one. -/
def firstWord (r : Region) (i : Nat) : Nat := if typeOf r i = tyCount2 then i - 1 else i

/-- The ranges of a task record (R89, R90) and descriptor (R112) that need nothing outside it. -/
def descriptorOk (d : Bytes) (p : Nat) : Bool :=
  let w (k : Nat) : W64 := BitVec.ofNat 64 (fieldLE d (8 * k) 8)
  let kind := bits (w 0) 62 61
  let period := bits (w 1) 58 32
  let phase := bits (w 1) 26 0
  bit (w 0) 63 && kind != 3 && !bit (w 0) 55 && bits (w 0) 54 48 == p && zeroBits (w 0) 41 32 && zeroBits (w 1) 63 59
    && zeroBits (w 1) 31 27 && (if kind = 0 then decide (5 ≤ period ∧ period ≤ 100000000 ∧ phase < period) else period == 0 && phase == 0)
    && zeroBits (w 2) 63 53 && decide (bits (w 2) 52 32 ≤ 1048576) && decide (bits (w 3) 63 60 ≤ 5) && zeroBits (w 3) 59 52
    && (kind == 1 || bits (w 3) 63 60 == 0) && decide (fieldLE d 0x20 2 < 512) && fieldLE d 0x22 2 == 0
    && fieldLE d 0x24 4 % 64 == 0 && decide (fieldLE d 0x24 4 ≤ 16 * 2 ^ 20) && decide (fieldLE d 0x2C 4 ≤ 65536)
    && decide (fieldLE d 0x34 4 ≤ 1024) && decide (fieldLE d 0x3C 4 ≤ 32)

/-- A task of a descriptor with its lists (R112, R113). -/
def parseTask (r : Region) (con d : Bytes) : Option Task :=
  let w (k : Nat) : W64 := BitVec.ofNat 64 (fieldLE d (8 * k) 8)
  match conList con (bits (w 2) 31 0) (bits (w 2) 52 32) 20, conList con (fieldLE d 0x28 4) (fieldLE d 0x2C 4) 20,
      conList con (fieldLE d 0x30 4) (fieldLE d 0x34 4) 13, conList con (fieldLE d 0x38 4) (fieldLE d 0x3C 4) 9 with
  | some xs, some os, some ls, some es =>
    some { slot := BitVec.ofNat 9 (fieldLE d 0x20 2)
           kind := if bits (w 0) 62 61 = 0 then .cyclic else if bits (w 0) 62 61 = 1 then .event else .error
           prio := bits (w 0) 60 56
           part := BitVec.ofNat 7 (bits (w 0) 54 48)
           wdt := bits (w 0) 47 42
           entry := (w 0).setWidth 32
           period := bits (w 1) 58 32
           phase := bits (w 1) 26 0
           trig := bits (w 3) 63 60
           tpoint := BitVec.ofNat 20 (bits (w 3) 51 32)
           tlevel := (w 3).setWidth 32
           vsize := fieldLE d 0x24 4
           xlist := xs.map (fun i => BitVec.ofNat 20 (firstWord r i))
           outs := os.map (BitVec.ofNat 20)
           loops := ls.map (BitVec.ofNat 13)
           events := es.map (BitVec.ofNat 9) }
  | _, _, _, _ => none

/-- All or nothing. -/
def allSome {α : Type} : List (Option α) → Option (List α)
  | [] => some []
  | none :: _ => none
  | some x :: xs => (allSome xs).map (fun l => x :: l)

/-! ### Instances, retained ranges, migration (R111, R114, R138, R139) -/

/-- An instance directory entry (R114). -/
def parseInst (e : Bytes) : Inst :=
  { iid := BitVec.ofNat 32 (fieldLE e 0 4), kind := BitVec.ofNat 8 (fieldLE e 4 1), slot := BitVec.ofNat 9 (fieldLE e 6 2),
    voff := fieldLE e 8 4, len := fieldLE e 12 4 }

/-- A retained range (R111). -/
def parseRetain (e : Bytes) : Retain := { iid := BitVec.ofNat 32 (fieldLE e 0 4), off := fieldLE e 4 4, len := fieldLE e 8 4 }

/-- A migration entry (R139). -/
def parseMigr (e : Bytes) : Migr :=
  { ooff := fieldLE e 0 4, noff := fieldLE e 4 4, len := fieldLE e 8 4, oslot := BitVec.ofNat 9 (fieldLE e 12 2),
    nslot := BitVec.ofNat 9 (fieldLE e 14 2), conv := fieldLE e 16 1 }

/-- Reserved bits of a migration entry (R139). -/
def migrClean (e : Bytes) : Bool := decide (fieldLE e 12 2 < 512 ∧ fieldLE e 14 2 < 512) && zeroBytes ((e.drop 0x11).take 7)

/-- The MIGRATE section's shape (R138). -/
def migrateOk (m : Bytes) : Bool :=
  let n := fieldLE m 0x10 4
  decide (fieldLE m 8 8 < 2 ^ 48) && decide (n ≤ 65536) && zeroBytes ((m.drop 0x14).take 12) && m.length == 32 + 24 * n
    && (chunks 24 n (m.drop 32)).all migrClean

/-- Initial variable areas in TASKS order, with `IID` and `KIND` of every function block written over them (R111, R114). DESIGN
CHOICE (log entry 96): the other bytes of an instance stay as VINIT gives them, also a set `INIT`, which R129 says VINIT leaves zero
and R153 says starts at 0. -/
def initialVars (insts : List Inst) : List Task → Bytes → List (BitVec 9 × Bytes)
  | [], _ => []
  | k :: ks, v =>
    let area := (insts.filter (fun i => i.slot == k.slot && i.kind != 1)).foldl (fun b i =>
      patchBytes b (i.voff + 3) (i.kind :: leBytes 4 i.iid.toNat)) (v.take k.vsize)
    (k.slot, area) :: initialVars insts ks (v.drop k.vsize)

/-- The image in its parts, when its layout can be read (R109 to R114, R138). -/
def parseProgram (r : Region) (p : Nat) (minc : W64) (b : Bytes) : Option Program :=
  if !headerOk b p then none
  else
    let sec (t : Nat) : Bytes := (sectionBytes b t).getD []
    let ds := chunks 64 ((sec 1).length / 64) (sec 1)
    let is_ := chunks 16 ((sec 6).length / 16) (sec 6)
    let fs := chunks 16 ((sec 2).length / 16) (sec 2)
    let rs := chunks 16 ((sec 9).length / 16) (sec 9)
    let shape := (sec 1).length % 64 == 0 && (sec 6).length % 16 == 0 && (sec 2).length % 16 == 0 && (sec 9).length % 16 == 0
      && ds.all (fun d => descriptorOk d p) && is_.all (fun e => fieldLE e 5 1 == 0 && decide (fieldLE e 6 2 < 512))
      && fs.all (fun e => fieldLE e 8 8 == 0) && rs.all (fun e => fieldLE e 12 4 == 0)
      && ((sectionBytes b 7).map migrateOk).getD true
    match allSome (ds.map (parseTask r (sec 4))) with
    | none => none
    | some ts =>
      let insts := is_.map parseInst
      if !shape || (sec 5).length ≠ ts.foldl (fun n k => n + k.vsize) 0 then none
      else some {
        part := BitVec.ofNat 7 p
        build := BitVec.ofNat 64 (fieldLE b 0x10 8)
        edgeInit := fieldLE b 8 4 == 1
        tasks := ts
        funcs := fs.map (fun e => (fieldLE e 0 4, fieldLE e 4 4))
        code := bytesWords ((sec 3).length / 8) (sec 3)
        const := sec 4
        vinit := initialVars insts ts (sec 5)
        insts := insts
        retain := rs.map parseRetain
        obuild := (sectionBytes b 7).map (fun m => BitVec.ofNat 64 (fieldLE m 0 8))
        drain := fieldLE (sec 7) 8 6
        migr := (chunks 24 (fieldLE (sec 7) 0x10 4) ((sec 7).drop 32)).map parseMigr
        bodyLen := b.length
        minc := minc }

/-! ### Code (R120) -/

/-- The words of a function. -/
def funcWords (g : Program) (f : Nat × Nat) : List W64 := (g.code.drop (f.1 / 8)).take (f.2 / 8)

/-- A word's instruction; the engine it names has no part in the checks. -/
def asInstr (w : W64) : Option Instr := Golup.decodeWord { er := .A, n := 0 } w

/-- A branch target lies in its function, and a CALL target is a function's start. -/
def targetOk (g : Program) (f : Nat × Nat) : Instr → Bool
  | .br _ b => decide (f.1 ≤ b.tgt.toNat ∧ b.tgt.toNat < f.1 + f.2)
  | .call _ b => g.funcs.any (fun x => x.1 == b.tgt.toNat)
  | _ => true

/-- END, RET or an unconditional branch. -/
def closesFunc : Instr → Bool
  | .endRun _ _ => true
  | .ret _ _ => true
  | .br _ b => !b.cnd
  | _ => false

/-- The functions that a function calls. -/
def callees (g : Program) (f : Nat × Nat) : List (Nat × Nat) :=
  g.funcs.filter (fun x => (funcWords g f).any (fun w => match asInstr w with
    | some (.call _ b) => b.tgt.toNat == x.1
    | _ => false))

/-- Functions at call depth n from a list of functions. -/
def atDepth (g : Program) : Nat → List (Nat × Nat) → List (Nat × Nat)
  | 0, l => l
  | n + 1, l => atDepth g n (g.funcs.filter (fun x => l.any (fun f => (callees g f).contains x)))

/-- Functions reached by calls from a list of functions, the list included. -/
def reached (g : Program) : Nat → List (Nat × Nat) → List (Nat × Nat)
  | 0, l => l
  | n + 1, l => reached g n (g.funcs.filter (fun x => l.contains x || l.any (fun f => (callees g f).contains x)))

/-- A load or store with base W0 whose address no task's sizes decide: its alignment, and the bounds of CON and SCR (R119, R120). -/
def baseOk (g : Program) : Instr → Bool
  | .ld _ f => f.wa != 0 || fixedOk f
  | .st _ f => f.wa != 0 || fixedOk f
  | _ => true
where
  /-- An access at a fixed offset. -/
  fixedOk (f : MFields) : Bool :=
    let n := szBytes f.sz
    f.off.toNat % n == 0 && (match f.sp with
      | .con => decide (f.off.toNat + n ≤ g.const.length)
      | .scr => decide (f.off.toNat + n ≤ 16384)
      | _ => true)

/-- One function's words (R120). -/
def funcOk (g : Program) (codeLen : Nat) (f : Nat × Nat) : Bool :=
  let ws := funcWords g f
  f.1 % 8 == 0 && f.2 % 8 == 0 && decide (0 < f.2) && decide (f.1 + f.2 ≤ codeLen)
    && ws.all (fun w => match asInstr w with | some i => i.wf && targetOk g f i && baseOk g i | none => false)
    && (((ws.getLast?).bind asInstr).map closesFunc).getD false
    && g.funcs.all (fun x => x == f || decide (x.1 + x.2 ≤ f.1 ∨ f.1 + f.2 ≤ x.1))
    && !(reached g g.funcs.length (callees g f)).contains f

/-- Words of EXP that a task exposes (R94, R113). -/
def expWords (r : Region) (k : Task) : Nat := k.xlist.foldl (fun n i => n + (if typeOf r i.toNat = tyCount then 2 else 1)) 0

/-- The opcodes of function blocks (R121). -/
def fbOps : List Nat := [0x80, 0x81, 0x82, 0x84, 0x85, 0x86, 0x88, 0x89, 0x8A, 0x8B, 0x8C]

/-- An instruction with base W0 passes R119 with the sizes that the image declares. -/
def staticOk (r : Region) (g : Program) (k : Task) (w : W64) : Bool :=
  let op := bits w 63 56
  match asInstr w with
  | some (.ld _ f) => f.wa != 0 || spaceOk f
  | some (.st _ f) => f.wa != 0 || spaceOk f
  | some (.out _ f) => f.wa != 0 || decide (f.idx.toNat < k.outs.length)
  | some (.lsp _ f) => f.wa != 0 || decide (f.idx.toNat < k.loops.length)
  | some (.lbank _ f) => f.wa != 0 || decide (f.idx.toNat < k.loops.length)
  | some (.event _ f) => f.wa != 0 || decide (f.idx.toNat < k.events.length)
  | _ =>
    if fbOps.contains op && bits w 47 43 == 0 then
      let a := bits w 19 0
      a % 32 == 0 && decide (a + 32 ≤ k.vsize) && g.insts.any (fun i => i.slot == k.slot && i.voff == a && i.kind.toNat == op)
    else true
where
  /-- A static load or store. -/
  spaceOk (f : MFields) : Bool :=
    let n := szBytes f.sz
    let len := match f.sp with
      | .exp => 64 + 8 * expWords r k
      | .var => k.vsize
      | .con => g.const.length
      | .scr => 16384
    f.off.toNat % n == 0 && decide (f.off.toNat + n ≤ len)

/-- A task without variables, lists or exposure: what a program without tasks declares. -/
def noTask : Task :=
  { slot := 0, kind := .cyclic, prio := 0, part := 0, wdt := 0, entry := 0, period := 0, phase := 0, trig := 0, tpoint := 0, tlevel := 0,
    vsize := 0, xlist := [], outs := [], loops := [], events := [] }

/-- Every access with base W0 passes R119 with the sizes that some task of the program declares, whether or not a task reaches it
(R120). -/
def basesOk (r : Region) (g : Program) : Bool :=
  let ks := if g.tasks.isEmpty then [noTask] else g.tasks
  g.funcs.all (fun f => (funcWords g f).all (fun w => ks.any (fun k => staticOk r g k w)))

/-- A task's entry, call depth and static accesses (R120). -/
def taskCodeOk (r : Region) (g : Program) (k : Task) : Bool :=
  match g.funcs.find? (fun f => f.1 == k.entry.toNat) with
  | none => false
  | some f => (atDepth g 17 [f]).isEmpty && (reached g g.funcs.length [f]).all (fun x => (funcWords g x).all (staticOk r g k))

/-! ### Points, loops, events, instances (R60, R90, R101, R114, R120, R445) -/

/-- A task's trigger (R90, R101). -/
def triggerOk (r : Region) (p : Nat) (k : Task) : Bool :=
  let i := k.tpoint.toNat
  let ty := typeOf r i
  match k.trig with
  | 0 => true
  | 5 => decide (i < 48) && mayRead r p (0xE0 + i)
  | n => mayRead r p i && (decide (3 ≤ n) || (ty != tyBool && ty != tyCount && ty != tyCount2))

/-- A task's lists (R60, R101, R120). -/
def listsOk (r : Region) (p : Nat) (g : Program) (k : Task) : Bool :=
  k.xlist.all (fun i => mayRead r p i.toNat) && decide k.xlist.Nodup
    && k.outs.all (fun i =>
      let ty := typeOf r i.toNat
      let m := modeOf r i.toNat
      ownerOf r i.toNat == p && (isOutput m || isMemo m) && ty != tyCount && ty != tyCount2
        && !r.loops.any (fun e => e.2.valid && e.2.owner.toNat == p && bits (e.2.word 2) 19 0 == i.toNat))
    && k.loops.all (fun l => (loopOf r l.toNat).owner.toNat == p)
    && k.events.all (fun e => g.tasks.any (fun t => t.slot == e && t.kind == .event))

/-- Two ranges of one task's variables share a byte. -/
def rangesMeet (a : BitVec 9 × Nat × Nat) (b : BitVec 9 × Nat × Nat) : Bool :=
  a.1 == b.1 && decide (max a.2.1 b.2.1 < min (a.2.1 + a.2.2) (b.2.1 + b.2.2))

/-- No two ranges of a list meet. -/
def disjointRanges : List (BitVec 9 × Nat × Nat) → Bool
  | [] => true
  | a :: l => l.all (fun b => !rangesMeet a b) && disjointRanges l

/-- The instance directory (R114, R129). -/
def instsOk (g : Program) : Bool :=
  let vsize (s : BitVec 9) : Option Nat := (g.tasks.find? (fun k => k.slot == s)).map (fun k => k.vsize)
  g.insts.all (fun i => i.iid != 0 && (match vsize i.slot with | some n => decide (i.voff + i.len ≤ n) | none => false)
      && (i.kind == 1 || (fbOps.contains i.kind.toNat && i.voff % 32 == 0 && i.len == 32)))
    && decide ((g.insts.map (fun i => i.iid)).Nodup)
    && disjointRanges ((g.insts.filter (fun i => i.kind != 1)).map (fun i => (i.slot, i.voff, i.len)))

/-- The RETAIN section (R445). -/
def retainOk (g : Program) : Bool :=
  let block (x : Retain) : Option Inst := g.insts.find? (fun i => i.iid == x.iid && i.kind == 1)
  g.retain.all (fun x => x.off % 8 == 0 && x.len % 8 == 0 && x.len != 0 && (match block x with | some b => decide (x.off + x.len ≤ b.len) | none => false))
    && disjointRanges (g.retain.filterMap (fun x => (block x).map (fun b => (b.slot, b.voff + x.off, x.len))))

/-- One migration entry (R140). -/
def migrOk (old new : Program) (e : Migr) : Bool :=
  let size (g : Program) (s : BitVec 9) : Option Nat := (g.tasks.find? (fun k => k.slot == s)).map (fun k => k.vsize)
  match convSizes e.conv, size old e.oslot, size new e.nslot with
  | some (ss, ds), some n, some m =>
    let a := if e.conv = 0 then 4 else max ss ds
    let unit := if e.conv = 0 then 1 else ss
    let d := if e.conv = 0 then e.len else e.len / ss * ds
    e.len % unit == 0 && e.ooff % a == 0 && e.noff % a == 0 && decide (e.ooff + e.len ≤ n ∧ e.noff + d ≤ m)
      && new.insts.all (fun i => i.kind == 1 || !rangesMeet (e.nslot, e.noff, d) (i.slot, i.voff, i.len))
  | _, _, _ => false

/-- The destination ranges of the migration entries. -/
def migrRanges (g : Program) : List (BitVec 9 × Nat × Nat) :=
  g.migr.map (fun e => (e.nslot, e.noff, if e.conv = 0 then e.len else destLen e))

/-- Surviving variable forces: at most 64 words for any task (R137, R159). -/
def forcesFit (r : Region) (p : Nat) (old new : Program) : Bool :=
  let fs := (r.forces.filter (fun f => f.vkey && f.part.toNat == p)).filterMap (mapForce old new)
  let slotOfForce (f : Force) : Option (BitVec 9) := (new.insts.find? (fun b => b.iid == f.iid && b.kind == 1)).map (fun b => b.slot)
  new.tasks.all (fun k => decide ((fs.filter (fun f => slotOfForce f == some k.slot)).length ≤ 64))

/-! ### Pools (R95, R118, R137, R445) -/

/-- Programs that hold room in a region: running and waiting. -/
def heldPrograms (r : Region) : List Program := (r.programs ++ r.waiting).filterMap (fun e => e.2)

/-- Exposure pool bytes of a program: two exposures for each task (R95). -/
def exposureBytes (r : Region) (g : Program) : Nat := g.tasks.foldl (fun n k => n + 2 * (64 + 8 * expWords r k)) 0
/-- VAR pool bytes. -/
def varBytes (g : Program) : Nat := g.tasks.foldl (fun n k => n + k.vsize) 0
/-- Code store bytes: CODE and CONST (R118). -/
def storeBytes118 (g : Program) : Nat := 8 * g.code.length + g.const.length

/-- A pool of `size` bytes holds the programs of a region and a new one. -/
def poolHolds (r : Region) (g : Program) (use : Program → Nat) (size : Nat) : Bool :=
  decide ((heldPrograms r).foldl (fun n x => n + use x) (use g) ≤ size)

/-- Retained ranges of the other partitions' programs and of the new one. -/
def retainAfter (r : Region) (p : Nat) (g : Program) : List Retain :=
  (r.programs.filter (fun e => e.1 != p)).flatMap (fun e => (e.2.map Program.retain).getD []) ++ g.retain

/-- The checks of a parsed image in partition p (R90, R95, R120, R137, R140, R445). DESIGN CHOICE (log entry 76): a slot that only
the waiting image of another partition names counts as held by it. -/
def loadChecks (r : Region) (p : Nat) (g : Program) : List (Bool × Stat) :=
  let others := (r.programs ++ r.waiting).filter (fun e => e.1 != p)
  let taken (k : Task) : Bool := others.any (fun e => (e.2.map (fun x => x.tasks.any (fun t => t.slot == k.slot))).getD false)
  let codeLen := 8 * g.code.length
  let old := programOf r p
  [(decide (g.tasks.length ≤ 32) && decide ((g.tasks.filter (fun k => k.kind == .error)).length ≤ 1)
      && decide ((g.tasks.map (fun k => k.slot)).Nodup) && !g.tasks.any taken, .refused),
    (g.tasks.all (triggerOk r p), .refused), (instsOk g, .refused), (retainOk g, .refused),
    (g.funcs.all (funcOk g codeLen) && decide g.funcs.Nodup, .refused), (g.tasks.all (taskCodeOk r g), .refused), (basesOk r g, .refused),
    (g.tasks.all (listsOk r p g), .refused),
    (match old with
      | none => true
      | some o => g.obuild == some o.build && g.migr.all (migrOk o g) && disjointRanges (migrRanges g) && forcesFit r p o g, .refused),
    (decide (retainSize (countPoints r).length (retainAfter r p g) (validLoops r).length ≤ retainMax), .refused),
    (poolHolds r g (exposureBytes r) (24 * 2 ^ 20), .noSpace), (poolHolds r g varBytes (16 * 2 ^ 20), .noSpace),
    (poolHolds r g storeBytes118 (32 * 2 ^ 20), .noSpace)]

end Sys2Proof.Machine
end

