-- ==== Sys2Proof/Machine/Image.lean ====
section
/-! DEFINITION. Image containers and their checks, image and program transfers, the update of firmware and its trial, and the
retain snapshot (R436 to R461). -/

namespace Sys2Proof.Machine

/-! ### Slots of the target (R441, R442) -/

/-- Length of a container's header (R436). -/
def headerLen : Nat := 32768

/-- The region of an IMAGE_WRITE target: [8]. -/
def targetEr (t : Nat) : Er := if t.testBit 8 then .B else .A
/-- Its slot: [16]. -/
def targetOne (t : Nat) : Bool := t.testBit 16

/-- The slot that a target names. -/
def imgSlot (g : Img) (ty t : Nat) : ISlot :=
  if ty = 1 then srSlot g (targetOne t) else if ty = 5 then cfgSlot g (targetOne t) else fwSlot g (targetEr t) (targetOne t)

/-- Write the slot that a target names. -/
def setImgSlot (g : Img) (ty t : Nat) (v : ISlot) : Img :=
  if ty = 1 then setSrSlot g (targetOne t) v
  else if ty = 5 then setCfgSlot g (targetOne t) v
  else setFwSlot g (targetEr t) (targetOne t) v

/-- Size of the slot of a type (R441). -/
def slotSize (ty : Nat) : Nat :=
  if ty = 1 then 2 * 2 ^ 20 else if ty = 5 then 8 * 2 ^ 20 else if ty = 6 then 32 * 2 ^ 20 else 24 * 2 ^ 20

/-- The running update uses the slots of this type (R442, R448). -/
def slotInUse (s : State) (ty : Nat) : Bool :=
  match s.img.update with
  | none => false
  | some u => if u.sr then ty == 1 else (decide (2 ≤ ty ∧ ty ≤ 4) || (ty == 5 && u.formats))

/-- An image may be written into a slot in this state (R442). -/
def writable (x : ISlot) : Bool := x.state == .empty || x.state == .ready || x.state == .previous

/-! ### The header (R436 to R438) -/

/-- `ITYPE`. -/
def hType (c : Bytes) : Nat := hdr c 6 1
/-- `PART`. -/
def hPart (c : Bytes) : Nat := hdr c 0xC 4
/-- `ICOUNT`. -/
def hCount (c : Bytes) : Nat := hdr c 0x30 8
/-- `MINC`. -/
def hMinc (c : Bytes) : Nat := hdr c 0x38 8
/-- `BODYLEN`. -/
def hBody (c : Bytes) : Nat := hdr c 0x40 8
/-- `SKIND`. -/
def hKind (c : Bytes) : Nat := hdr c 0x8B 1
/-- `SPART`. -/
def hSpart (c : Bytes) : Nat := hdr c 0x88 1
/-- `CRIT`. -/
def hCrit (c : Bytes) : Nat := hdr c 0xC0 4
/-- The body digest that the header carries. -/
def hDigest (c : Bytes) : Bytes := hdrBytes c 0x48 64

/-- Bytes a to b - 1 of the header are zero. -/
def hZero (c : Bytes) (a b : Nat) : Bool := zeroBytes (hdrBytes c a (b - a))

/-- Check 1: magic, format, reserved fields, fields that the type does not use, and the ranges of the trial fields (R436,
R449). -/
def imageCheck1 (c : Bytes) : Bool :=
  let ty := hType c
  let fw := decide (1 ≤ ty ∧ ty ≤ 4)
  let tmin := hdr c 0xBC 4
  hdr c 0 4 == 0x4D495A4F && hdr c 4 2 == 1 && decide (hdr c 7 1 < 2) && decide (hPart c < 128) && (ty == 6 || hPart c == 0)
    && (hdr c 7 1 == 1 || hZero c 0x10 0x30) && decide (hdr c 0x88 3 < 128) && (hKind c == 3 || hSpart c == 0)
    && (fw || hdr c 0xB0 4 == 0) && (ty == 3 || ty == 5 || hdr c 0xB4 2 == 0) && hdr c 0xB6 2 == 0
    && (if fw then (hdr c 0xB8 4 == 0 || decide (60 ≤ hdr c 0xB8 4 ∧ hdr c 0xB8 4 ≤ 86400)) && decide (10 ≤ tmin ∧ tmin ≤ imgTwin c)
          && (hCrit c).testBit 0 && decide (hCrit c < 128)
        else hZero c 0xB8 0xC4)
    && hZero c 0xC4 0xD0 && (ty == 1 || hZero c 0xD0 0x110) && hZero c 0x110 0xBA0

/-- The signer's public key; none where R437 does not allow the signer or the authority does not exist. The root key is the
one that the running SR firmware holds (R418). -/
def signerKey (s : State) (c : Bytes) : Option Bytes :=
  let ty := hType c
  let k := hKind c
  let ok := if ty ≤ 4 then k == 1 else if ty = 5 then k == 2 else k == 2 || (k == 3 && hSpart c == hPart c && hPart c != 0)
  let key := (authority s k (hSpart c)).key
  if ok && key != [] then some key else none

/-- The floor of a type, or of a partition's programs (R437). -/
def floorOf (g : Img) (c : Bytes) : Nat :=
  if hType c = 6 then (look 0 g.partFloors (hPart c)).toNat else (look 0 g.floors (hType c)).toNat

/-- The running `VERSION` of an image's type. -/
def runningVersion (s : State) (ty : Nat) : Nat := if ty = 1 then s.dev.srver.toNat else s.dev.fwver.toNat

/-- Checks 1 to 8 of R438 for a header on page p that must be of type `want`: the first that fails. -/
def headerFails (s : State) (p : BitVec 7) (want : Nat) (c : Bytes) : Option Nat :=
  let ty := hType c
  let checks : List (Nat × Bool) :=
    [(1, imageCheck1 c),
      (2, decide (1 ≤ ty ∧ ty ≤ 6) && ty == want && (if ty = 6 then hPart c == p.toNat else p == 0)),
      (3, hdr c 8 4 == 0x70),
      (4, hdr c 7 1 == 0 || hdrBytes c 0x10 32 == fitBytes 32 deviceId),
      (5, decide (floorOf s.img c ≤ hCount c) && decide (hMinc c ≤ hCount c)),
      (6, decide (1 ≤ hBody c ∧ hBody c ≤ slotSize ty)
        && (decide (4 < ty) || decide (hdr c 0xB0 4 ≤ runningVersion s ty))
        && (ty != 1 || Config.shake256 (hdrBytes c 0xD0 64) 64 == Config.rootHash)),
      (7, match signerKey s c with
        | some k => hdrBytes c 0x90 32 == Config.shake256 k 32
        | none => false),
      (8, match signerKey s c with
        | some k => Config.slhVerify k (hdrBytes c 0 0xBA0) (hdrBytes c 0xBA0 29792)
        | none => false)]
  (checks.find? (fun x => !x.2)).map Prod.fst

/-! ### Transfers (R438, R439, R444, R459) -/

/-- An open transfer of a page. -/
def transferOf (s : State) (p : BitVec 7) : Option Transfer := look none s.img.transfers p.toNat

/-- Open, change or close a page's transfer. -/
def setTransfer (s : State) (p : BitVec 7) (t : Option Transfer) : State :=
  s.setImg { s.img with transfers := put none s.img.transfers p.toNat t }

/-- Change the slot of a transfer; a program has none. -/
def modSlot (s : State) (t : Transfer) (f : ISlot → ISlot) : State :=
  if t.itype = 6 then s else s.setImg (setImgSlot s.img t.itype t.target (f (imgSlot s.img t.itype t.target)))

/-- The slot is marked EMPTY. -/
def emptySlot (x : ISlot) : ISlot := { x with state := .empty, images := [] }

/-- An image is refused at a check (R438, R439, R461). -/
def refuseImage (s : State) (p : BitVec 7) (c : Bytes) (check : Nat) (st : Stat) : State :=
  let s := raise (recordN s (erNum s.pair.active) 0x7102 (hType c) check p.toNat) 664
  turnAway s p st check

/-- The store that a partition's new program goes to: the one that its running program does not lie in (R444). -/
def otherStore (s : State) (p : Nat) : Nat := 1 - look 0 s.img.stores p

/-- Bytes in use in a program store: running programs, waiting ones and those on their way. -/
def storeUse (s : State) (n : Nat) : Nat :=
  let g := s.img
  let lens (l : SMap (Option Program)) (ok : Nat → Bool) : Nat :=
    (l.filter (fun e => ok e.1)).foldl (fun k e => k + (e.2.map Program.bodyLen).getD 0) 0
  lens g.directory (fun p => look 0 g.stores p == n) + lens s.image.waiting (fun p => otherStore s p == n)
    + (g.transfers.filter (fun e => otherStore s e.1 == n)).foldl (fun k e => k + (match e.2 with
        | some t => if t.itype = 6 then hBody t.container else 0
        | none => 0)) 0

/-- The device takes the header, which ends the request at the first check that fails; the body then goes into the slot. -/
def takeHeader (s : State) (p : BitVec 7) (t : Transfer) : State :=
  let c := t.container
  match headerFails s p t.itype c with
  | some n => refuseImage s p c n .refused
  | none =>
    if t.itype = 6 ∧ slotSize 6 < storeUse s (otherStore s p.toNat) + hBody c then refuseImage s p c 6 .noSpace
    else if c.length > headerLen + hBody c then turnAway s p .badLength
    else
      let s := modSlot s t (fun x => { x with state := .empty, images := put [] x.images t.itype [] })
      let g := s.img
      let s := if t.itype = 5 then
          s.setImg (if targetOne t.target then { g with cfgLog1 := [] } else { g with cfgLog0 := [] }) else s
      setTransfer s p (some t)

/-- A transfer ends without its image: the slot is EMPTY (R439, R459). -/
def dropTransfer (s : State) (p : BitVec 7) : State :=
  match transferOf s p with
  | none => s
  | some t => setTransfer (modSlot s t emptySlot) p none

/-- Every transfer stops at a power-fail warning (R459). -/
def stopTransfers (s : State) : State :=
  s.img.transfers.foldl (fun s e =>
    let p : BitVec 7 := BitVec.ofNat 7 e.1
    if (transferOf s p).isSome then
      let s := dropTransfer s p
      if (s.page p).busy then turnAway s p .powerWarning else s
    else s) s

/-- A slot with one more image: READY once it holds all that its kind needs (R437, R442). -/
def withImage (x : ISlot) (ty : Nat) (c : Bytes) : ISlot :=
  let x := { x with images := put [] x.images ty c }
  let trial (k : Nat) : Nat × Nat × Nat × Nat := let c := x.image k; (hdr c 0x8C 4, hdr c 0xB8 4, hdr c 0xBC 4, hCrit c)
  let whole := ty == 1 || ty == 5
    || ([2, 3, 4].all (fun k => x.image k != []) && trial 2 == trial 3 && trial 3 == trial 4)
  if whole then { x with state := .ready } else x

/-- A program whose body is whole: its checks, and the image waits (R120, R136, R137, R141). -/
def finishProgram (s : State) (p : BitVec 7) (c : Bytes) : State :=
  let q := p.toNat
  let r := s.image
  let fail (st : Stat) : State := turnAway (raise (recordN s (erNum s.pair.active) 0x7102 6 9 q) 664) p st
  match parseProgram r q (BitVec.ofNat 64 (hMinc c)) (c.drop headerLen) with
  | none => fail .refused
  | some g =>
    match (loadChecks r q g).find? (fun x => !x.1) with
    | some x => fail x.2
    | none =>
      let old := oldProgram r q
      let g := { g with container := c }
      let s := eachServing s (fun s er => s.setRegion er { s.region er with waiting := put none (s.region er).waiting q (some g) })
      let s := raise (recordN s (erNum s.pair.active) 0x7101 6 (otherStore s q) (hCount c % 2 ^ 32)) 664
      answer s p (layout [(4, migrationCost old g), (4, migrationTicks old g)])

/-- The last byte has arrived: the digest decides (R439). -/
def finishTransfer (s : State) (p : BitVec 7) (t : Transfer) : State :=
  let c := t.container
  if Config.shake256 (c.drop headerLen) 64 != hDigest c then refuseImage (dropTransfer s p) p c 9 .refused
  else if t.itype = 6 then finishProgram (setTransfer s p none) p c
  else
    let s := modSlot (setTransfer s p none) t (fun x => withImage x t.itype c)
    let s := raise (recordN s (erNum s.pair.active) 0x7101 t.itype (targetOne t.target).toNat (hCount c % 2 ^ 32)) 664
    answer s p (layout [(4, t.itype), (8, hCount c)])

/-- What a transfer meets before its header is checked. -/
def mayTransfer (s : State) (p : BitVec 7) (ty target : Nat) : List (Bool × Stat) :=
  [(!s.dev.pfwLow, .powerWarning), ((transferOf s p).isNone, .conflict),
    (if ty = 6 then (look none s.image.waiting p.toNat).isNone
      else writable (imgSlot s.img ty target) && !slotInUse s ty, .conflict)]

/-- The target word of IMAGE_WRITE (R479). -/
def targetOk438 (target : W32) : List (Bool × Stat) :=
  let ty := bits target 7 0
  [(decide (1 ≤ ty ∧ ty ≤ 5), .outOfRange), (zeroBits target 31 17 && zeroBits target 15 9 && (decide (2 ≤ ty ∧ ty ≤ 4) || !bit target 8), .reservedSet)]

/-- IMAGE_WRITE (R438): the request's object as far as it has arrived; the page stays busy until IMAGE_BODY_COMPLETE. -/
def execImageWrite (p : BitVec 7) (target : W32) (container : Bytes) (s : State) : Out :=
  let ty := bits target 7 0
  serveSr s p (Req.imageWrite target container) (owner0 p) (checked s p
    ([(decide (headerLen ≤ container.length), .badLength)] ++ targetOk438 target ++ mayTransfer s p ty target.toNat)
    (takeHeader s p { itype := ty, target := target.toNat, container := container }))

/-- PROGRAM_LOAD (R136, R438). -/
def execProgramLoad (p : BitVec 7) (container : Bytes) (s : State) : Out :=
  serveSr s p (Req.programLoad container) true (checked s p
    ([(decide (headerLen ≤ container.length), .badLength)] ++ mayTransfer s p 6 0)
    (takeHeader s p { itype := 6, target := 0, container := container }))

/-- IMAGE_BODY_COMPLETE (R439). -/
def execImageBodyComplete (p : BitVec 7) (s : State) : Out :=
  whenPowered s (match transferOf s p with
    | some t => if t.container.length = headerLen + hBody t.container then finishTransfer s p t else s
    | none => s)

/-- IMAGE_BODY_TIMEOUT (R439): 600 s have passed since the header. -/
def execImageBodyTimeout (p : BitVec 7) (s : State) : Out :=
  whenPowered s (match transferOf s p with
    | some t => if t.container.length < headerLen + hBody t.container then refuseImage (dropTransfer s p) p t.container 9 .refused else s
    | none => s)

/-! ### The update (R448 to R458) -/

/-- The MORDANT of a list of measurements (R412): stage k folds byte k and its measurement. -/
def foldStages : Nat → Bytes → List Bytes → Bytes
  | _, m, [] => m
  | k, m, d :: ds => foldStages (k + 1) (Config.shake256 (m ++ [BitVec.ofNat 8 k] ++ fitBytes 64 d) 64) ds

/-- The MORDANT after the given stages. -/
def mordantOf (ms : List Bytes) : Bytes := foldStages 1 (List.replicate 64 0) ms

/-- The six stored measurements. -/
def measurements (s : State) : List Bytes := (List.range 6).map (fun k => s.sec.meas.getD k (List.replicate 64 0))

/-- The other configuration slot holds a READY base. -/
def otherCfg (g : Img) : ISlot := cfgSlot g (!cfgCurrent1 g)

/-- The measurements with the digests of the new images in place of their stages (R454). -/
def newMeasurements (s : State) (sr formats : Bool) : List Bytes :=
  let ms := measurements s
  if sr then ms.set 1 (hDigest ((newSr s.img).image 1))
  else
    let x := newFw s.img .A
    let ms := ((ms.set 2 (hDigest (x.image 2))).set 3 (hDigest (x.image 3))).set 4 (hDigest (x.image 4))
    if formats then ms.set 5 (hDigest ((otherCfg s.img).image 5)) else ms

/-- The sealed area's current blobs, written again under another MORDANT (R454). -/
def reseal (s : State) (m : Bytes) : State :=
  let one (acc : State × List Bytes) (blob : Bytes) : State × List Bytes :=
    let h := blob.take 32
    let n := fieldLE blob 12 4
    let k := (slotArg (BitVec.ofNat 32 (fieldLE blob 8 4)))
    let p : BitVec 7 := BitVec.ofNat 7 (fieldLE blob 4 4)
    match Config.gcmOpen (sealKey acc.1.sec.mordant p (slotValue acc.1 k)) ((blob.drop 32).take 12) h ((blob.drop 44).take n) (blob.drop (44 + n)) with
    | none => acc
    | some d =>
      let (nonce, t) := generate acc.1 12
      let (c, tag) := Config.gcmSeal (sealKey m p (slotValue t k)) nonce h d
      (t, acc.2 ++ [h ++ nonce ++ c ++ tag])
  let (s, l) := (if s.img.half1 then s.img.sealed1 else s.img.sealed0).foldl one (s, [])
  let g := s.img
  s.setImg (if g.half1 then { g with sealed0 := l } else { g with sealed1 := l })

/-- The region that runs the old firmware and goes next: the STANDBY. -/
def standbyEr (s : State) : Er := otherEr s.pair.active

/-- A region is taken out to load its new set (R457 step 2). -/
def loadNewSet (s : State) (er : Er) : State :=
  let s := match s.img.update with
    | some u => s.setImg { s.img with update := some { u with trialOf := some er, onTrial := false } }
    | none => s
  leave s er 0xFFFF 11 5

/-- What an accepted update start does (R448, R453, R454, R457, R458). -/
def beginUpdate (s : State) (p : BitVec 7) (sr formats : Bool) (version : W32) : State :=
  let ms := newMeasurements s sr formats
  let m := mordantOf ms
  let s := reseal (modSec s (fun x =>
    { x with announce := some m, storeCopy := if sr then some (storeKeyOf (mordantOf (ms.take 2))) else x.storeCopy })) m
  let s := s.setImg { s.img with update := some { sr := sr, formats := formats, version := version, cfmt := if formats then imgCfmt ((otherCfg s.img).image 5) else 0 } }
  let s := syncDev (recordT s (erNum s.pair.active) 0x7201 (if sr then 1 else 3) version.toNat)
  let s := answer s p
  if sr then modSec s (fun x => { x with running := false }) else loadNewSet s (standbyEr s)

/-- UPDATE_START (R448, R453, R454). -/
def execUpdateStart (p : BitVec 7) (kind : W32) (s : State) : Out :=
  let sr := kind == 1
  let g := s.img
  let ready (x : ISlot) : Bool := x.state == .ready
  let new := (newFw g .A).image 3
  let formats := !sr && imgCfmt new != s.dev.cfmt
  let version := if sr then imgVersion ((newSr g).image 1) else imgVersion new
  serveSr s p (Req.updateStart kind) (owner0 p) (checked s p
    [(decide (kind.toNat < 2), .outOfRange), (g.update.isNone, .conflict), (sr || s.duplex, .conflict),
      (if sr then ready (newSr g) else ready (newFw g .A) && ready (newFw g .B), .refused),
      (!formats || (ready (otherCfg g) && imgCfmt ((otherCfg g).image 5) == imgCfmt new), .refused)]
    (beginUpdate s p sr formats version))

/-- UPDATE_CONTINUE (R457 step 5): the other region passes through steps 2 and 3. -/
def execUpdateContinue (p : BitVec 7) (s : State) : Out :=
  serve s p Req.updateContinue (owner0 p) (match s.img.update with
    | some u =>
      match u.trialOf with
      | some er =>
        if u.sr || u.onTrial || (newFw s.img er).state != .passed || (newFw s.img (otherEr er)).state != .ready || !s.duplex then turnAway s p .conflict
        else loadNewSet (answer s p) (otherEr er)
      | none => turnAway s p .conflict
    | none => turnAway s p .conflict)

/-- UPDATE_CANCEL (R451, cause 5). -/
def execUpdateCancel (p : BitVec 7) (s : State) : Out :=
  serve s p Req.updateCancel (owner0 p) (if s.img.update.isNone then turnAway s p .conflict else endUpdate (answer s p) 5 0xFF)

/-- SR_RESTART_COMPLETE (R458): SR serves again, and new SR firmware begins its trial. -/
def execSrRestartComplete (s : State) : Out :=
  whenPowered s (
    if s.sec.running then s
    else
      let s := modSec s (fun x => { x with running := true })
      match s.img.update with
      | some u => if u.sr && !u.onTrial then startTrial s else s
      | none => s)

/-- Codes of R442 in the order of its table. -/
def ISlotState.code : ISlotState → Nat
  | .empty => 0
  | .ready => 1
  | .trial => 2
  | .passed => 3
  | .current => 4
  | .previous => 5

/-- SLOT_STATUS (R442, R479). -/
def execSlotStatus (p : BitVec 7) (s : State) : Out :=
  let e (ty region slot : Nat) : List (Nat × Nat) :=
    let t := ty + region * 256 + slot * 65536
    let x := imgSlot s.img ty t
    [(4, t), (4, x.state.code), (4, (imgVersion (x.image ty)).toNat), (4, (imgCfmt (x.image ty)).toNat)]
  serve s p Req.slotStatus (owner0 p) (answer s p (layout
    (e 3 0 0 ++ e 3 0 1 ++ e 3 1 0 ++ e 3 1 1 ++ e 1 0 0 ++ e 1 0 1 ++ e 5 0 0 ++ e 5 0 1)))

/-! ### Confirmation (R440, R449 to R451, R457 step 6) -/

/-- PASSED becomes CURRENT, and the old CURRENT becomes PREVIOUS. -/
def swapSlots (new other : ISlot) : ISlot × ISlot :=
  if new.state == .passed then ({ new with state := .current }, { other with state := .previous }) else (new, other)

/-- A floor takes the larger of its value and the `MINC` of the image that becomes CURRENT (R440). -/
def raiseFloor (g : Img) (ty : Nat) (c : Bytes) : Img :=
  { g with floors := put 0 g.floors ty (larger (look 0 g.floors ty) (BitVec.ofNat 64 (hMinc c))) }

/-- The slots of a region become CURRENT and PREVIOUS, and the floors of its set rise. -/
def completeRegion (g : Img) (er : Er) : Img :=
  let one := !fwCurrent1 g er
  let new := fwSlot g er one
  let (a, b) := swapSlots new (fwSlot g er (!one))
  let g := setFwSlot (setFwSlot g er one a) er (!one) b
  [2, 3, 4].foldl (fun g ty => raiseFloor g ty (new.image ty)) g

/-- The update is complete (R453, R457 step 6). -/
def completeUpdate (s : State) (u : Update) : State :=
  let g := s.img
  let g :=
    if u.sr then
      let one := !srCurrent1 g
      let new := srSlot g one
      let (a, b) := swapSlots new (srSlot g (!one))
      raiseFloor (setSrSlot (setSrSlot g one a) (!one) b) 1 (new.image 1)
    else
      let g := completeRegion (completeRegion g .A) .B
      if u.formats then
        let one := !cfgCurrent1 g
        let new := cfgSlot g one
        raiseFloor (setCfgSlot (setCfgSlot g one { new with state := .current }) (!one) { cfgSlot g (!one) with state := .previous }) 5 (new.image 5)
      else g
  let s := s.setImg { g with update := none, complete := some (u.sr, u.version) }
  let s := setVersions s (if u.sr then s.dev.fwver else u.version) (if u.sr then u.version else s.dev.srver)
    (if u.formats then imgCfmt ((cfgSlot s.img (cfgCurrent1 s.img)).image 5) else s.dev.cfmt)
  syncDev (raise (recordT s (if u.sr then 5 else erNum s.pair.active) 0x7205 (if u.sr then 1 else 3) u.version.toNat) 668)

/-- TRIAL_CONFIRM (R450): refused before `TMIN`, and once `TWIN` has passed, when the trial has ended. -/
def execTrialConfirm (s : State) : Out :=
  whenPowered s (match s.img.update with
    | none => s
    | some u =>
      let secs := s.dev.opTime.toNat - u.trialStart.toNat
      if !u.onTrial || decide (secs < hdr (trialImage s u) 0xBC 4) || decide (imgTwin (trialImage s u) ≤ secs) then s
      else
        let er := u.trialOf.getD s.pair.active
        let g := if u.sr then setNewSr s.img { newSr s.img with state := .passed } else setNewFw s.img er { newFw s.img er with state := .passed }
        let u := { u with onTrial := false }
        let s := s.setImg { g with update := some u }
        let s := raise (recordT s 5 0x7203 (if u.sr then 5 else erNum er) secs) 666
        if u.sr || (newFw s.img (otherEr er)).state == .passed then completeUpdate s u else s)

/-- TRIAL_WINDOW_EXPIRY (R450, R451): `TWIN` seconds of operating time have passed. -/
def execTrialWindowExpiry (s : State) : Out :=
  whenPowered s (match s.img.update with
    | none => s
    | some u =>
      if u.onTrial && decide (imgTwin (trialImage s u) ≤ s.dev.opTime.toNat - u.trialStart.toNat) then endUpdate s 1 0xFF else s)

/-- TRIAL_CRITERION_WINDOW (R449 bit [3]): at the end of each 1 s of the trial. -/
def execTrialCriterionWindow (s : State) : Out :=
  whenPowered s (match s.img.update with
    | none => s
    | some u =>
      if !u.onTrial then s
      else
        let now := fixedTicks s
        let stuck := now.any (fun e => u.lastFixed.contains e)
        let s := s.setImg { s.img with update := some { u with lastFixed := now } }
        if stuck then critFails s 3 else s)

/-! ### Retain data (R445, R446) -/

/-- The bytes of a retain set (R445): 20 of each point, 16 of header and the content of each range, 8 of each loop. What the bytes of a
header are is the model's choice (log entry 108). -/
def Snapshot.bytes (x : Snapshot) : Bytes :=
  x.points.flatMap (fun e => leBytes 8 e.2.1.toNat ++ leBytes 8 e.2.2.1.toNat ++ leBytes 4 e.2.2.2.toNat)
    ++ x.ranges.flatMap (fun e => leBytes 4 e.1 ++ leBytes 4 e.2.1.iid.toNat ++ leBytes 4 e.2.1.off ++ leBytes 4 e.2.1.len ++ e.2.2)
    ++ x.loops.flatMap (fun e => leBytes 4 e.2.1.toNat ++ leBytes 4 (e.1 * 2 + e.2.2.toNat))

/-- A snapshot with its digest. -/
def Snapshot.signed (x : Snapshot) : Snapshot := { x with digest := Config.shake256 x.bytes 64 }

/-- The retain set of the ACTIVE region as it stands. -/
def snapshotOf (s : State) : Snapshot :=
  let r := s.image
  let area (p : Nat) (x : Retain) : Option (Nat × Retain × Bytes) :=
    ((programOf r p).bind (fun g => g.insts.find? (fun i => i.iid == x.iid && i.kind == 1))).map (fun b =>
      (p, x, Mem.readBytes (look [] r.vars b.slot.toNat) (b.voff + x.off) x.len))
  Snapshot.signed { valid := true
                    tick := r.tick
                    points := (countPoints r).map (fun i => (i, pointWord r i, look 0 r.image (i + 1), look 0 r.stamps i))
                    builds := r.programs.filterMap (fun e => e.2.map (fun g => (e.1, g.build)))
                    ranges := r.programs.flatMap (fun e => match e.2 with | some g => g.retain.filterMap (area e.1) | none => [])
                    loops := (validLoops r).map (fun n => (n, upper32 ((loopOf r n).word 26), bit ((loopOf r n).word 28) 61))
                    takenAt := s.dev.rtc }
where
  /-- Bits [63:32]. -/
  upper32 (w : W64) : W32 := BitVec.ofNat 32 (w.toNat / 2 ^ 32)

/-- Snapshot half 1 is the newest valid one. -/
def newest1 (g : Img) : Bool := g.retain1.valid && (!g.retain0.valid || decide (g.retain0.tick.toNat < g.retain1.tick.toNat))

/-- An input that is in range leaves it and no region in service is fed any more, so that PFW_N falls (R362). -/
def lastSupply (s : State) (b : Bool) : Bool :=
  let er : Er := if b then .B else .A
  (if b then s.dev.vinB && !s.dev.vinA else s.dev.vinA && !s.dev.vinB)
    || ((if b then s.dev.vinB else s.dev.vinA) && s.serving er && !s.serving (otherEr er))

/-- PFW_N falls next, by the warning or as the last input in use leaves its range (R362): the snapshot in progress may not be finished in
time (log entry 109). -/
def warningNext (s : State) : Bool :=
  match s.pending with
  | .powerWarning :: _ => true
  | .vinOutOfRange b _ :: _ => lastSupply s b
  | _ => false

/-- A snapshot is written into the half that does not hold the newest valid one. -/
def putSnapshot (g : Img) (x : Snapshot) : Img := if newest1 g then { g with retain0 := x } else { g with retain1 := x }

/-- RETAIN_SNAPSHOT (R446): after the apply phase of a tick that 10,000 divides; none begins while PFW_N is low. Where PFW_N falls
next, a free value says whether the writer can finish: abandoned, its half stays invalid. -/
def execRetainSnapshot (s : State) : Out :=
  whenPowered s (
    if s.dev.dstate != .run || s.dev.pfwLow || s.image.tick.toNat % 10000 != 0 then s
    else if warningNext s then
      let x := snapshotOf s
      let (w, s) := s.takeFree
      s.setImg (putSnapshot s.img (if w.getLsbD 0 then {} else x))
    else s.setImg (putSnapshot s.img (snapshotOf s)))

end Sys2Proof.Machine
end

