-- ==== Sys2Proof/Machine/Interrupts.lean ====
section
/-! DEFINITION. The interrupt targets (R376 to R390): pending writes, deliveries, ends of interrupt, hold-off and routes. -/

namespace Sys2Proof.Machine

/-- Change one target. -/
def modTarget (s : State) (t : Target) (f : Evc → Evc) : State := s.setTarget t (f (s.target t))

/-- `ENABLE`. -/
def Evc.enable (e : Evc) : Bool := bit e.ctrl 31
/-- `PMODE`: THRESHOLD mode. -/
def Evc.threshold (e : Evc) : Bool := bit e.ctrl 30
/-- `THRESH`. -/
def Evc.thresh (e : Evc) : Nat := bits e.ctrl 19 16
/-- Mask word of a group; 0xFFFFFFFF after reset (R381). -/
def Evc.maskWord (e : Evc) (g : Nat) : W32 := look 0xFFFFFFFF e.mask g
/-- The level of a source. -/
def Evc.levelOf (e : Evc) (n : Nat) : Nat := let k := 4 * (n % 8); bits (look 0 e.level (n / 8)) (k + 3) k

/-- The priority mode lets a level through (R386, R387). -/
def Evc.passes (e : Evc) (level : Nat) : Bool :=
  if e.threshold then e.depth == 0 || (decide (e.depth < 16) && decide (level > e.thresh)) else e.idle || decide (level > e.rpri)

/-- Source n qualifies at a target (R385); one that routes to no target is never delivered (R376). -/
def qualifies (s : State) (t : Target) (n : Nat) : Bool :=
  let e := s.target t
  let g := n / 32
  bit (look 0 e.pend g) (n % 32) && bit (look 0 e.undel g) (n % 32) && !bit (e.maskWord g) (n % 32) && !bit e.holding g
    && routedAnywhere s.evc n && e.passes (e.levelOf n)

/-- The qualifying sources, in ascending number: those with an undelivered flag are looked at. -/
def qualifying (s : State) (t : Target) : List Nat :=
  (s.target t).undel.flatMap (fun x => ((List.range 32).map (fun k => 32 * x.1 + k)).filter (qualifies s t))

/-- Groups of sources in ascending order, each once. -/
def groupsOf (ns : List Nat) : List Nat := (List.range 32).filter (fun g => ns.any (fun n => n / 32 == g))

/-- Vector g of HOST is masked: bit 0 of its vector control word, set after a reset as PCI Express specifies (R390; PRESUMED, log
entry 85). -/
def vectorMasked (h : Hr) (g : Nat) : Bool := bit (look 1 h.msixTable (4 * g + 3)) 0

/-- The MSI-X messages of groups gs, in ascending order: a masked vector is marked in the pending bit array instead (R390). -/
def sendVectors (s : State) (gs : List Nat) : State :=
  let e := s.target .host
  let s := s.setTarget .host { e with msix := e.msix ++ gs.filter (fun g => !vectorMasked s.hr g) }
  s.setHr { s.hr with pba := (gs.filter (vectorMasked s.hr)).foldl (fun m g => setBit m g true) s.hr.pba }

/-- A write of the MSI-X table: a pending vector that is no longer masked is sent (R390). -/
def writeMsix (s : State) (k : Nat) (v : W32) : State :=
  let s := s.setHr { s.hr with msixTable := if k % 4 = 3 then put 1 s.hr.msixTable k v else put 0 s.hr.msixTable k v }
  let g := k / 4
  if bit s.hr.pba g && !vectorMasked s.hr g then sendVectors (s.setHr { s.hr with pba := setBit s.hr.pba g false }) [g] else s

/-- One delivery that covers sources ns (R385 to R390). -/
def deliverTo (s : State) (t : Target) (ns : List Nat) : State :=
  let e := s.target t
  let gs := groupsOf ns
  let undel := ns.foldl (fun m n => put 0 m (n / 32) (setBit (look 0 m (n / 32)) (n % 32) false)) e.undel
  let holding := gs.foldl (fun h g => if bits (look 0 e.hold g) 15 0 = 0 then h else setBit h g true) e.holding
  let top := ns.foldl (fun m n => max m (e.levelOf n)) 0
  let e := { e with undel := undel, holding := holding, depth := e.depth + 1 }
  let e := if e.threshold then e else { e with stack := (e.idle, e.rpri) :: e.stack, rpri := top, idle := false }
  match t with
  | .host => if s.hr.pcie then sendVectors (s.setTarget t e) gs else s.setTarget t { e with request := true }
  | _ => s.setTarget t { e with request := true }

/-- INTERRUPT_DELIVERY (R385): a sampling edge. -/
def execInterruptDelivery (t : Target) (s : State) : Out :=
  let ns := qualifying s t
  whenPowered s (if (s.target t).enable && !ns.isEmpty then deliverTo s t ns else s)

/-- An access to a target's registers reaches them: HR's host port is held in reset after a region-level error (R26). -/
def reaches (s : State) (t : Target) : Bool := t != .host || s.hr.running

/-- The priority stack pops (R386). -/
def Evc.pop (e : Evc) : Evc :=
  match e.stack with
  | (i, r) :: rest => { e with stack := rest, idle := i, rpri := r, depth := e.depth - 1 }
  | [] => { e with depth := e.depth - 1 }

/-- An end of interrupt (R386, R387, R390). -/
def endInterrupt (s : State) (t : Target) : State :=
  modTarget s t (fun e =>
    if e.depth = 0 then { e with eoiErr := true }
    else
      let e := if e.threshold then { e with depth := e.depth - 1 } else e.pop
      { e with request := (e.request && e.depth != 0) || !e.bells.isEmpty })

/-- A write of `EVC_PEND`[g] (R381). -/
def writePend (s : State) (t : Target) (g : Nat) (v : W32) : State :=
  modTarget s t (fun e => { e with pend := put 0 e.pend g v, undel := put 0 e.undel g v })

/-- A write of `EVC_CTRL` (R379): a change of `PMODE` abandons the deliveries that have not ended. -/
def writeEvcCtrl (s : State) (t : Target) (v : W32) : State :=
  modTarget s t (fun e =>
    let e' := { e with ctrl := v &&& 0xC00F0000 }
    if bit v 30 = e.threshold then e' else { e' with stack := [], depth := 0, idle := true, rpri := 0, request := !e.bells.isEmpty })

/-- A write into a target's register block (R378 to R381): read-only and reserved words ignore it. DESIGN CHOICE (log entry 84): the
spec leaves open whether the bits of reserved sources are reserved bits; they are stored like the others, and a written pending bit
is delivered like the others. -/
def writeEvc (s : State) (t : Target) (off : Nat) (v : W32) : State :=
  let g := off % 128 / 4
  if off = 0 then writeEvcCtrl s t v
  else if off = 4 then (if bit v 23 then modTarget s t (fun e => { e with eoiErr := false }) else s)
  else if off = 8 then endInterrupt s t
  else if 0x80 ≤ off ∧ off < 0x100 then writePend s t g v
  else if 0x100 ≤ off ∧ off < 0x180 then modTarget s t (fun e => { e with mask := put 0xFFFFFFFF e.mask g v })
  else if 0x200 ≤ off ∧ off < 0x280 then modTarget s t (fun e => { e with hold := put 0 e.hold g (v &&& 0xFFFF) })
  else if 0x400 ≤ off ∧ off < 0x600 then modTarget s t (fun e => { e with level := put 0 e.level ((off - 0x400) / 4) v })
  else s

/-- A write of a source's route by the management firmware of the ACTIVE region: the cores that receive it (R376). DESIGN CHOICE (log
entry 5): the spec gives the route tables no registers, so the write names the source. -/
def writeRoute (s : State) (n : Nat) (v : W64) : State :=
  if n < 1024 ∧ ¬ (32 ≤ n ∧ n ≤ 287) then s.setEvc { s.evc with toCores := put 0xF s.evc.toCores n (v.setWidth 4) } else s

/-- END_OF_INTERRUPT (R386, R387, R390). -/
def execEndOfInterrupt (t : Target) (s : State) : Out := whenPowered s (if reaches s t then endInterrupt s t else s)

/-- EVC_PEND_WRITE (R381, R382): sources that hardware sets at the same MGMT edge have an event, and the set wins. A write that does
not reach the target leaves the event alone. -/
def execEvcPendWrite (t : Target) (g : BitVec 5) (v hwSet : W32) (s : State) : Out :=
  let n := g.toNat
  let s' := if reaches s t then writePend s t n v else s
  whenPowered s ((List.range 32).foldl (fun s k => if bit hwSet k then raise s (32 * n + k) else s) s')

/-- EVC_CTRL_PMODE_WRITE (R379): a change of `PMODE` abandons the deliveries that have not ended. -/
def execEvcCtrlPmodeWrite (t : Target) (v : W32) (s : State) : Out :=
  whenPowered s (if reaches s t then writeEvcCtrl s t v else s)

/-- HOLD_OFF_EXPIRY (R388). -/
def execHoldOffExpiry (t : Target) (g : BitVec 5) (s : State) : Out :=
  whenPowered s (modTarget s t (fun e => { e with holding := setBit e.holding g.toNat false }))

/-- ROUTE (R376): sources 32 to 287 always route to HOST, and 672 and above are never raised. -/
def execRoute (p : BitVec 7) (source toHost : W32) (s : State) : Out :=
  let n := source.toNat
  serve s p (Req.route source toHost) (owner0 p) (checked s p
    [(decide (n < 1024), .outOfRange), (decide (toHost.toNat < 2), .reservedSet), (decide (n < 672) && !decide (32 ≤ n ∧ n ≤ 287), .refused)]
    (acceptConfig s (s.setEvc { s.evc with toHost := put false s.evc.toHost n (toHost == 1) }) p (Req.route source toHost)))

end Sys2Proof.Machine
end

