-- ==== Sys2Proof/Machine/Recorder.lean ====
section
/-! DEFINITION. The recorder unit (R391 to R402): writing and merging records, the freeze with its holding queue, the window of
`REC_WIN` and the recorder commands. -/

namespace Sys2Proof.Machine

/-- Slots of the ring (R391). -/
def ringSlots : Nat := 524288

/-- Word k of a record as it lies in the ring (R392); an unwritten slot is zero. -/
def recordWord (r : Record) (k : Nat) : W32 :=
  let w0 := r.code.toNat * 2 ^ 16 + r.sev.toNat * 2 ^ 12 + r.src.toNat * 2 ^ 8
  let w3 := r.pcycle.toNat * 2 ^ 8
  let sum : List Nat := [w0, r.opTime.toNat, w3, r.p1.toNat, r.p2.toNat, r.p3.toNat]
  let chk := sum.foldl (fun (c : Byte) w => (leBytes 4 w).foldl (fun c b => c ^^^ b) c) 0x5A
  if r.rseq = 0 then 0
  else
    match k with
    | 0 => BitVec.ofNat 32 w0
    | 1 => BitVec.ofNat 32 (r.repeats.toNat * 2 ^ 16 + r.rsec.toNat)
    | 2 => r.opTime
    | 3 => BitVec.ofNat 32 w3
    | 4 => r.p1
    | 5 => r.p2
    | 6 => r.p3
    | _ => BitVec.ofNat 32 (r.rseq.toNat * 2 ^ 8 + chk.toNat)

/-- The eight words of a record. -/
def recordWords (r : Record) : List W32 := (List.range 8).map (recordWord r)

/-- The record in a slot. -/
def Rec.slot (r : Rec) (n : Nat) : Record := look {} r.ring (n % ringSlots)

/-- Change the recorder. -/
def modRec (s : State) (f : Rec → Rec) : State := s.setRecd (f s.recd)

/-- `RSEQ` of the next record (R392). -/
def nextRseq (n : BitVec 24) : BitVec 24 := if n = 0xFFFFFF then 1 else n + 1

/-- The unit writes a new record into slot `HEAD` (R394, R400): a RECORDS_LOST raises its source when it is written, however long it
had waited. -/
def ringWrite (s : State) (e : Record) : State :=
  let r := s.recd
  let h := r.head.toNat
  let over_ := (r.slot h).rseq != 0
  let first := over_ && r.ovwrStart % 65536 == 0
  let n := nextRseq r.seqNo
  let r := { r with
    ring := put {} r.ring h { e with rseq := n }
    head := r.head + 1
    seqNo := n
    ovwr := if over_ then satInc r.ovwr else r.ovwr
    ovwrStart := if over_ then r.ovwrStart + 1 else r.ovwrStart }
  raiseIf (e.code == 0x2601) 613 (raiseIf (decide (e.sev.toNat ≥ r.sevt.toNat)) 608 (raiseIf first 609 (s.setRecd r)))

/-- The unit writes a record of its own (R402). -/
def writeOwn (s : State) (code p1 p2 : Nat) : State :=
  ringWrite s (mkRecord s 6 code (BitVec.ofNat 32 p1) (BitVec.ofNat 32 p2) s.tick32)

/-- RECORDS_LOST (R396, R399, R400). -/
def writeLost (s : State) (n cause : Nat) : State := if n = 0 then s else writeOwn s 0x2601 (min n (2 ^ 32 - 1)) cause

/-- The newest record, in the slot behind the head. -/
def Rec.newest (r : Rec) : Record := r.slot (r.head.toNat + (ringSlots - 1))

/-- An event merges into the newest valid record (R395). -/
def Rec.merges (r : Rec) (e : Record) : Bool := r.newest.rseq != 0 && mergeable r.rwin e.opTime r.newest e

/-- The unit takes event e: it merges into the newest valid record or starts a new one (R395). -/
def takeEvent (s : State) (e : Record) : State :=
  let r := s.recd
  if r.merges e then
    s.setRecd { r with ring := put {} r.ring ((r.head.toNat + (ringSlots - 1)) % ringSlots) (mergeOne e.opTime r.newest) }
  else ringWrite s e

/-- The unit takes the first event of its input queue, then reports what the full queue lost (R396). -/
def takeFirst (s : State) : State :=
  match s.recd.inq with
  | [] => s
  | e :: rest =>
    let s := takeEvent (modRec s (fun r => { r with inq := rest })) e
    let n := s.recd.lostIn
    writeLost (modRec s (fun r => { r with lostIn := 0 })) n 2

/-- Empty the input queue into the ring. -/
def flushQueue : Nat → State → State
  | 0, s => s
  | n + 1, s => if s.recd.inq.isEmpty then s else flushQueue n (takeFirst s)

/-- Power cuts the write of the first event short: the slot at the head stays invalid (R394), and a merge is never torn (R395). -/
def cutFirst (s : State) : State :=
  match s.recd.inq with
  | [] => s
  | e :: rest =>
    if s.recd.merges e then takeFirst s else modRec s (fun r => { r with inq := rest, ring := put {} r.ring r.head.toNat {} })

/-- The brown-out is the next command: a write that has begun may be cut short (log entry 109). -/
def brownOutNext (s : State) : Bool :=
  match s.pending with
  | .brownOut :: _ => true
  | _ => false

/-- RECORD_WRITE (R394): not while the ring is frozen, nor ahead of a drain (R399). Whether power cuts it short is a free value. -/
def execRecordWrite (s : State) : Out :=
  whenPowered s (
    if s.recd.frozen || s.recd.draining then s
    else if brownOutNext s then
      let (w, s) := s.takeFree
      if w.getLsbD 0 then cutFirst s else takeFirst s
    else takeFirst s)

/-- A freeze starts (R399 rule 1): cause 1 register, 2 command. -/
def startFreeze (s : State) (cause : Nat) : State :=
  if s.recd.frozen || s.recd.draining then modRec s (fun r => { r with freeze := false })
  else
    let s := writeOwn (flushQueue (s.recd.inq.length + 1) s) 0x2602 cause 0
    raise (modRec s (fun r => { r with freeze := true, frozen := true, freezeStart := s.time.dtime })) 610

/-- A freeze ends (R399 rule 3): 1 register, 2 command, 3 expiry, 4 power warning. -/
def endFreeze (s : State) (cause : Nat) : State :=
  if s.recd.frozen then raise (modRec s (fun r => { r with freeze := false, frozen := false, draining := true, drainCause := cause })) 611
  else s

/-- The holding queue's entries are written, each as a record of its own (R399 rule 4). -/
def finishDrain (s : State) : State :=
  if !s.recd.draining then s
  else
    let es := s.recd.holdq
    let n := s.recd.lostHold
    let s := es.foldl ringWrite (modRec s (fun r => { r with holdq := [], lostHold := 0 }))
    let s := writeOwn (writeLost s n 1) 0x2603 s.recd.drainCause es.length
    modRec s (fun r => { r with draining := false, drainCount := es.length })

/-- `RWIN` and `SEVT` of a write of `REC_CTRL` (R397). -/
def setRecCtrl (s : State) (v : W32) : State :=
  modRec s (fun r => { r with rwin := BitVec.ofNat 8 (bits v 15 8), sevt := BitVec.ofNat 3 (bits v 2 0) })

/-- A write of `REC_CTRL` with `FREEZE` 1 (R397, R399). -/
def freezeByRegister (s : State) (v : W32) : State := startFreeze (setRecCtrl s v) 1

/-- A write of `REC_CTRL` with `FREEZE` 0 (R397, R399). -/
def thawByRegister (s : State) (v : W32) : State := endFreeze (modRec (setRecCtrl s v) (fun r => { r with freeze := false })) 1

/-- A write into the recorder registers (R397): `REC_CTRL` and `REC_CURSOR` alone take writes. -/
def writeRec (s : State) (off : Nat) (v : W32) : State :=
  if off = 0 then (if bit v 31 then freezeByRegister s v else thawByRegister s v)
  else if off = 8 then modRec s (fun r => { r with cursor := v.setWidth 19 })
  else s

/-- REC_CTRL_FREEZE_SET (R399), while the host port is not held in reset (R26). -/
def execRecCtrlFreezeSet (v : W32) (s : State) : Out := whenPowered s (if s.hr.running then freezeByRegister s v else s)

/-- REC_CTRL_FREEZE_CLEAR (R399), while the host port is not held in reset (R26). -/
def execRecCtrlFreezeClear (v : W32) (s : State) : Out := whenPowered s (if s.hr.running then thawByRegister s v else s)

/-- The milliseconds before the freeze expires, 10 s after it began (R397, R399 rule 3). -/
def freezeLeft (s : State) : Nat := if s.recd.frozen then (s.recd.freezeStart.toNat + 10000000000 - s.time.dtime.toNat + 999999) / 1000000 else 0

/-- FREEZE_EXPIRY (R399 rule 3): 10 s after the freeze began. -/
def execFreezeExpiry (s : State) : Out := whenPowered s (if freezeLeft s = 0 then endFreeze s 3 else s)

/-- RECORDER_DRAIN_COMPLETE (R399 rule 4). -/
def execRecorderDrainComplete (s : State) : Out := whenPowered s (finishDrain s)

/-- A read of the window's first word takes the slot at the cursor (R398). -/
def windowFirst (s : State) : State := modRec s (fun r => { r with window := recordWords (r.slot r.cursor.toNat) })

/-- A read of the window's last word moves the cursor on (R398). -/
def windowLast (s : State) : State := modRec s (fun r => { r with cursor := r.cursor + 1 })

/-- REC_WIN_FIRST_READ (R398), while the host port is not held in reset (R26). -/
def execRecWinFirstRead (s : State) : Out := whenPowered s (if s.hr.running then windowFirst s else s)

/-- REC_WIN_LAST_READ (R398), while the host port is not held in reset (R26). -/
def execRecWinLastRead (s : State) : Out := whenPowered s (if s.hr.running then windowLast s else s)

/-- REC_READ (R398): `count` slots from a slot, oldest first as the ring runs. -/
def execRecRead (p : BitVec 7) (slot count : W32) (s : State) : Out :=
  let a := slot.toNat
  let n := count.toNat
  serve s p (Req.recRead slot count) (owner0 p) (checked s p [(decide (a < ringSlots) && decide (1 ≤ n ∧ n ≤ ringSlots), .outOfRange)]
    (answerObject s p (leBytes 4 ((a + n) % ringSlots) ++ leBytes 4 s.recd.head.toNat)
      ((List.range n).flatMap (fun k => words4 (recordWords (s.recd.slot (a + k)))))))

/-- REC_FREEZE (R399): a request without effect is answered all the same. -/
def execRecFreeze (p : BitVec 7) (s : State) : Out := serve s p Req.recFreeze (owner0 p) (answer (startFreeze s 2) p)

/-- REC_THAW (R399). -/
def execRecThaw (p : BitVec 7) (s : State) : Out := serve s p Req.recThaw (owner0 p) (answer (endFreeze s 2) p)

end Sys2Proof.Machine
end

