-- ==== Sys2Proof/Machine/Host.lean ====
section
/-! DEFINITION. The host port: the PCI Express link, register writes, mailbox pages and their bulk data, and the commands over the
device status block (R462 to R482, R15 to R19). -/

namespace Sys2Proof.Machine

/-! ### Containers as they arrive (R438, R439, R475) -/

/-- Change a page. -/
def modPage (s : State) (p : BitVec 7) (f : Page → Page) : State := s.setPage p (f (s.page p))

/-- The object under way ends and what has been gathered is discarded. -/
def dropObject (s : State) (p : BitVec 7) : State :=
  let t := if ((s.page p).gatherCmd.map (fun g => takesContainer g.1)).getD false then dropTransfer s p else s
  modPage t p (fun x => { x with gathered := [], gatherCmd := none })

/-- Whether a page gathers a host-to-device object. -/
def Page.gathering (x : Page) : Bool := x.gatherCmd.isSome && x.object.isNone

/-- The bytes of the object that have arrived. -/
def arrived (s : State) (p : BitVec 7) : Bytes :=
  match transferOf s p with
  | some t => if ((s.page p).gatherCmd.map (fun g => takesContainer g.1)).getD false then t.container else (s.page p).gathered
  | none => (s.page p).gathered

/-- More bytes of a container: its header is checked as soon as it is whole; the answer says whether the request goes on. -/
def feedContainer (s : State) (p : BitVec 7) (cmd : Nat) (target : Nat) (len : Nat) (data : Bytes) : State × Bool :=
  let ty := if cmd = 0x0301 then 6 else target % 256
  match transferOf s p with
  | some t => (setTransfer s p (some { t with container := t.container ++ data }), true)
  | none =>
    let c := (s.page p).gathered ++ data
    if c.length < headerLen then (modPage s p (fun x => { x with gathered := c }), true)
    else
      let pre := (if ty = 6 then [] else targetOk438 (BitVec.ofNat 32 target)) ++ mayTransfer s p ty target ++ [(s.sec.running, .unavailable)]
      let t := checked s p pre
        (if len ≠ headerLen + hBody c ∧ headerFails s p ty c = none then turnAway s p .badLength
         else takeHeader (modPage s p (fun x => { x with gathered := [] })) p { itype := ty, target := target, container := c })
      if (transferOf t p).isSome then (t, true) else (modPage t p (fun x => { x with gathered := [], gatherCmd := none }), false)

/-! ### The doorbell (R470 to R476) -/

/-- The fixed fields and the data of a page's request. -/
def requestParts (x : Page) (fixed : Nat) : Bytes × Bytes :=
  let q := bits x.req 10 0
  (x.reqBuf.readBytes 0x40 (min fixed q), x.reqBuf.readBytes (0x40 + fixed) (q - fixed))

/-- A segment broke R475: the object ends. -/
def segmentError (s : State) (p : BitVec 7) : State := turnAway (dropObject s p) p .segmentError

/-- A host-to-device segment (R475): it is accepted, or ends the object. The last one leaves the page busy for its command. An object
beyond the page's 64 KiB buffer is BAD_LENGTH (DESIGN CHOICE, log entry 107). -/
def takeSegment (s : State) (p : BitVec 7) (fixed : Nat) : State :=
  let x := s.page p
  let (fields, data) := requestParts x fixed
  let off := x.boff.toNat
  let end_ := off + data.length
  let last := bit x.bctrl 28
  let have_ := if x.gathering then (arrived s p).length else 0
  let same := match x.gatherCmd with
    | some g => x.object.isSome || (g.1 == x.cmd && g.2.1 == x.blen.toNat && g.2.2 == fields)
    | none => true
  if x.timedOut then turnAway (modPage s p (fun x => { x with timedOut := false })) p .segmentTimeout
  else if !takesContainer x.cmd && decide (65536 < x.blen.toNat) then turnAway (dropObject s p) p .badLength
  else if !same || off != have_ || decide (x.blen.toNat < end_) || (last && end_ != x.blen.toNat) then segmentError s p
  else
    let s := modPage s p (fun x => { x with
      gatherCmd := some (x.cmd, x.blen.toNat, fields), object := none, bdone := BitVec.ofNat 32 end_, gathered := if off = 0 then [] else x.gathered })
    let (s, on) := if takesContainer x.cmd then feedContainer s p x.cmd (fieldLE fields 0 4) x.blen.toNat data
      else (modPage s p (fun x => { x with gathered := x.gathered ++ data }), true)
    if !on || last then s else complete s p .segmentOk []

/-- A device-to-host segment (R476): later ones read the copy; the first leaves the page busy for its command. -/
def giveSegment (s : State) (p : BitVec 7) : State :=
  let x := s.page p
  let off := x.boff.toNat
  if off = 0 then s
  else match x.object with
    | none => turnAway s p .segmentError
    | some o =>
      let part := (o.drop off).take (2048 - x.objFields.length)
      answer (modPage s p (fun x => { x with bdone := BitVec.ofNat 32 (off + part.length) })) p (x.objFields ++ part)

/-- A DMA request (R474): its range is checked before any byte moves; the page stays busy. -/
def startDma (s : State) (p : BitVec 7) : State :=
  let x := s.page p
  if !s.hr.pcie then turnAway s p .noDma
  else if x.toHost then s
  else if !takesContainer x.cmd && decide (65536 < x.blen.toNat) then turnAway s p .badLength
  else if dmaInWindow s p x.blen.toNat then modPage s p (fun x => { x with bdone := 0 }) else dmaFault s p

/-- The firmware takes a doorbell: a request that its command row acts on leaves the page busy. -/
def takeDoorbell (s : State) (p : BitVec 7) : State :=
  let x := s.page p
  let q := bits x.req 10 0
  let other := match x.gatherCmd with
    | some g => g.1 != x.cmd
    | none => true
  let s := if !other then s
    else if x.object.isSome then modPage s p (fun x => { x with object := none, objFields := [], gatherCmd := none })
    else if x.gathering && !(x.bulk && x.segm && !x.toHost) then dropObject s p
    else s
  match requestLen x.cmd with
  | none => turnAway s p .unknownCommand
  | some (fixed, tail) =>
    let toDevice := x.bulk && !x.toHost
    let needs := tail && !x.bulk && takesContainer x.cmd
    if decide (1984 < q) || decide (q < fixed) || (decide (fixed < q) && !tail) || (toDevice && !tail) || needs then turnAway s p .badLength
    else if x.bulk && ownerOnly x.cmd && p != 0 then turnAway s p .denied
    else if x.bulk then
      (if !x.segm then startDma s p else if x.toHost then giveSegment s p else takeSegment s p fixed)
    else s

/-- The firmware doorbell bit p of a region's controller is set, and MC-x0 gets its interrupt request (R471). -/
def notice (p : BitVec 7) (s : State) (er : Er) : State :=
  let ring (e : Evc) : Evc := { e with bells := e.bells ++ [p], request := true }
  match er with
  | .A => s.setEvc { s.evc with a0 := ring s.evc.a0 }
  | .B => s.setEvc { s.evc with b0 := ring s.evc.b0 }

/-- A write of `MBX_DOORBELL` (R470, R471, R478). -/
def ringPage (s : State) (p : BitVec 7) (seqNo : BitVec 16) : State :=
  let x := s.page p
  if x.busy then s.setPage p { x with dberr := true }
  else
    let s := s.setPage p { x with busy := true, rung := true, valid := false, seqNo := seqNo, moved := false }
    if !s.hr.running || mailboxDead s then turnAway s p .unavailable
    else takeDoorbell (eachServing (s.setHr { s.hr with doorbells := s.hr.doorbells ++ [p] }) (notice p)) p

/-- MBX_DOORBELL (R470). -/
def execMbxDoorbell (p : BitVec 7) (seqNo : BitVec 16) (s : State) : Out := whenPowered s (ringPage s p seqNo)

/-- A page's DMA is under way (R474). -/
def Page.inDma (x : Page) : Bool := x.busy && x.bulk && !x.segm && !x.moved

/-- A container is on its way into its slot (R438, R475): by segments, or by a DMA. -/
def Page.arriving (x : Page) : Bool :=
  (x.gathering && (x.gatherCmd.map (fun g => takesContainer g.1)).getD false) || (x.inDma && !x.toHost && takesContainer x.cmd)

/-- A power-fail warning stops the containers that are on their way (R459). -/
def stopArriving (s : State) : State :=
  s.hr.pages.foldl (fun s e =>
    let p : BitVec 7 := BitVec.ofNat 7 e.1
    let x := s.page p
    if x.arriving then
      let t := dropObject s p
      if x.busy then turnAway t p .powerWarning else t
    else s) s

/-- BULK_DMA_COMPLETE (R474), while the host port runs (R26): a read object waits for its command, or goes into its slot, once
all `BLEN` bytes have moved; a written one completes the request, and its copy stays for later segments (R476). -/
def execBulkDmaComplete (p : BitVec 7) (ok : Bool) (data : Bytes) (s : State) : Out :=
  let x := s.page p
  whenPowered s (
    if !x.inDma || !s.hr.running then s
    else if !ok then turnAway (modPage (dropObject s p) p (fun x => { x with object := none })) p .dmaFailed
    else if x.toHost then
      match x.object with
      | none => s
      | some o =>
        let s := s.setHr { s.hr with hostWrites := s.hr.hostWrites ++ [(x.baddr, o)] }
        answer (modPage s p (fun x => { x with gatherCmd := some (x.cmd, 0, []), bdone := BitVec.ofNat 32 o.length })) p x.objFields
    else if data.length ≠ x.blen.toNat then s
    else
      let s := modPage s p (fun x => { x with bdone := BitVec.ofNat 32 data.length, moved := true })
      if takesContainer x.cmd then
        let (fields, _) := requestParts x 4
        let s := modPage s p (fun x => { x with gathered := [], gatherCmd := some (x.cmd, x.blen.toNat, fields) })
        if data.length < headerLen then turnAway (dropObject s p) p .badLength
        else (feedContainer s p x.cmd (fieldLE fields 0 4) data.length data).1
      else modPage s p (fun x => { x with gathered := data }))

/-- SEGMENT_TIMEOUT (R475, R482). -/
def execSegmentTimeout (p : BitVec 7) (s : State) : Out :=
  let x := s.page p
  whenPowered s (
    if x.busy || !x.gathering then s
    else
      let s := recordN s (erNum s.pair.active) 0x8104 p.toNat ((x.gatherCmd.map Prod.fst).getD 0) x.bdone.toNat
      modPage (dropObject s p) p (fun x => { x with timedOut := true }))

/-- OBJECT_COPY_EXPIRY (R476). -/
def execObjectCopyExpiry (p : BitVec 7) (s : State) : Out :=
  whenPowered s (if (s.page p).busy || (s.page p).object.isNone then s
    else modPage s p (fun x => { x with object := none, objFields := [], gatherCmd := none }))

/-- HR_RESTART_COMPLETE (R381, R478): every open request shows UNAVAILABLE, and HOST's counters are zero. -/
def execHrRestartComplete (s : State) : Out :=
  whenPowered s (
    if s.hr.running then s
    else
      let s := s.setHr { s.hr with running := true, doorbells := [] }
      let s := modTarget s .host (fun e => { e with gcnt := [], cnt := [] })
      let open_ := (s.hr.pages.filter (fun e => e.2.busy)).map Prod.fst
      let s := open_.foldl (fun s p => turnAway s (BitVec.ofNat 7 p) .unavailable) s
      recordT s 6 0x8105 open_.length 0)

/-! ### Register writes (R17 to R19, R463, R465, R468) -/

/-- A write into a mailbox page (R468, R470): closed words set `WRERR` while the page is busy. -/
def writePage (s : State) (p : BitVec 7) (off : Nat) (v : W32) : State :=
  let x := s.page p
  let closed := decide (0x18 ≤ off ∧ off < 0x30) || decide (0x40 ≤ off ∧ off < 0x800)
  if closed && x.busy then s.setPage p { x with wrerr := true }
  else if off = 0 then s.setPage p { x with dberr := x.dberr && !bit v 29, wrerr := x.wrerr && !bit v 28 }
  else if off = 0x14 then ringQueue s p v
  else if off = 0x18 then s.setPage p { x with req := v &&& 0xFFFF07FF }
  else if off = 0x1C then s.setPage p { x with bctrl := v &&& 0xF0000000 }
  else if off = 0x20 then s.setPage p { x with boff := v }
  else if off = 0x24 then s.setPage p { x with blen := v }
  else if off = 0x28 then s.setPage p { x with baddr := setBits x.baddr 31 0 v.toNat }
  else if off = 0x2C then s.setPage p { x with baddr := setBits x.baddr 63 32 v.toNat }
  else if off = 0x30 then ringPage s p (v.setWidth 16)
  else if decide (0x40 ≤ off ∧ off < 0x800) then s.setPage p { x with reqBuf := x.reqBuf.writeBytes off (leBytes 4 v.toNat) }
  else s

/-- The address of a `MBX_DOORBELL` in BAR0 (R465, R468). -/
def isDoorbell (off : Nat) : Bool := decide (0x10000 ≤ off ∧ off < 0x90000) && off % 0x1000 == 0x30

/-- A write into BAR0 (R465): the status block and reserved addresses ignore it; while HR's port is held in reset no word takes one,
and a doorbell is refused (R26). -/
def writeBar0 (s : State) (off : Nat) (v : W32) : State :=
  if off % 4 ≠ 0 ∨ (!s.hr.running && !isDoorbell off) then s
  else if 0x2000 ≤ off ∧ off < 0x4000 then writeEvc s .host (off - 0x2000) v
  else if 0x4000 ≤ off ∧ off < 0x5000 then writeRec s (off - 0x4000) v
  else if 0x5000 ≤ off ∧ off < 0x5200 then writeMsix s ((off - 0x5000) / 4) v
  else if 0x10000 ≤ off ∧ off < 0x90000 then writePage s (BitVec.ofNat 7 ((off - 0x10000) / 0x1000)) (off % 0x1000) v
  else s

/-- Consecutive words are written in ascending address order, each as one register access (R19, R463, R464). -/
def writeWords (s : State) (off : Nat) (ws : List W32) : State := ws.zipIdx.foldl (fun s e => writeBar0 s (off + 4 * e.2) e.1) s

/-- The whole words of a byte string; a partial one at its end is discarded (R464). -/
def wholeWords : Bytes → List W32
  | a :: b :: c :: d :: rest => BitVec.ofNat 32 (fieldLE [a, b, c, d] 0 4) :: wholeWords rest
  | _ => []

/-- A frame of the serial interface (R464): opcode 0x38 writes from the address's offset on; BAR2 holds no word that is written, and a
frame with another opcode writes nothing. -/
def writeFrame (s : State) (bs : Bytes) : State :=
  match bs with
  | op :: a2 :: a1 :: a0 :: data =>
    let a := a2.toNat * 65536 + a1.toNat * 256 + a0.toNat
    if op = 0x38 ∧ a / 2 ^ 22 = 0 then writeWords s (a % 2 ^ 22) (wholeWords data) else s
  | _ => s

/-- REGISTER_WRITE (R17): a serial write is discarded while a PCI Express host is present (R462), and a PCI Express write with a
partial word is (R463). -/
def execRegisterWrite (sp : RegSpace) (off : Nat) (v : W64) (s : State) : Out :=
  whenPowered s (match sp with
    | .bar0 => writeBar0 s off (v.setWidth 32)
    | .serial => if s.hr.pcie then s else writeBar0 s off (v.setWidth 32)
    | .words l => if l.all (fun e => e.1 == 0xF) then writeWords s off (l.map Prod.snd) else s
    | .frame bs => if s.hr.pcie then s else writeFrame s bs
    | .evcCore t => if off % 4 = 0 ∧ reaches s t then writeEvc s t off (v.setWidth 32) else s
    | .routeTable fromActive => if fromActive then writeRoute s off v else s
    | .timeUnit fromActive => if fromActive then writeTimeUnit s off v else s)

/-- The value of a wide register (R15). -/
def wideValue (s : State) : WideReg → Nat
  | .dtime => s.time.dtime.toNat
  | .tick => s.nowTick
  | .ftick p => s.fixedTick p.toNat
  | .portOctets p n => look 0 (s.port p).counters n
  | .queueOctets q n => look 0 (s.nq q).counters n

/-- The hold of a requester. -/
def holdNo : Requester → Nat
  | .hostPort => 0
  | .core .a0 => 1
  | .core .a1 => 2
  | .core .b0 => 3
  | .core .b1 => 4
  | .core .host => 0

/-- A requester reads the lower word of a wide register: the upper word goes into its hold (R15). -/
def holdUpper (s : State) (who : Requester) (reg : WideReg) : State :=
  s.setHr { s.hr with holds := put 0 s.hr.holds (holdNo who) (BitVec.ofNat 32 (wideValue s reg / 2 ^ 32)) }

/-- COUNTER_LOWER_WORD_READ (R15): the host port reads nothing while it is held in reset (R26). -/
def execCounterLowerWordRead (who : Requester) (reg : WideReg) (s : State) : Out :=
  whenPowered s (if holdNo who != 0 || s.hr.running then holdUpper s who reg else s)

/-! ### The link (R462, R482) -/

/-- HOST_LINK_UP (R462): the link enters L0; while HR is in reset the host port is held there (R26). -/
def execHostLinkUp (rate width : Nat) (s : State) : Out :=
  whenPowered s (if s.hr.linkUp || !s.hr.running then s else recordT (s.setHr { s.hr with pcie := true, linkUp := true }) 6 0x8101 rate width)

/-- HOST_LINK_DOWN (R482, cause 2): the host stays present until the next cold start. -/
def execHostLinkDown (s : State) : Out :=
  whenPowered s (if s.hr.linkUp then recordT (s.setHr { s.hr with linkUp := false }) 6 0x8102 2 0 else s)

/-! ### Commands (R357, R467) -/

/-- `HOSTIF` (R462, R467). DEDUCED (log entry 86): it is 0 at entry into START, as its Reset column says, and names the host port once
step 1 of R363 begins. -/
def hostIf (s : State) : Nat := if s.hr.pcie then 2 else if s.dev.dstate = .start ∧ s.dev.startStep = 0 then 0 else 1

/-- The device status block, words 0x000 to 0x04C (R467). -/
def statusBlock (s : State) : Bytes :=
  let d := s.dev
  fitBytes 32 deviceId ++ leBytes 4 (devState s).toNat ++ leBytes 4 d.fwver.toNat ++ leBytes 4 d.srver.toNat ++ leBytes 4 d.cfmt.toNat
    ++ leBytes 8 s.time.dtime.toNat ++ leBytes 8 s.nowTick ++ leBytes 4 d.changes.toNat ++ leBytes 4 d.opTime.toNat ++ leBytes 4 d.pcycle.toNat
    ++ leBytes 4 (hostIf s)

/-- DEVICE_INFO (R467, R479). -/
def execDeviceInfo (p : BitVec 7) (s : State) : Out := serve s p Req.deviceInfo true (answer s p (statusBlock s))

/-- LOST_AT_RESET (R357, R479). -/
def execLostAtReset (p : BitVec 7) (qid : W32) (s : State) : Out :=
  serve s p (Req.lostAtReset qid) (owner0 p) (checked s p [(decide (qid.toNat < 65536), .outOfRange)] (answer s p (leBytes 4 (s.queue qid.toNat).lostAtReset.toNat)))

end Sys2Proof.Machine
end

