-- ==== Sys2Proof/Machine/Startup.lean ====
section
/-! DEFINITION. The chip reset and the cold start: the steps of R363, the choice of image slots (R443), the configuration that step 6
applies (R452), the retain data of step 8 (R447) and the entry into RUN (R354, R363, R364, R443, R447, R452, R456). -/

namespace Sys2Proof.Machine

/-! ### Chip reset (R354, R356, R367) -/

/-- Entries held by every fabric queue, the staging queues among them. -/
def entriesHeld (s : State) : Nat := s.fab.queues.foldl (fun n q => n + q.2.occ) 0

/-- What AR and the board keep (R354, R361): its counters, clock, supplies and PLL monitors. -/
def keptDev (d : Dev) : Dev :=
  { haltTimes := d.haltTimes, opTime := d.opTime, pcycle := d.pcycle, rtc := d.rtc, aonPhase := d.aonPhase, vinA := d.vinA, vinB := d.vinB,
    mvA := d.mvA, mvB := d.mvB, vbat := d.vbat, shipCell := d.shipCell, pfwLow := d.pfwLow, brownOut := d.brownOut, pll := d.pll,
    pll0Retired := d.pll0Retired, pll1Retired := d.pll1Retired, refLost := d.refLost, refExpired := d.refExpired,
    fwver := d.fwver, srver := d.srver, cfmt := d.cfmt }

/-- What SR keeps in MRAM and AR: the slot store, the authority table, the journal, the BBK, the tamper state. -/
def keptSec (x : Sr) : Sr :=
  { slots := x.slots, root := x.root, owner := x.owner, parts := x.parts, bbk := x.bbk, t1 := x.t1, t1Times := x.t1Times, t2 := x.t2,
    tamperLog := x.tamperLog, policy := x.policy, loopEn := x.loopEn, journal := x.journal, storeCopy := x.storeCopy,
    drbgIdx := x.drbgIdx, defects := x.defects }

/-- The levels at the LIO lands after a chip reset, which the synchronisers go on sampling (R82): a pin that the module alone drove is
low by its pull-down (R70, R485), and so it is without supplies, until LIO_LEVEL_CHANGE reports another level (log entry 93). -/
def keptPins (m : SMap Pin) : SMap Pin :=
  m.foldl (fun n e => let l := e.2.land && !(e.2.isOut && !e.2.held); put {} n e.1 { land := l, sync := l }) []

/-- The eight image slots' states, in the order of `Img`. -/
def slotStates (g : Img) : List ISlotState :=
  [g.fwA0.state, g.fwA1.state, g.fwB0.state, g.fwB1.state, g.sr0.state, g.sr1.state, g.cfg0.state, g.cfg1.state]

/-- What MRAM holds at the cutoff of R365. -/
def storedOf (g : Img) : Stored :=
  { states := slotStates g, floors := g.floors, update := g.update, complete := g.complete, sealed0 := g.sealed0, sealed1 := g.sealed1 }

/-- After a loss of power past the cutoff of R365, MRAM holds what it held there. -/
def Img.restored (g : Img) : Img :=
  match g.stored with
  | none => g
  | some x =>
    let st (k : Nat) (i : ISlot) : ISlot := { i with state := x.states.getD k i.state }
    { g with
      fwA0 := st 0 g.fwA0, fwA1 := st 1 g.fwA1, fwB0 := st 2 g.fwB0, fwB1 := st 3 g.fwB1, sr0 := st 4 g.sr0, sr1 := st 5 g.sr1
      cfg0 := st 6 g.cfg0, cfg1 := st 7 g.cfg1, floors := x.floors, update := x.update, complete := x.complete
      sealed0 := x.sealed0, sealed1 := x.sealed1, stored := none }

/-- The chip-except-AR reset (R354): everything but AR, MRAM and the queue of commands. -/
def chipReset (s : State) : State :=
  let s := s.img.transfers.foldl (fun s e => dropTransfer s (BitVec.ofNat 7 e.1)) s
  let r := s.recd
  { State.reset with
    pending := s.pending
    free := s.free
    time := { edges := s.time.edges }
    dev := keptDev s.dev
    health := { blocks := s.health.mram, mram := s.health.mram, unfit := s.health.unfit }
    ir := { pins := keptPins s.ir.pins }
    recd := { ring := r.ring, head := r.head, seqNo := r.seqNo, ovwr := r.ovwr }
    sec := keptSec s.sec
    img := { s.img.restored with transfers := [], reload := [], commits := [] } }

/-! ### Slots (R443) -/

/-- The check that a stored image fails, if any (R438, R439); the image of manufacture passes (log entry 31). -/
def bootCheck (s : State) (ty : Nat) (c : Bytes) (p : BitVec 7 := 0) : Option Nat :=
  if c = [] then none
  else
    match headerFails (s.setDev { s.dev with fwver := 0xFFFFFFFF, srver := 0xFFFFFFFF }) p ty c with
    | some n => some n
    | none => if c.length = headerLen + hBody c && Config.shake256 (c.drop headerLen) 64 == hDigest c then none else some 9

/-- The first image of a slot that fails, with its check. -/
def slotFails (s : State) (tys : List Nat) (x : ISlot) : Option (Nat × Nat) :=
  tys.foldl (fun a ty => match a with | some e => some e | none => (bootCheck s ty (x.image ty)).map (fun n => (ty, n))) none

/-- Run a kind from its CURRENT slot, or from its PREVIOUS one, which becomes CURRENT; the answer says whether one passes. -/
def bootKind (s : State) (tys : List Nat) (get_ : Img → Bool → ISlot) (set_ : Img → Bool → ISlot → Img) : State × Bool :=
  let one := (get_ s.img true).state == .current
  match slotFails s tys (get_ s.img one) with
  | none => (s, true)
  | some e =>
    let s := raise (recordN s 5 0x7206 e.1 one.toNat e.2) 669
    let o := get_ s.img (!one)
    if o.state == .previous && slotFails s tys o == none then
      (s.setImg { set_ (set_ s.img one (emptySlot (get_ s.img one))) (!one) { o with state := .current } with complete := none }, true)
    else (haltDevice s, false)

/-- An update that a cold start interrupts ends with cause 4 (R443, R451). -/
def endAtStart (s : State) : State :=
  let g := s.img
  let back := { g with
    fwA0 := g.fwA0.back, fwA1 := g.fwA1.back, fwB0 := g.fwB0.back, fwB1 := g.fwB1.back, sr0 := g.sr0.back, sr1 := g.sr1.back, update := none }
  match g.update with
  | none => s.setImg back
  | some u =>
    let s := modSec (s.setImg back) (fun x => { x with storeCopy := none })
    raise (recordN s 5 0x7204 (if u.sr then 5 else erNum (u.trialOf.getD .A)) 4 0xFF) 667

/-- The digest that a stage measures (R412); that of the image of manufacture is the part's (log entry 31). -/
def measured (c : Bytes) (ty : Nat) : Bytes := if c = [] then Config.factoryDigest ty else hDigest c

/-- Add a stage's measurement, and fold it into the MORDANT (R412). -/
def measure (s : State) (d : Bytes) : State :=
  modSec s (fun x => let l := x.meas ++ [d]; { x with meas := l, mordant := mordantOf l })

/-! ### Step 6: the configuration (R452) -/

/-- A 4-byte request field. -/
def rq4 (b : Bytes) (o : Nat) : W32 := BitVec.ofNat 32 (fieldLE b o 4)
/-- An 8-byte request field. -/
def rq8 (b : Bytes) (o : Nat) : W64 := BitVec.ofNat 64 (fieldLE b o 8)
/-- n words from an offset. -/
def rqWords (b : Bytes) (o n : Nat) : List W64 := (List.range n).map (fun k => rq8 b (o + 8 * k))
/-- n pairs of words from an offset. -/
def rqPairs (b : Bytes) (o n : Nat) : List (W64 × W64) := (List.range n).map (fun k => (rq8 b (o + 16 * k), rq8 b (o + 16 * k + 8)))

/-- What a configuration command of points, partitions, loops and local I/O does. -/
def replayControl (p : BitVec 7) (code : Nat) (b : Bytes) (s : State) : Option Out :=
  if code = 0x0108 then some (execRoute p (rq4 b 0) (rq4 b 4) s)
  else if code = 0x0201 then some (execGrantWrite p (rq4 b 0) (rq8 b 8) s)
  else if code = 0x0203 then some (execPartitionSet p (rq4 b 0) (rq4 b 4) s)
  else if code = 0x0204 then some (execDmaWindow p (rq4 b 0) (rq8 b 8) (rq8 b 16) s)
  else if code = 0x0205 then some (execLoopAssign p (rq4 b 0) (rq4 b 4) (rq4 b 8) s)
  else if code = 0x0206 then some (execPointOwner p (rq4 b 0) (rq4 b 4) s)
  else if code = 0x0403 then some (execAttrWrite p (rq4 b 0) (rq4 b 4) (rq8 b 8) s)
  else if code = 0x0405 then some (execLimitWrite p (rq4 b 0) (rq8 b 8) s)
  else if code = 0x0409 then some (execInterlockWrite p (rq4 b 0) (rqWords b 8 12) s)
  else if code = 0x040C then some (execLioConfig p (rq4 b 0) (rq8 b 8) s)
  else if code = 0x0601 then some (execLoopWrite p (rq4 b 0) (rqWords b 8 24) s)
  else if code = 0x0603 then some (execLoopRun p (rq4 b 0) (rq4 b 4) s)
  else if code = 0x0606 then some (execLoopRemove p (rq4 b 0) s)
  else none

/-- What a configuration command of channels does. -/
def replayField (p : BitVec 7) (code : Nat) (b : Bytes) (s : State) : Option Out :=
  let n := (rq4 b 8).toNat
  if code = 0x0501 then some (execChannelWrite p (rq4 b 0) (rqWords b 8 8) s)
  else if code = 0x0502 then some (execFilterWrite p (rq4 b 0) (rq4 b 4) (rqPairs b 16 n) s)
  else if code = 0x0503 then some (execRxbufConfig p (rq4 b 0) (rq4 b 4) (rq4 b 8) s)
  else if code = 0x0504 then some (execMappingWrite p (rq4 b 0) (rq4 b 4) (rqPairs b 16 n) s)
  else if code = 0x0505 then some (execTxbufWrite p (rq4 b 0) (rq4 b 4) (rq8 b 8) (rq8 b 16) (rq8 b 24) (b.drop 32) s)
  else if code = 0x0506 then some (execEmergencyWrite p (rq4 b 0) (rq4 b 4) (rq8 b 8) (rq8 b 16) (rq8 b 24) (b.drop 32) s)
  else if code = 0x0507 then some (execStationWrite p (rq4 b 0) (rq4 b 4) (rq8 b 8) s)
  else none

/-- What a configuration command of the network does. -/
def replayNet (p : BitVec 7) (code : Nat) (b : Bytes) (s : State) : Option Out :=
  let n := (rq4 b 4).toNat
  if code = 0x050D then some (execVellekWrite p b s)
  else if code = 0x050E then some (execVstationWrite p (rq4 b 0) (b.drop 8) s)
  else if code = 0x050F then some (execVblockWrite p (rq4 b 0) (rqWords b 8 n) s)
  else if code = 0x0701 then some (execPortWrite p (rq4 b 0) (rqWords b 8 4) s)
  else if code = 0x0702 then some (execPairWrite p (rqWords b 0 4) (rqWords b 32 4) s)
  else if code = 0x0703 then some (execNfilterWrite p (rq4 b 0) (rqPairs b 8 n) s)
  else if code = 0x0704 then some (execQueueWrite p (rq4 b 0) (rqWords b 8 8) s)
  else if code = 0x070B then some (execTimeWrite p (rq8 b 0) (rq8 b 8) s)
  else if code = 0x070D then some (execPtpWrite p (rq4 b 0) (b.drop 8) s)
  else if code = 0x070E then some (execLatencyWrite p (rq4 b 0) (rq4 b 4) (rq4 b 8) (rq4 b 12) s)
  else if code = 0x070F then
    some (execMacsecConfig p (rq4 b 0) (rq4 b 4) (rq4 b 8) (rq4 b 12) (rq4 b 16) (rq4 b 20) (b.drop 24) s)
  else none

/-- The group that a command has presented is applied to both regions at once. -/
def applyNow (s : State) : State :=
  let q := sourceQueue (.mgmt s.pair.active)
  let gs := (s.queue q).held
  let one (s : State) (er : Er) : State :=
    let (r, es) := gs.foldl (fun a g => applyGroup 0 a { g with page := none }) (s.region er, [])
    es.foldl (runEff er 0 (er == .A)) (s.setRegion er r)
  (one (one s .A) .B).setQueue q {}

/-- A trip that latches as a record of step 6 writes its equation or its pin is recorded and raised all the same (R78): u is the state
that keeps the recorder of s, and t the one in which the record acted. -/
def replayTrips (s t u : State) : State :=
  ((t.recd.inq.drop s.recd.inq.length).filter (fun e => e.code == 0x1201)).foldl (fun u e =>
    raise (record u e.src.toNat e.code.toNat e.p1 e.p2 e.p3) 8) u

/-- Apply one record of the configuration or of its log: its effect, without its answer and its records. -/
def replay (s : State) (e : BitVec 7 × Nat × Bytes) : State :=
  let o := match replayControl e.1 e.2.1 e.2.2 s with
    | some o => some o
    | none => match replayField e.1 e.2.1 e.2.2 s with
      | some o => some o
      | none => replayNet e.1 e.2.1 e.2.2 s
  match o with
  | some (.next t) =>
    let t := applyNow t
    replayTrips s t { t with
      recd := s.recd
      img := s.img
      hr := { s.hr with windows := t.hr.windows }
      evc := { s.evc with toHost := t.evc.toHost } }
  | _ => s

/-- Step 6: the base is measured, then its records and those of the log are applied in order; the image of manufacture holds no
record (log entry 31). -/
def stepConfig (s : State) : State :=
  let (s, ok) := bootKind s [5] cfgSlot setCfgSlot
  if !ok then s
  else
    let g := s.img
    let one := cfgCurrent1 g
    let c := (cfgSlot g one).image 5
    let s := measure s (measured c 5)
    let s := setVersions s s.dev.fwver s.dev.srver (imgCfmt c)
    ((if c = [] then [] else Config.configRecords (c.drop headerLen)) ++ (if one then g.cfgLog1 else g.cfgLog0)).foldl replay s

/-! ### Steps 2 to 5, 8 and 9 -/

/-- Step 2: the tests of the algorithms find what is defective (R408; log entry 32), the tamper latch is read, the boot ROM is
measured; a T1 condition makes SR wait. -/
def stepBootRom (s : State) : State :=
  let s := measure (modSec s (fun x => { x with meas := [], kat := 0 })) (Config.shake256 Config.bootRom 64)
  let s := if s.sec.defects = 0 then s else katFailures s s.sec.defects.toNat 1
  let s := s.sec.tamperLog.foldl (fun s c => raise (recordN s 5 0x6103 c.cls c.sensor c.aonTime.toNat) 618) s
  let s := reseed (modSec s (fun x => { x with tamperLog := [] }))
  s.setDev { s.dev with waitT1 := s.sec.t1 }

/-- Step 3: SR firmware, the device secret, a pending key journal; without a BBK key SR runs as after T2 (R432). A failed test of Key Wrap
or KMAC256 leaves the secret or every key that comes from it unformed, so that secret-using functions are off; one of GCM leaves the
slot store and the journal encrypted (R406, R408). -/
def stepSr (s : State) : State :=
  let (s, ok) := bootKind s [1] srSlot setSrSlot
  if !ok then s
  else
    let c := (srSlot s.img (srCurrent1 s.img)).image 1
    let key := if c = [] then Config.rootKey else hdrBytes c 0xD0 64
    let s := measure s (measured c 1)
    let keys := !algOff s 3 && !algOff s 5
    let s := modSec s (fun x =>
      let m2 := mordantOf x.meas
      let formed := x.bbk && keys
      { x with
          root := { x.root with key := key }, secret := x.bbk && !algOff s 3, m2 := m2, secOff := x.secOff || !keys
          shut := !keys || algOff s 2
          storeKey := if formed then storeKeyOf m2 else [], journalKey := if formed then journalKeyOf m2 else [] })
    let s := setVersions s s.dev.fwver (imgVersion c) s.dev.cfmt
    let s := if s.sec.bbk then syncDev (modSec s (fun x => { x with secretsOn := !x.secOff })) else secretsOff (modSec s emptySlots) 3
    if s.sec.secretsOn && !s.sec.shut then completeJournal s else s

/-- A region is marked UNFIT, with its sources: the device leaves DUPLEX (R364, R374). -/
def markUnfit (s : State) (er : Er) : State :=
  let t := raise (s.setRegState er .unfit) 1
  if s.mode = t.mode then t else raise t 14

/-- A region can serve after a start: it has its blocks, and has not become UNFIT under R207, which holds until the module is
replaced (R501; log entry 119). -/
def fit (s : State) (er : Er) : Bool := enoughBlocks s (erNum er) && !s.health.unfit.contains er

/-- The region whose firmware is measured (R413): ER-A, or ER-B when ER-A is UNFIT. -/
def foldedEr (s : State) : Er := if fit s .A then .A else .B

/-- A region's CURRENT firmware slot. -/
def fwSet (s : State) (er : Er) : ISlot := fwSlot s.img er (fwCurrent1 s.img er)

/-- Step 4: both regions' sets; a region whose policy firmware differs from the folded one is UNFIT (R413). A region that is short of
blocks, which its entry self-test finds in step 5, is UNFIT for the fold already (DEDUCED, log entry 101). -/
def stepFirmware (s : State) : State :=
  let boot (s : State) (er : Er) : State × Bool := bootKind s [2, 3, 4] (fun g one => fwSlot g er one) (fun g one x => setFwSlot g er one x)
  let (s, okA) := boot s .A
  if !okA then s
  else
    let (s, okB) := boot s .B
    if !okB then s
    else
      let er := foldedEr s
      let x := fwSet s er
      let y := fwSet s (otherEr er)
      let s := measure (measure s (measured (x.image 2) 2)) (measured (x.image 3) 3)
      let s := setVersions s (imgVersion (x.image 3)) s.dev.srver s.dev.cfmt
      if x.image 3 = y.image 3 ∨ measured (x.image 3) 3 = measured (y.image 3) 3 then s else markUnfit s (otherEr er)

/-- Step 5: microcode, and the entry self-test of every block; a region short of blocks is UNFIT (R364). With both UNFIT the chip level
records the error and halts (R26, R27, R369). -/
def stepSelfTest (s : State) : State :=
  let s := measure s (measured ((fwSet s (foldedEr s)).image 4) 4)
  let test (s : State) (er : Er) : State :=
    let r := erNum er
    let s := arrange (arrange (entryTests s r) r 1 32) r 2 8
    if fit s er || s.regState er == .unfit then s else markUnfit s er
  let s := test (test s .A) .B
  match s.pair.stateA, s.pair.stateB with
  | .unfit, .unfit => haltDevice (recordOpen s (erNum s.pair.active))
  | .unfit, _ => let s := raise (s.setRegState .B .active) 1; s.setPair { s.pair with active := .B }
  | _, _ => s

/-- A program of the directory is loaded into a region (R444): its variables hold their VINIT content. -/
def loadProgram (r : Region) (p : Nat) (g : Program) : Region :=
  { r with
    programs := put none r.programs p (some g)
    vars := g.vinit.foldl (fun m v => put [] m v.1.toNat (Mem.writeBytes [] 0 v.2)) r.vars }

/-- A snapshot's digest checks (R446, R447). -/
def Snapshot.checks (x : Snapshot) : Bool := x.valid && x.digest == Config.shake256 x.bytes 64

/-- The newest valid snapshot whose digest checks (R447). -/
def newestSnapshot (g : Img) : Option Snapshot :=
  (if newest1 g then [g.retain1, g.retain0] else [g.retain0, g.retain1]).find? Snapshot.checks

/-- A retained range fits its block in a region's loaded image of the snapshot's `BUILD` (R447). -/
def rangeFits (x : Snapshot) (r : Region) (e : Nat × Retain × Bytes) : Bool :=
  match programOf r e.1 with
  | some g =>
    x.builds.contains (e.1, g.build)
      && ((g.insts.find? (fun i => i.iid == e.2.1.iid && i.kind == 1)).map (fun b => decide (e.2.1.off + e.2.1.len ≤ b.len))).getD false
  | none => false

/-- Restore a region's part of the retain set (R447). -/
def restore (x : Snapshot) (r : Region) : Region :=
  let point (r : Region) (e : Nat × W64 × W64 × W32) : Region :=
    let (i, w0, w1, st) := e
    if typeOf r i = tyCount && ownerOf r i == bits w0 22 16 then
      { r with image := put 0 (put 0 r.image i w0) (i + 1) w1, stamps := put 0 r.stamps i st }
    else r
  let range (r : Region) (e : Nat × Retain × Bytes) : Region :=
    match programOf r e.1 with
    | some g =>
      match g.insts.find? (fun i => i.iid == e.2.1.iid && i.kind == 1) with
      | some b =>
        if rangeFits x r e then
          { r with vars := put [] r.vars b.slot.toNat (Mem.writeBytes (look [] r.vars b.slot.toNat) (b.voff + e.2.1.off) e.2.2) }
        else r
      | none => r
    | none => r
  let loop (r : Region) (e : Nat × W32 × Bool) : Region :=
    let l := loopOf r e.1
    if l.valid then
      setLoop r e.1 ((l.setWord 26 (setBits (l.word 26) 63 32 e.2.1.toNat)).setWord 28 (setBit (l.word 28) 61 e.2.2))
    else r
  x.loops.foldl loop (x.ranges.foldl range (x.points.foldl point r))

/-- AR time in seconds at the reset or power loss that led to this start. -/
def resetSeconds (s : State) : Nat :=
  match s.dev.brownOut with
  | some t => t.toNat
  | none => s.dev.rtc.toNat / 10 ^ 9

/-- The check of R438 or R439 that a partition's stored program fails at a start, if any (R363). -/
def programFails (s : State) (p : Nat) (g : Program) : Option Nat := bootCheck s 6 g.container (BitVec.ofNat 7 p)

/-- Step 8: each program of the directory is verified and loaded into both regions; one that fails is refused as at its transfer, and its
partition starts without a program (log entry 125). Then the retain data under R447. -/
def stepPrograms (s : State) : State :=
  let good (e : Nat × Option Program) : Option (Nat × Program) :=
    match e.2 with
    | some g => if programFails s e.1 g = none then some (e.1, g) else none
    | none => none
  let load (r : Region) : Region := (s.img.directory.filterMap good).foldl (fun r e => loadProgram r e.1 e.2) r
  let s := s.img.directory.foldl (fun t e =>
    match e.2 with
    | some g => match programFails s e.1 g with
      | some n => raise (recordN t (erNum s.pair.active) 0x7102 6 n e.1) 664
      | none => t
    | none => t) s
  let s := (s.setRegion .A (load s.erA)).setRegion .B (load s.erB)
  let src := erNum s.pair.active
  match newestSnapshot s.img with
  | none => recordT s src 0x7105 0xFF (if s.img.retain0.valid || s.img.retain1.valid then 3 else 2)
  | some x =>
    let s := (s.setRegion .A (restore x s.erA)).setRegion .B (restore x s.erB)
    let parts := ((x.ranges.map (fun e => e.1))).dedup
    let good (p : Nat) : Bool := (x.ranges.filter (fun e => e.1 == p)).all (rangeFits x s.image)
    let secs := resetSeconds s - x.takenAt.toNat / 10 ^ 9
    let s := recordN s src 0x7104 (x.tick.toNat % 2 ^ 32) (min secs (2 ^ 32 - 1)) (parts.filter good).length
    (parts.filter (fun p => !good p)).foldl (fun s p => recordT s src 0x7105 p 1) s

/-- The old copies are discarded once RUN is reached on the images of a completed update (R456). -/
def discardOld (s : State) : State :=
  match s.img.complete with
  | none => s
  | some (sr, v) =>
    let g := s.img
    let g := { g with complete := none, half1 := !g.half1 }
    let g := if g.half1 then { g with sealed0 := [] } else { g with sealed1 := [] }
    let g := if g.cfg0.state == .previous then { g with cfgLog0 := [] } else if g.cfg1.state == .previous then { g with cfgLog1 := [] } else g
    recordT (modSec (s.setImg g) (fun x => { x with storeCopy := none })) 5 0x7207 (if sr then 1 else 3) v.toNat

/-- A region whose input is out of range while the other's is in range raises its self-flag (R362). -/
def flagSupply (s : State) (er : Er) : State :=
  if !vinOf s er && vinOf s (otherEr er) && s.serving er && s.serving (otherEr er) then selfFlag s er 8 0xFFFF false else s

/-- Step 9: DTIME, the first tick token, RUN (R86, R313, R363). -/
def stepRun (s : State) : State :=
  let s := if s.time.stepped then s else stepTime s (stepSource s).2 (stepSource s).1
  let t : W64 := BitVec.ofNat 64 ((s.time.dtime.toNat + 9999) / 10000)
  let s := s.setFab { s.fab with nextTick := t }
  let s := s.setIr { s.ir with firstTick := t }
  let s := s.setDev { s.dev with dstate := .run, brownOut := none }
  let s := discardOld (syncDev (insertToken s))
  flagSupply (flagSupply s .A) .B

/-- The actions of steps 1 to 9. -/
def startStep (k : Nat) (s : State) : State :=
  match k with
  | 2 => stepBootRom s
  | 3 => stepSr (endAtStart s)
  | 4 => stepFirmware s
  | 5 => stepSelfTest s
  | 6 => stepConfig s
  | 8 => stepPrograms s
  | 9 => stepRun s
  | _ => s

/-- Go through at most n more steps: none begins while PFW_N is low, while SR waits for T1 to end, or out of START. -/
def runStart : Nat → State → State
  | 0, s => s
  | n + 1, s =>
    if s.dev.dstate ≠ .start || s.dev.pfwLow || s.dev.waitT1 then s
    else runStart n (startStep (s.dev.startStep + 1) (s.setDev { s.dev with startStep := s.dev.startStep + 1 }))

/-- The cold start goes on from the step that it has reached (R363). -/
def continueStart (s : State) : State := runStart 9 s

/-- What a start after a brown-out reports (R358, R367): BROWN_OUT, and one COUNTS_UNKNOWN whose parameters the spec leaves
open. -/
def reportBrownOut (s : State) : State :=
  match s.dev.brownOut with
  | none => s
  | some t =>
    let s := record s 7 0x5403 t 0 0
    let (a, s) := s.takeFree
    let (b, s) := s.takeFree
    let (c, s) := s.takeFree
    raise (record s 7 0x5203 (a.setWidth 32) (b.setWidth 32) (c.setWidth 32)) 640

/-- A cold start (R354, R363): row of R354, and whether it comes from OFF or DORMANT. The RESET record's second parameter
names a region or a block, so the spec leaves it open for the chip. -/
def coldStart (s : State) (row : Nat) (fromOff : Bool) : State :=
  let held := entriesHeld s
  let s := chipReset s
  let d := s.dev
  let d := if fromOff then { d with pcycle := satInc d.pcycle, pll := false, pll0Retired := false, pll1Retired := false } else d
  let s := s.setDev { d with dstate := .start, stateWord := devState (s.setDev { d with dstate := .start }) }
  let (p2, s) := s.takeFree
  let s := recordN s 7 0x5301 row (p2.toNat % 2 ^ 32) (min held (2 ^ 32 - 1))
  continueStart (if fromOff then reportBrownOut s else s)

end Sys2Proof.Machine
end

