-- ==== Sys2Proof/Machine/Power.lean ====
section
/-! DEFINITION. PLLs and the reference, dead crossings, domain resets and the re-arm handshake, supplies, power-fail warning,
brown-out, HALT's restart, VBAT and the waits of START (R339 to R371, R430, R495). -/

namespace Sys2Proof.Machine

/-! ### PLLs and the reference (R340 to R344) -/

/-- PLL_CHANGEOVER (R340, R341): the standby takes over; without one the failure is recorded and the chip level handles it (R26,
R27; log entry 73). -/
def execPllChangeover (lossOfLock : Bool) (s : State) : Out :=
  let d := s.dev
  let standbyGone := if d.pll then d.pll0Retired else d.pll1Retired
  whenPowered s (
    if standbyGone then haltDevice (recordT s 7 0x5101 s.dev.pll.toNat (if lossOfLock then 2 else 1))
    else
      let d := if d.pll then { d with pll1Retired := true, pll := false } else { d with pll0Retired := true, pll := true }
      raise (recordT (s.setDev d) 7 0x5101 s.dev.pll.toNat (if lossOfLock then 2 else 1)) 632)

/-- REFERENCE_LOST (R342). -/
def execReferenceLost (s : State) : Out :=
  whenPowered s (if s.dev.refLost then s else raise (recordT (s.setDev { s.dev with refLost := true }) 7 0x5102 0 0) 633)

/-- REFERENCE_RETURN (R342). -/
def execReferenceReturn (s : State) : Out := whenPowered s (s.setDev { s.dev with refLost := false, refExpired := false })

/-- REFERENCE_HOLDOVER_EXPIRED (R342). -/
def execReferenceHoldoverExpired (s : State) : Out :=
  whenPowered s (if !s.dev.refLost || s.dev.refExpired then s
    else raise (recordT (s.setDev { s.dev with refExpired := true }) 7 0x5103 0 0) 633)

/-- MACR_CLOCK_RETURN (R344). -/
def execMacrClockReturn (p : Port) (s : State) : Out := whenPowered s (macrOnMact s p false)

/-! ### Dead crossings (R352, R353, R358) -/

/-- Source and destination region of a queue ID (R32). -/
def qidSrc (q : Nat) : Nat := q / 8192 % 8
/-- Destination region. -/
def qidDst (q : Nat) : Nat := q / 1024 % 8

/-- Counts of a queue are reported as unknown (R358); a crossing that is no queue has none. -/
def countsUnknown (s : State) (qid domain : Nat) : State :=
  if qid = 0xFFFF then s else raise (recordN s 7 0x5203 qid domain (s.queue qid).lastSeen.toNat) 640

/-- What a DEAD crossing is for the region whose clock stopped (R353): an execution region's self-flag, a shared region's row of
R26, a chip-level error of the fabric switch, whose clock is FAB. A crossing that is no queue names no region where its domain is not
one region's own (CORE, MGMT): then the chip level, at which every region is contained, handles it (log entry 103). -/
def deadRegion (s : State) (qid domain : Nat) : State :=
  if domain = 1 then haltDevice s
  else if domain = 3 then sharedFails s 5 0
  else if domain = 4 then (if qid = 0xFFFF then (List.range 32).foldl (fun s c => sharedFails s 2 c) s else sharedFails s 2 qid)
  else if domain = 5 then sharedFails (sharedFails s 3 0) 3 1
  else if domain = 6 then sharedFails s 3 0
  else if domain = 7 then sharedFails s 3 1
  else if domain = 8 then sharedFails s 7 0
  else if qid = 0xFFFF then haltDevice s
  else if isInputQueue qid then (match erOf (qidSrc qid) with
    | some er => selfFlag s er 2 0xFFFF false
    | none => sharedFails s (qidSrc qid) qid)
  else match erOf (qidDst qid), erOf (qidSrc qid) with
    | some er, _ => selfFlag s er 2 0xFFFF false
    | none, some er => selfFlag s er 2 0xFFFF false
    | none, none => sharedFails s (qidSrc qid) qid

/-- CROSSING_DEAD (R352, R353, R358). -/
def execCrossingDead (qid : BitVec 16) (domain : Nat) (powerLost : Bool) (s : State) : Out :=
  let q := qid.toNat
  whenPowered s (
    if s.dev.deadCrossings.contains (qid, domain) then s
    else
      let s := s.setDev { s.dev with deadCrossings := s.dev.deadCrossings ++ [(qid, domain)] }
      let s := if qid = 0xFFFF then s else s.setQueue q { s.queue q with dead := true }
      let s := raise (recordT s 7 0x5201 q domain) 638
      let s := if powerLost then countsUnknown s q domain else s
      deadRegion (critFails s 6) q domain)

/-! ### Resets of a domain (R354 to R357) -/

/-- The domain that a region's destination side counts in, for COUNTS_UNKNOWN (log entry 33). -/
def domainOf (region : Nat) : Nat :=
  if region = 2 then 4 else if region = 3 then 5 else if region = 4 then 0 else if region = 5 then 3 else if region = 6 then 2
  else if region = 7 then 8 else 1

/-- The destination side of a queue is reset (R356): its entries are discarded, and the source waits for READY. -/
def resetDestination (s : State) (qid : Nat) : State :=
  let q := s.queue qid
  countLost (s.setQueue qid { q.clear with armed := false }) qid q.occ

/-- The source side of a queue is reset (R356): it holds no credit until the re-arm. The entries of a group that it had written in
part are no group, so the sequencer keeps none of them (R33 rule 2; log entry 105). -/
def resetSource (s : State) (qid : Nat) : State :=
  let q := s.queue qid
  s.setQueue qid { q with avail := 0, flight := 0, occ := q.occ - (if isInputQueue qid then q.part else 0), waiting := [], part := 0, armed := false }

/-- A reset of region r's domains restarts the clock whose stop left crossing d DEAD (R353): the domain is that region's alone, or it
stopped at a queue of that region. -/
def clockReset (r : Nat) (d : BitVec 16 × Nat) : Bool :=
  let q := d.1.toNat
  if q = 0xFFFF ∨ 2 < d.2 then domainRegion d.2 == r else qidSrc q == r || qidDst q == r

/-- Region r's reset: the DEAD crossings whose clock stopped there may be armed again (R353). -/
def resetDead (s : State) (r : Nat) (hit : Nat → Bool) : State :=
  let new := s.dev.deadCrossings.filter (fun d => clockReset r d && hit d.1.toNat && !s.dev.deadReset.contains d)
  s.setDev { s.dev with deadReset := s.dev.deadReset ++ new }

/-- A queue with both ends inside the scope starts again with it, and is DEAD no longer (R353, R356). -/
def resetBoth (s : State) (qid : Nat) : State :=
  let gone (l : List (BitVec 16 × Nat)) : List (BitVec 16 × Nat) := l.filter (fun d => d.1.toNat != qid)
  let s := s.setDev { s.dev with deadCrossings := gone s.dev.deadCrossings, deadReset := gone s.dev.deadReset }
  s.setQueue qid { (s.queue qid).clear with waiting := [], dead := false }

/-- A reset at every queue that meets `src` or `dst`: queues with both ends inside are reinitialised, and their entries counted. -/
def resetQueues (s : State) (src dst : Nat → Bool) : State × Nat :=
  s.fab.queues.foldl (fun acc e =>
    let (s, n) := acc
    let a := src e.1
    let b := dst e.1
    if a && b then (resetBoth s e.1, n + (s.queue e.1).occ)
    else if b then (resetDestination s e.1, n)
    else if a then (resetSource s e.1, n)
    else (s, n)) (s, 0)

/-- The queues of a region: the sequencer's input queues end in the fabric switch (log entry 3). -/
def resetRegionQueues (s : State) (r : Nat) : State × Nat :=
  resetQueues (resetDead s r (fun _ => true)) (fun q => qidSrc q == r) (fun q => qidDst q == r && !isInputQueue q)

/-- The RESET record (R371). -/
def recordReset (s : State) (row what held : Nat) : State := recordN s 7 0x5301 row what (min held (2 ^ 32 - 1))

/-- Open requests whose DMA ends (R474, R478). -/
def endDma (s : State) : State :=
  s.hr.pages.foldl (fun s e =>
    let p : BitVec 7 := BitVec.ofNat 7 e.1
    if (s.page p).inDma && ((s.page p).object.isSome || !(s.page p).toHost) then
      turnAway (modPage (dropObject s p) p (fun x => { x with object := none })) p .dmaFailed
    else s) s

/-- The PCI Express endpoint is reset: any DMA fails, and the MSI-X table is masked again (R354, R478; log entry 85). -/
def resetEndpoint (s : State) : State := endDma (s.setHr { s.hr with linkUp := false, msixTable := [], pba := 0 })

/-- Row of R354 of a scope; the scope of a whole shared region has none. -/
def resetRow : Scope → Nat
  | .region _ => 5
  | .channel _ => 6
  | .port _ => 7
  | .pcie => 8
  | .hr => 9
  | .sr => 10
  | .shared _ => 0

/-- A channel's own state is reset (R354 row 6): the reset ends a stop that is under way, with its cause, and an isolation stays one; a
channel in service stops as for a record write and integrates again (R261). The mapping unit's locks open; the frames that the
buffers hold stay there, so that the counts of R234 hold, and are mapped anew, but for those that the supervisor locks (R259). -/
def resetChannel (s : State) (n : Nat) : State :=
  let s := match (s.chan n).state with
    | .stopped | .isolated => s
    | .stopping => channelStopped s n
    | _ => channelStopped (stopChannel s n 2) n
  let bs := (s.chan n).rx.map Prod.fst
  let s := bs.foldl (fun s b => modRx s n b (fun rx => { rx with mapLock := false })) s
  bs.foldl (fun s b => mapBuf 3 s n b) s

/-- The reset controller asserts a reset (R354, R355). An execution region in service is never in reset (R354 row 5);
one on trial is taken out first, for its reset ends the update (R451). -/
def assertReset (s : State) (scope : Scope) : State :=
  match scope with
  | .region er =>
    let s := if onTrialOf s (some er) then endUpdate s 3 0xFF else s
    if s.serving er then s
    else
      let (s, n) := resetRegionQueues (emptyRegion s er) (erNum er)
      let s := match er with
        | .A => (s.setTarget .a0 {}).setTarget .a1 {}
        | .B => (s.setTarget .b0 {}).setTarget .b1 {}
      recordReset s 5 (erNum er) n
  | .channel c =>
    let n := c.toNat
    let q := sourceQueue (.field n)
    let (s, k) := resetQueues (resetDead s 2 (fun x => x == q || x == 0xFFFF)) (fun x => x == q) (fun _ => false)
    recordReset (resetChannel s n) 6 (blockId 2 0x10 n) k
  | .port p =>
    let s := linkDown (resetDead s 3 (fun _ => true)) p 3
    let s := modPort s p (fun x => { x with sas := [], sak := [], ick := [], kek := [], pcs := 0, an := 0 })
    recordReset s 7 (blockId 3 0x11 (portNo p)) 0
  | .pcie => recordReset (resetEndpoint s) 8 6 0
  | .hr =>
    let (s, n) := resetRegionQueues s 6
    recordReset (s.setHr { s.hr with running := false, doorbells := [], holds := [], msixTable := [], pba := 0, linkUp := false }) 9 6 n
  | .sr =>
    let s := if onTrialOf s none then endUpdate s 3 0xFF else s
    let (s, n) := resetRegionQueues s 5
    recordReset (endSecrets (dropRunning (modSec s (fun x => { x with running := false, drbgOn := false })))) 10 5 n
  | .shared r => (resetRegionQueues s r).1

/-- RESET_ASSERT (R355): every outbound crossing has acknowledged. -/
def execResetAssert (scope : Scope) (s : State) : Out := whenPowered s (assertReset s scope)

/-- CROSSING_RESET_TIMEOUT (R355): the crossing counts as one whose destination side was reset, its counts unknown. The controller
asserts the reset once, whatever the number of crossings that are late at that instant (log entry 104). -/
def execCrossingResetTimeout (scope : Scope) (qid : BitVec 16) (s : State) : Out :=
  let q := qid.toNat
  let late (s : State) : State :=
    let s := raise (recordT s 7 0x5202 q (resetRow scope)) 639
    let s := if qid = 0xFFFF then s else
      let x := s.queue q
      s.setQueue q { x.clear with armed := false }
    countsUnknown s q (domainOf (qidDst q))
  let now := some (scope, s.time.dtime)
  whenPowered s (
    if s.dev.asserted = now then late s
    else
      let t := assertReset (late s) scope
      t.setDev { t.dev with asserted := now })

/-- Every crossing of a queue that is DEAD has had its stopped domain reset since (R353). -/
def rearmable (s : State) (qid : BitVec 16) : Bool := s.dev.deadCrossings.all (fun d => d.1 != qid || s.dev.deadReset.contains d)

/-- QUEUE_REARM (R356): READY, or ARM answered by an empty destination; a frozen queue is reinitialised (R36). A DEAD crossing takes
no handshake before the reset of the domain whose clock stopped (R353). -/
def execQueueRearm (qid : BitVec 16) (s : State) : Out :=
  let x := s.queue qid.toNat
  let clear (s : State) : State := s.setDev { s.dev with
    deadCrossings := s.dev.deadCrossings.filter (fun d => !(d.1 == qid && s.dev.deadReset.contains d))
    deadReset := s.dev.deadReset.filter (fun d => d.1 != qid) }
  whenPowered s (
    if qid = 0xFFFF then clear s
    else if !rearmable s qid then s
    else if x.frozen then clear (s.setQueue qid.toNat { x.clear with armed := true, frozen := false, dead := false })
    else if x.armed || x.occ != 0 then s
    else clear (s.setQueue qid.toNat { x.clear with armed := true, dead := false }))

/-- PERST_N (R354 row 8, R371, R478, R482): the endpoint is reset and any DMA fails. -/
def execPerstN (s : State) : Out :=
  whenPowered s (
    let t := recordReset (resetEndpoint s) 8 6 0
    if s.hr.linkUp then recordT t 6 0x8102 1 0 else t)

/-! ### Supplies and starts (R354, R359 to R362, R368, R369) -/

/-- SUPPLIES_GOOD (R360, R363, R368): from OFF or DORMANT, or at the entry into START that State.reset is. -/
def execSuppliesGood (s : State) : Out :=
  .next (
    if !(s.dev.vinA || s.dev.vinB) then s
    else match s.dev.dstate with
      | .off => coldStart s 1 true
      | .dormant => coldStart s 1 true
      | .start => continueStart s
      | _ => s)

/-- RESET_N (R354): the rising edge after at least 1 us low; nothing wakes a part in OFF or DORMANT (R368). -/
def execResetN (s : State) : Out := whenPowered s (coldStart s 2 false)

/-- HALT_RESTART (R369): the third HALT within 600 s stays. -/
def execHaltRestart (s : State) : Out :=
  .next (if s.dev.dstate = .halt ∧ !s.dev.haltLimit then coldStart s 3 false else s)

/-- The power-fail warning (R365): the recorder's freeze ends, and image transfers stop (R396, R459). -/
def powerWarning (s : State) : State :=
  if s.dev.pfwLow then s
  else
    let s := raise (s.setDev { s.dev with pfwLow := true }) 634
    stopArriving (stopTransfers (endFreeze (recordT s (erNum s.pair.active) 0x5401 s.dev.mvA s.dev.mvB) 4))

/-- POWER_WARNING (R365). -/
def execPowerWarning (s : State) : Out := whenPowered s (powerWarning s)

/-- What the recorder's queues hold when PFW_N falls is committed by the cutoff (R365, R396): the drain ends, then the input queue is
written. A freeze that began during the warning keeps the ring as it is (R399). -/
def commitRecords (s : State) : State :=
  if s.recd.frozen then s else let s := finishDrain s; flushQueue (s.recd.inq.length + 1) s

/-- COMMIT_CUTOFF (R365): 100 us after PFW_N falls. No commit of a slot's state begins from now on. -/
def execCommitCutoff (s : State) : Out :=
  whenPowered s (
    if !s.dev.pfwLow || s.dev.cutoff then s
    else
      let s := commitRecords s
      (s.setDev { s.dev with cutoff := true }).setImg { s.img with stored := some (storedOf s.img) })

/-- POWER_WARNING_CLEARED (R366): every VIN is in range and PFW_N released; a start that waited goes on (R363), the commits that the
cutoff held back are made, and its events are reported (R396); while the ring is frozen or drained, that report waits its turn like
any event (R399). -/
def execPowerWarningCleared (s : State) : Out :=
  whenPowered s (
    if !s.dev.pfwLow || !s.dev.vinA || !s.dev.vinB then s
    else
      let s := raise (s.setDev { s.dev with pfwLow := false, cutoff := false }) 635
      let s := s.setImg { s.img.commits.foldl Img.commit s.img with commits := [], stored := none }
      let s := recordT s (erNum s.pair.active) 0x5402 s.dev.mvA s.dev.mvB
      let n := s.recd.lostPower
      let s := modRec s (fun r => { r with lostPower := 0 })
      continueStart (if n != 0 && (s.recd.frozen || s.recd.draining) then recordT s 6 0x2601 (min n (2 ^ 32 - 1)) 3 else writeLost s n 3))

/-- The execution region that an input feeds (R22). -/
def fedBy (b : Bool) : Er := if b then .B else .A

/-- An input's range and voltage. -/
def setVin (s : State) (b inRange : Bool) (tenths : Nat) : State :=
  s.setDev (if b then { s.dev with vinB := inRange, mvB := tenths } else { s.dev with vinA := inRange, mvA := tenths })

/-- The other input leaves range in the same 10 us window: its command is the next that waits (R362; log entry 102). -/
def bothLeave (s : State) (b : Bool) : Bool :=
  match s.pending with
  | .vinOutOfRange c _ :: _ => c != b
  | _ => false

/-- VIN_OUT_OF_RANGE (R360, R362): the region fed by it flags, unless it is the last in service, or both inputs are out or leave
together. -/
def execVinOutOfRange (b : Bool) (tenths : Nat) (s : State) : Out :=
  let er := fedBy b
  let t := setVin s b false tenths
  .next (
    if !s.powered || !vinOf s er then t
    else
      let t := raise (recordT t (erNum t.pair.active) 0x5404 b.toNat tenths) (if b then 637 else 636)
      if lastSupply s b then powerWarning t
      else if t.dev.dstate = .run && !bothLeave s b then (if t.serving er || t.pair.rejoin.isSome then selfFlag t er 8 0xFFFF false else t)
      else t)

/-- VIN_IN_RANGE (R360). -/
def execVinInRange (b : Bool) (tenths : Nat) (s : State) : Out := .next (setVin s b true tenths)

/-- AR loses power: its clock, its tamper log and the BBK are gone (R359, R432). -/
def arLost (s : State) : State :=
  modSec (s.setDev { s.dev with dstate := .off, rtc := 0, aonPhase := 0 }) (fun x => { x with bbk := false, tamperLog := [], t1 := false, t1Times := [] })

/-- BROWN_OUT (R367): every LIO output drives its SAFELIGHT value or a latched trip's safe level, the chip-except-AR reset follows
without publication, and AR goes on VBAT or, without it, OFF. -/
def execBrownOut (s : State) : Out :=
  whenPowered s (
    let t := drivePins (s.setDev { s.dev with dstate := .halt })
    let t := chipReset (t.setDev { t.dev with brownOut := some (aonSeconds s), vinA := false, vinB := false, pfwLow := false })
    let t := t.setDev { t.dev with dstate := .dormant }
    let t := t.setDev { t.dev with stateWord := devState t }
    if t.dev.vbat || t.dev.shipCell then t else arLost t)

/-- VBAT_LOST (R359): in DORMANT the part goes OFF and the BBK is lost. -/
def execVbatLost (s : State) : Out :=
  let t := s.setDev { s.dev with vbat := false, shipCell := false }
  .next (if s.dev.dstate = .dormant then arLost t else t)

/-- VBAT_APPLIED (R359, R495): the shipping cell is disconnected for good; a part in OFF is DORMANT again. -/
def execVbatApplied (s : State) : Out :=
  .next (s.setDev { s.dev with vbat := true, shipCell := false, dstate := if s.dev.dstate = .off then .dormant else s.dev.dstate })

/-- RTC_UPDATE (R351): once a second of RUN. -/
def execRtcUpdate (s : State) : Out := .next (if s.dev.dstate = .run then s.setDev { s.dev with rtc := s.time.dtime } else s)

/-! ### Tamper waits of START (R429, R430) -/

/-- T1_CONDITION_END (R429, R430): held commits complete, and a start that waited goes on. -/
def execT1ConditionEnd (s : State) : Out :=
  whenPowered s (
    if !s.sec.t1 then s
    else
      let t := t1Ended s
      continueStart (t.setDev { t.dev with waitT1 := false }))

/-- TAMPER_WAIT_EXPIRY (R430): the start goes on with secret-using functions off until the next cold start. -/
def execTamperWaitExpiry (s : State) : Out :=
  whenPowered s (
    if !s.dev.waitT1 then s
    else
      let t := secretsOff s 1
      continueStart (t.setDev { t.dev with waitT1 := false }))

end Sys2Proof.Machine
end

