-- ==== Sys2Proof/Machine/Dispatch.lean ====
section
/-! DEFINITION. What each command does: one direct call per constructor of Instr. -/

namespace Sys2Proof.Machine

def exec (i : Instr) (s : State) : Host.Outcome State Fault Refusal :=
  match i with
  | .blockFault f => Sys2Proof.Machine.execBlockFault f s
  | .haltRestart => Sys2Proof.Machine.execHaltRestart s
  | .tickTokenInsert => Sys2Proof.Machine.execTickTokenInsert s
  | .groupTaken => Sys2Proof.Machine.execGroupTaken s
  | .queueWriteOnCredit qid => Sys2Proof.Machine.execQueueWriteOnCredit qid s
  | .queueEntryRemoved qid => Sys2Proof.Machine.execQueueEntryRemoved qid s
  | .applyPhase er delayFab => Sys2Proof.Machine.execApplyPhase er delayFab s
  | .stampSweep er point => Sys2Proof.Machine.execStampSweep er point s
  | .exposure er => Sys2Proof.Machine.execExposure er s
  | .runDispatch e => Sys2Proof.Machine.execRunDispatch e s
  | .watchdogAbort e => Sys2Proof.Machine.execWatchdogAbort e s
  | .mov e f => Sys2Proof.Machine.execMov e f s
  | .movu e f => Sys2Proof.Machine.execMovu e f s
  | .movh e f => Sys2Proof.Machine.execMovh e f s
  | .add e f => Sys2Proof.Machine.execAdd e f s
  | .sub e f => Sys2Proof.Machine.execSub e f s
  | .adds e f => Sys2Proof.Machine.execAdds e f s
  | .subs e f => Sys2Proof.Machine.execSubs e f s
  | .negW e f => Sys2Proof.Machine.execNeg e f s
  | .absW e f => Sys2Proof.Machine.execAbs e f s
  | .minW e f => Sys2Proof.Machine.execMin e f s
  | .maxW e f => Sys2Proof.Machine.execMax e f s
  | .andW e f => Sys2Proof.Machine.execAnd e f s
  | .orW e f => Sys2Proof.Machine.execOr e f s
  | .xorW e f => Sys2Proof.Machine.execXor e f s
  | .andn e f => Sys2Proof.Machine.execAndn e f s
  | .notW e f => Sys2Proof.Machine.execNot e f s
  | .shl e f => Sys2Proof.Machine.execShl e f s
  | .shr e f => Sys2Proof.Machine.execShr e f s
  | .sar e f => Sys2Proof.Machine.execSar e f s
  | .ext e f => Sys2Proof.Machine.execExt e f s
  | .mul e f => Sys2Proof.Machine.execMul e f s
  | .muls e f => Sys2Proof.Machine.execMuls e f s
  | .div e f => Sys2Proof.Machine.execDiv e f s
  | .modW e f => Sys2Proof.Machine.execMod e f s
  | .fma e f => Sys2Proof.Machine.execFma e f s
  | .sqrt e f => Sys2Proof.Machine.execSqrt e f s
  | .cvt e f => Sys2Proof.Machine.execCvt e f s
  | .limit e f => Sys2Proof.Machine.execLimit e f s
  | .scale e f => Sys2Proof.Machine.execScale e f s
  | .mux e f => Sys2Proof.Machine.execMux e f s
  | .sel e f => Sys2Proof.Machine.execSel e f s
  | .ceq e f => Sys2Proof.Machine.execCeq e f s
  | .cne e f => Sys2Proof.Machine.execCne e f s
  | .clt e f => Sys2Proof.Machine.execClt e f s
  | .cle e f => Sys2Proof.Machine.execCle e f s
  | .cgt e f => Sys2Proof.Machine.execCgt e f s
  | .cge e f => Sys2Proof.Machine.execCge e f s
  | .cltu e f => Sys2Proof.Machine.execCltu e f s
  | .cleu e f => Sys2Proof.Machine.execCleu e f s
  | .cgtu e f => Sys2Proof.Machine.execCgtu e f s
  | .cgeu e f => Sys2Proof.Machine.execCgeu e f s
  | .btst e f => Sys2Proof.Machine.execBtst e f s
  | .clog e f => Sys2Proof.Machine.execClog e f s
  | .movc e f => Sys2Proof.Machine.execMovc e f s
  | .rdf e f => Sys2Proof.Machine.execRdf e f s
  | .ld e f => Sys2Proof.Machine.execLd e f s
  | .st e f => Sys2Proof.Machine.execSt e f s
  | .br e f => Sys2Proof.Machine.execBr e f s
  | .call e f => Sys2Proof.Machine.execCall e f s
  | .ret e f => Sys2Proof.Machine.execRet e f s
  | .endRun e f => Sys2Proof.Machine.execEndRun e f s
  | .out e f => Sys2Proof.Machine.execOut e f s
  | .lsp e f => Sys2Proof.Machine.execLsp e f s
  | .lbank e f => Sys2Proof.Machine.execLbank e f s
  | .event e f => Sys2Proof.Machine.execEvent e f s
  | .ton e f => Sys2Proof.Machine.execTon e f s
  | .tof e f => Sys2Proof.Machine.execTof e f s
  | .tp e f => Sys2Proof.Machine.execTp e f s
  | .ctu e f => Sys2Proof.Machine.execCtu e f s
  | .ctd e f => Sys2Proof.Machine.execCtd e f s
  | .ctud e f => Sys2Proof.Machine.execCtud e f s
  | .rtrig e f => Sys2Proof.Machine.execRtrig e f s
  | .ftrig e f => Sys2Proof.Machine.execFtrig e f s
  | .sr e f => Sys2Proof.Machine.execSr e f s
  | .rs e f => Sys2Proof.Machine.execRs e f s
  | .ramp e f => Sys2Proof.Machine.execRamp e f s
  | .fixComparison slot no => Sys2Proof.Machine.execFixComparison slot no s
  | .journalTimeout late w => Sys2Proof.Machine.execJournalTimeout late w s
  | .runNoticeAccepted => Sys2Proof.Machine.execRunNoticeAccepted s
  | .releaseAccepted => Sys2Proof.Machine.execReleaseAccepted s
  | .refereeHandover er w unit => Sys2Proof.Machine.execRefereeHandover er w unit s
  | .refereeDecided w => Sys2Proof.Machine.execRefereeDecided w s
  | .refereeDeadline w => Sys2Proof.Machine.execRefereeDeadline w s
  | .loopSample er lane => Sys2Proof.Machine.execLoopSample er lane s
  | .loopSampleCompare slot tick => Sys2Proof.Machine.execLoopSampleCompare slot tick s
  | .lioLevelChange pin level => Sys2Proof.Machine.execLioLevelChange pin level s
  | .pwmPeriodStart pin => Sys2Proof.Machine.execPwmPeriodStart pin s
  | .migration er p => Sys2Proof.Machine.execMigration er p s
  | .flip er p => Sys2Proof.Machine.execFlip er p s
  | .changeAbandoned er p => Sys2Proof.Machine.execChangeAbandoned er p s
  | .engineRotation er => Sys2Proof.Machine.execEngineRotation er s
  | .engineLeavesService er => Sys2Proof.Machine.execEngineLeavesService er s
  | .laneRotation er => Sys2Proof.Machine.execLaneRotation er s
  | .selfTestComplete block failStep micros => Sys2Proof.Machine.execSelfTestComplete block failStep micros s
  | .scrubPass er corrected recurring => Sys2Proof.Machine.execScrubPass er corrected recurring s
  | .fixerKat er fail => Sys2Proof.Machine.execFixerKat er fail s
  | .healthRecordWrite => Sys2Proof.Machine.execHealthRecordWrite s
  | .rejoinStarted er => Sys2Proof.Machine.execRejoinStarted er s
  | .rejoinTestingComplete er memoryBad => Sys2Proof.Machine.execRejoinTestingComplete er memoryBad s
  | .rejoinCopyPassComplete er dirtyPages => Sys2Proof.Machine.execRejoinCopyPassComplete er dirtyPages s
  | .rejoinJoin er => Sys2Proof.Machine.execRejoinJoin er s
  | .mirrorAck w => Sys2Proof.Machine.execMirrorAck w s
  | .fieldFrameValid c f remote => Sys2Proof.Machine.execFieldFrameValid c f remote s
  | .protocolException c xl => Sys2Proof.Machine.execProtocolException c xl s
  | .bufferUnlock c buf => Sys2Proof.Machine.execBufferUnlock c buf s
  | .busError c kind transmitting exempt own => Sys2Proof.Machine.execBusError c kind transmitting exempt own s
  | .arbitrationLost c => Sys2Proof.Machine.execArbitrationLost c s
  | .busIdle c => Sys2Proof.Machine.execBusIdle c s
  | .fieldFrameSent c => Sys2Proof.Machine.execFieldFrameSent c s
  | .refresh c buf => Sys2Proof.Machine.execRefresh c buf s
  | .cycleStart c => Sys2Proof.Machine.execCycleStart c s
  | .exclusiveWindow c buf busBusy => Sys2Proof.Machine.execExclusiveWindow c buf busBusy s
  | .stationCheck c node => Sys2Proof.Machine.execStationCheck c node s
  | .recoverDelay c => Sys2Proof.Machine.execRecoverDelay c s
  | .busOffRecovered c => Sys2Proof.Machine.execBusOffRecovered c s
  | .channelStopped c => Sys2Proof.Machine.execChannelStopped c s
  | .busIntegration c => Sys2Proof.Machine.execBusIntegration c s
  | .dominantTimeout c => Sys2Proof.Machine.execDominantTimeout c s
  | .networkFrameReceived p f => Sys2Proof.Machine.execNetworkFrameReceived p f s
  | .receiveDescriptorWait q bufs => Sys2Proof.Machine.execReceiveDescriptorWait q bufs s
  | .queueDoorbell p w => Sys2Proof.Machine.execQueueDoorbell p w s
  | .transmitFetch q descs => Sys2Proof.Machine.execTransmitFetch q descs s
  | .transmitStart p => Sys2Proof.Machine.execTransmitStart p s
  | .networkFrameSent p => Sys2Proof.Machine.execNetworkFrameSent p s
  | .pauseExpiry p cls => Sys2Proof.Machine.execPauseExpiry p cls s
  | .xoffRepeat p cls => Sys2Proof.Machine.execXoffRepeat p cls s
  | .lpiEntry p => Sys2Proof.Machine.execLpiEntry p s
  | .lpiWake p => Sys2Proof.Machine.execLpiWake p s
  | .linkDown p cause => Sys2Proof.Machine.execLinkDown p cause s
  | .linkUp p lmode => Sys2Proof.Machine.execLinkUp p lmode s
  | .phyPoll p pcs an => Sys2Proof.Machine.execPhyPoll p pcs an s
  | .loadWindow1s => Sys2Proof.Machine.execLoadWindow1s s
  | .loadWindow1ms => Sys2Proof.Machine.execLoadWindow1ms s
  | .linkWaitTimeout p => Sys2Proof.Machine.execLinkWaitTimeout p s
  | .duplicateEntryForget src seqNo => Sys2Proof.Machine.execDuplicateEntryForget src seqNo s
  | .supervisionSend => Sys2Proof.Machine.execSupervisionSend s
  | .ptpMessageSend p msg => Sys2Proof.Machine.execPtpMessageSend p msg s
  | .tuStepWrite v fromActive => Sys2Proof.Machine.execTuStepWrite v fromActive s
  | .ppsOutRise => Sys2Proof.Machine.execPpsOutRise s
  | .ppsOutFall => Sys2Proof.Machine.execPpsOutFall s
  | .ppsInEdge => Sys2Proof.Machine.execPpsInEdge s
  | .rtcUpdate => Sys2Proof.Machine.execRtcUpdate s
  | .vellekOutputBuild st => Sys2Proof.Machine.execVellekOutputBuild st s
  | .vellekStationCheck st => Sys2Proof.Machine.execVellekStationCheck st s
  | .pllChangeover lossOfLock => Sys2Proof.Machine.execPllChangeover lossOfLock s
  | .referenceLost => Sys2Proof.Machine.execReferenceLost s
  | .referenceReturn => Sys2Proof.Machine.execReferenceReturn s
  | .referenceHoldoverExpired => Sys2Proof.Machine.execReferenceHoldoverExpired s
  | .crossingDead qid domain powerLost => Sys2Proof.Machine.execCrossingDead qid domain powerLost s
  | .resetAssert scope => Sys2Proof.Machine.execResetAssert scope s
  | .crossingResetTimeout scope qid => Sys2Proof.Machine.execCrossingResetTimeout scope qid s
  | .queueRearm qid => Sys2Proof.Machine.execQueueRearm qid s
  | .suppliesGood => Sys2Proof.Machine.execSuppliesGood s
  | .vinOutOfRange b tenths => Sys2Proof.Machine.execVinOutOfRange b tenths s
  | .vinInRange b tenths => Sys2Proof.Machine.execVinInRange b tenths s
  | .powerWarning => Sys2Proof.Machine.execPowerWarning s
  | .commitCutoff => Sys2Proof.Machine.execCommitCutoff s
  | .powerWarningCleared => Sys2Proof.Machine.execPowerWarningCleared s
  | .brownOut => Sys2Proof.Machine.execBrownOut s
  | .resetN => Sys2Proof.Machine.execResetN s
  | .perstN => Sys2Proof.Machine.execPerstN s
  | .hostLinkUp rate width => Sys2Proof.Machine.execHostLinkUp rate width s
  | .endOfInterrupt t => Sys2Proof.Machine.execEndOfInterrupt t s
  | .evcPendWrite t g v hwSet => Sys2Proof.Machine.execEvcPendWrite t g v hwSet s
  | .evcCtrlPmodeWrite t v => Sys2Proof.Machine.execEvcCtrlPmodeWrite t v s
  | .interruptDelivery t => Sys2Proof.Machine.execInterruptDelivery t s
  | .holdOffExpiry t g => Sys2Proof.Machine.execHoldOffExpiry t g s
  | .recordWrite => Sys2Proof.Machine.execRecordWrite s
  | .recCtrlFreezeSet v => Sys2Proof.Machine.execRecCtrlFreezeSet v s
  | .recCtrlFreezeClear v => Sys2Proof.Machine.execRecCtrlFreezeClear v s
  | .freezeExpiry => Sys2Proof.Machine.execFreezeExpiry s
  | .recorderDrainComplete => Sys2Proof.Machine.execRecorderDrainComplete s
  | .recWinFirstRead => Sys2Proof.Machine.execRecWinFirstRead s
  | .recWinLastRead => Sys2Proof.Machine.execRecWinLastRead s
  | .tamperT1 sensor => Sys2Proof.Machine.execTamperT1 sensor s
  | .t1ConditionEnd => Sys2Proof.Machine.execT1ConditionEnd s
  | .tamperT2 sensor => Sys2Proof.Machine.execTamperT2 sensor s
  | .dormantCheck meshOk loopOk => Sys2Proof.Machine.execDormantCheck meshOk loopOk s
  | .entropyFailure kind => Sys2Proof.Machine.execEntropyFailure kind s
  | .entropyRetest pass => Sys2Proof.Machine.execEntropyRetest pass s
  | .drbgReseed => Sys2Proof.Machine.execDrbgReseed s
  | .srVerify key msg sig => Sys2Proof.Machine.execSrVerify key msg sig s
  | .srMacsec op => Sys2Proof.Machine.execSrMacsec op s
  | .srRestartComplete => Sys2Proof.Machine.execSrRestartComplete s
  | .imageBodyComplete p => Sys2Proof.Machine.execImageBodyComplete p s
  | .imageBodyTimeout p => Sys2Proof.Machine.execImageBodyTimeout p s
  | .trialConfirm => Sys2Proof.Machine.execTrialConfirm s
  | .trialWindowExpiry => Sys2Proof.Machine.execTrialWindowExpiry s
  | .retainSnapshot => Sys2Proof.Machine.execRetainSnapshot s
  | .mbxDoorbell p seqNo => Sys2Proof.Machine.execMbxDoorbell p seqNo s
  | .bulkDmaComplete p ok data => Sys2Proof.Machine.execBulkDmaComplete p ok data s
  | .segmentTimeout p => Sys2Proof.Machine.execSegmentTimeout p s
  | .objectCopyExpiry p => Sys2Proof.Machine.execObjectCopyExpiry p s
  | .hrRestartComplete => Sys2Proof.Machine.execHrRestartComplete s
  | .registerWrite sp off v => Sys2Proof.Machine.execRegisterWrite sp off v s
  | .deviceInfo p => Sys2Proof.Machine.execDeviceInfo p s
  | .contactSheet p => Sys2Proof.Machine.execContactSheet p s
  | .healthClear p => Sys2Proof.Machine.execHealthClear p s
  | .autoRejoin p en => Sys2Proof.Machine.execAutoRejoin p en s
  | .rejoin p region => Sys2Proof.Machine.execRejoin p region s
  | .regionOut p region => Sys2Proof.Machine.execRegionOut p region s
  | .roleSwap p => Sys2Proof.Machine.execRoleSwap p s
  | .route p source toHost => Sys2Proof.Machine.execRoute p source toHost s
  | .lostAtReset p qid => Sys2Proof.Machine.execLostAtReset p qid s
  | .taskCounters p slot => Sys2Proof.Machine.execTaskCounters p slot s
  | .grantWrite p entry w => Sys2Proof.Machine.execGrantWrite p entry w s
  | .grantRead p entry => Sys2Proof.Machine.execGrantRead p entry s
  | .partitionSet p part budget => Sys2Proof.Machine.execPartitionSet p part budget s
  | .dmaWindow p part base len => Sys2Proof.Machine.execDmaWindow p part base len s
  | .loopAssign p first count part => Sys2Proof.Machine.execLoopAssign p first count part s
  | .pointOwner p point owner => Sys2Proof.Machine.execPointOwner p point owner s
  | .programLoad p container => Sys2Proof.Machine.execProgramLoad p container s
  | .change p tc => Sys2Proof.Machine.execChange p tc s
  | .changeCancel p => Sys2Proof.Machine.execChangeCancel p s
  | .changeReport p => Sys2Proof.Machine.execChangeReport p s
  | .programInfo p => Sys2Proof.Machine.execProgramInfo p s
  | .pointRead p first count => Sys2Proof.Machine.execPointRead p first count s
  | .varRead p iid off len => Sys2Proof.Machine.execVarRead p iid off len s
  | .attrWrite p point ty attr => Sys2Proof.Machine.execAttrWrite p point ty attr s
  | .attrRead p point => Sys2Proof.Machine.execAttrRead p point s
  | .limitWrite p idx entry => Sys2Proof.Machine.execLimitWrite p idx entry s
  | .forceSet p w0 w1 w2 => Sys2Proof.Machine.execForceSet p w0 w1 w2 s
  | .forceRemove p w0 w1 => Sys2Proof.Machine.execForceRemove p w0 w1 s
  | .forceList p => Sys2Proof.Machine.execForceList p s
  | .interlockWrite p eq record => Sys2Proof.Machine.execInterlockWrite p eq record s
  | .interlockAck p eq => Sys2Proof.Machine.execInterlockAck p eq s
  | .interlockRead p eq => Sys2Proof.Machine.execInterlockRead p eq s
  | .lioConfig p pin w => Sys2Proof.Machine.execLioConfig p pin w s
  | .channelWrite p c record => Sys2Proof.Machine.execChannelWrite p c record s
  | .filterWrite p c first filters => Sys2Proof.Machine.execFilterWrite p c first filters s
  | .rxbufConfig p c buf w => Sys2Proof.Machine.execRxbufConfig p c buf w s
  | .mappingWrite p c first entries => Sys2Proof.Machine.execMappingWrite p c first entries s
  | .txbufWrite p c buf w t0 t1 data => Sys2Proof.Machine.execTxbufWrite p c buf w t0 t1 data s
  | .emergencyWrite p c num h0 h1 h2 data => Sys2Proof.Machine.execEmergencyWrite p c num h0 h1 h2 data s
  | .stationWrite p c node w => Sys2Proof.Machine.execStationWrite p c node w s
  | .channelRecover p c => Sys2Proof.Machine.execChannelRecover p c s
  | .tmRestart p c => Sys2Proof.Machine.execTmRestart p c s
  | .rawFrameRead p c buf => Sys2Proof.Machine.execRawFrameRead p c buf s
  | .rawFrameSend p c buf len data => Sys2Proof.Machine.execRawFrameSend p c buf len data s
  | .channelCounters p c kind idx => Sys2Proof.Machine.execChannelCounters p c kind idx s
  | .vellekWrite p record => Sys2Proof.Machine.execVellekWrite p record s
  | .vstationWrite p st record => Sys2Proof.Machine.execVstationWrite p st record s
  | .vblockWrite p first entries => Sys2Proof.Machine.execVblockWrite p first entries s
  | .vstationCounters p st => Sys2Proof.Machine.execVstationCounters p st s
  | .stationState p st => Sys2Proof.Machine.execStationState p st s
  | .loopWrite p slot record => Sys2Proof.Machine.execLoopWrite p slot record s
  | .loopRead p slot => Sys2Proof.Machine.execLoopRead p slot s
  | .loopRun p slot run => Sys2Proof.Machine.execLoopRun p slot run s
  | .loopSetpoint p slot v => Sys2Proof.Machine.execLoopSetpoint p slot v s
  | .loopBank p slot bank => Sys2Proof.Machine.execLoopBank p slot bank s
  | .loopRemove p slot => Sys2Proof.Machine.execLoopRemove p slot s
  | .portWrite p port record => Sys2Proof.Machine.execPortWrite p port record s
  | .pairWrite p r0 r1 => Sys2Proof.Machine.execPairWrite p r0 r1 s
  | .nfilterWrite p first entries => Sys2Proof.Machine.execNfilterWrite p first entries s
  | .queueWrite p q record => Sys2Proof.Machine.execQueueWrite p q record s
  | .queueCounters p q => Sys2Proof.Machine.execQueueCounters p q s
  | .frameRead p q => Sys2Proof.Machine.execFrameRead p q s
  | .frameReturn p q => Sys2Proof.Machine.execFrameReturn p q s
  | .frameSend p q pcp data => Sys2Proof.Machine.execFrameSend p q pcp data s
  | .phyRead p port mmd reg answer => Sys2Proof.Machine.execPhyRead p port mmd reg answer s
  | .phyWrite p port mmd reg v => Sys2Proof.Machine.execPhyWrite p port mmd reg v s
  | .timeWrite p r0 r1 => Sys2Proof.Machine.execTimeWrite p r0 r1 s
  | .ptpRead p ds => Sys2Proof.Machine.execPtpRead p ds s
  | .ptpWrite p ds data => Sys2Proof.Machine.execPtpWrite p ds data s
  | .latencyWrite p port lmode ingress egress => Sys2Proof.Machine.execLatencyWrite p port lmode ingress egress s
  | .macsecConfig p port options window slot prio cknLen ckn => Sys2Proof.Machine.execMacsecConfig p port options window slot prio cknLen ckn s
  | .recRead p slot count => Sys2Proof.Machine.execRecRead p slot count s
  | .recFreeze p => Sys2Proof.Machine.execRecFreeze p s
  | .recThaw p => Sys2Proof.Machine.execRecThaw p s
  | .imageWrite p target container => Sys2Proof.Machine.execImageWrite p target container s
  | .updateStart p kind => Sys2Proof.Machine.execUpdateStart p kind s
  | .updateContinue p => Sys2Proof.Machine.execUpdateContinue p s
  | .updateCancel p => Sys2Proof.Machine.execUpdateCancel p s
  | .slotStatus p => Sys2Proof.Machine.execSlotStatus p s
  | .identity p => Sys2Proof.Machine.execIdentity p s
  | .keyUpdate p msg => Sys2Proof.Machine.execKeyUpdate p msg s
  | .attest p flags slot nonce => Sys2Proof.Machine.execAttest p flags slot nonce s
  | .seal p slot sel data => Sys2Proof.Machine.execSeal p slot sel data s
  | .unseal p blob => Sys2Proof.Machine.execUnseal p blob s
  | .pmac p slot verify tag data => Sys2Proof.Machine.execPmac p slot verify tag data s
  | .random p len => Sys2Proof.Machine.execRandom p len s
  | .slotInfo p first count => Sys2Proof.Machine.execSlotInfo p first count s
  | .srStatus p => Sys2Proof.Machine.execSrStatus p s
  | .selftest p failed => Sys2Proof.Machine.execSelftest p failed s
  | .counterLowerWordRead who reg => Sys2Proof.Machine.execCounterLowerWordRead who reg s
  | .vbatLost => Sys2Proof.Machine.execVbatLost s
  | .vbatApplied => Sys2Proof.Machine.execVbatApplied s
  | .macrClockReturn p => Sys2Proof.Machine.execMacrClockReturn p s
  | .timeSourceLost => Sys2Proof.Machine.execTimeSourceLost s
  | .tamperWaitExpiry => Sys2Proof.Machine.execTamperWaitExpiry s
  | .trialCriterionWindow => Sys2Proof.Machine.execTrialCriterionWindow s
  | .hostLinkDown => Sys2Proof.Machine.execHostLinkDown s

end Sys2Proof.Machine
end

