-- ==== Sys2Proof/Machine/Reads.lean ====
section
/-! DEFINITION. What a read of a register returns (R15, R17, R19, R286, R305, R309, R315, R321, R378 to R381, R397, R462 to R468),
and the levels of pins that follow the state (R269, R390, R486). No command of the table is a read: these are the words that the
state shows, and the reads that the firmware makes of its FIFOs. -/

namespace Sys2Proof.Machine

/-- The copy in a requester's hold, which a read of an upper word returns (R15). -/
def heldWord (s : State) (who : Requester) : W32 := look 0 s.hr.holds (holdNo who)

/-- The lower word of a wide register (R15). -/
def lowerWord (s : State) (r : WideReg) : W32 := BitVec.ofNat 32 (wideValue s r)

/-- A word of the device status block (R467). -/
def readDev (s : State) (who : Requester) (off : Nat) : W32 :=
  if off = 0x34 ∨ off = 0x3C then heldWord s who
  else if off < 0x50 then BitVec.ofNat 32 (fieldLE (statusBlock s) off 4)
  else 0

/-- A word of a target's register block (R378 to R381). -/
def readEvc (s : State) (t : Target) (off : Nat) : W32 :=
  let e := s.target t
  let g := off % 128 / 4
  if off = 0 then e.ctrl
  else if off = 4 then BitVec.ofNat 32 (e.eoiErr.toNat * 2 ^ 23 + e.depth * 2 ^ 16 + e.idle.toNat * 2 ^ 4 + e.rpri)
  else if 0x80 ≤ off ∧ off < 0x100 then look 0 e.pend g
  else if 0x100 ≤ off ∧ off < 0x180 then e.maskWord g
  else if 0x180 ≤ off ∧ off < 0x200 then look 0 e.gcnt g
  else if 0x200 ≤ off ∧ off < 0x280 then look 0 e.hold g
  else if 0x400 ≤ off ∧ off < 0x600 then look 0 e.level ((off - 0x400) / 4)
  else if 0x1000 ≤ off ∧ off < 0x2000 then look 0 e.cnt ((off - 0x1000) / 4)
  else 0

/-- A word of the recorder registers and of the window (R397, R398). -/
def readRec (s : State) (off : Nat) : W32 :=
  let r := s.recd
  if off = 0 then BitVec.ofNat 32 (r.freeze.toNat * 2 ^ 31 + r.rwin.toNat * 2 ^ 8 + r.sevt.toNat)
  else if off = 4 then BitVec.ofNat 32 (r.frozen.toNat * 2 ^ 31 + r.draining.toNat * 2 ^ 30 + r.holdq.length * 2 ^ 16 + freezeLeft s)
  else if off = 8 then r.cursor.setWidth 32
  else if off = 0xC then r.head.setWidth 32
  else if off = 0x10 then r.seqNo.setWidth 32
  else if off = 0x14 then r.ovwr
  else if off = 0x18 then r.lost
  else if off = 0x20 then recordWord (r.slot r.cursor.toNat) 0
  else if 0x20 < off ∧ off < 0x40 then r.window.getD ((off - 0x20) / 4) 0
  else 0

/-- A word of a mailbox page (R468): write-only and reserved words read as zero. -/
def readPage (s : State) (who : Requester) (p : BitVec 7) (off : Nat) : W32 :=
  let x := s.page p
  if off = 0 then BitVec.ofNat 32 (x.busy.toNat * 2 ^ 31 + x.valid.toNat * 2 ^ 30 + x.dberr.toNat * 2 ^ 29 + x.wrerr.toNat * 2 ^ 28 + x.seqNo.toNat)
  else if off = 4 then BitVec.ofNat 32 (x.stat.toNat * 2 ^ 16 + x.rlen)
  else if off = 8 then lowerWord s (.ftick p)
  else if off = 0xC then heldWord s who
  else if off = 0x10 then x.bdone
  else if off = 0x18 then x.req
  else if off = 0x1C then x.bctrl
  else if off = 0x20 then x.boff
  else if off = 0x24 then x.blen
  else if off = 0x28 then x.baddr.setWidth 32
  else if off = 0x2C then (x.baddr >>> 32).setWidth 32
  else if 0x40 ≤ off ∧ off < 0x800 then BitVec.ofNat 32 (leNat (x.reqBuf.readBytes off 4))
  else if 0x800 ≤ off ∧ off < 0x1000 then BitVec.ofNat 32 (fieldLE x.resp (off - 0x800) 4)
  else 0

/-- A word of BAR0 (R465). -/
def readBar0 (s : State) (who : Requester) (off : Nat) : W32 :=
  if off % 4 ≠ 0 then 0
  else if off < 0x1000 then readDev s who off
  else if 0x2000 ≤ off ∧ off < 0x4000 then readEvc s .host (off - 0x2000)
  else if 0x4000 ≤ off ∧ off < 0x5000 then readRec s (off - 0x4000)
  else if 0x5000 ≤ off ∧ off < 0x5200 then
    let k := (off - 0x5000) / 4
    look (if k % 4 = 3 then 1 else 0) s.hr.msixTable k
  else if off = 0x5800 then s.hr.pba
  else if 0x10000 ≤ off ∧ off < 0x90000 then readPage s who (BitVec.ofNat 7 ((off - 0x10000) / 0x1000)) (off % 0x1000)
  else 0

/-- A counter slot of the statistics window: its width and value, none where the slot is reserved (R305, R466). -/
def statSlot (s : State) (off : Nat) : Option (Nat × Nat) :=
  let port (x : PortS) (n : Nat) : Option (Nat × Nat) := if n ≤ 80 then some (portWidth n, look 0 x.counters n) else none
  if off < 0x400 then port s.net.port0 (off / 8)
  else if off < 0x800 then port s.net.port1 ((off - 0x400) / 8)
  else if off < 0x5800 then
    let n := (off - 0x800) % 0x80 / 8
    if n < 12 then some (nqWidth n, look 0 (s.nq ((off - 0x800) / 0x80)).counters n) else none
  else if off < 0x7800 then
    let ch := s.chan ((off - 0x5800) / 0x100)
    let n := (off - 0x5800) % 0x100 / 8
    if n = 10 then some (32, ch.tec.toNat)
    else if n = 11 then some (32, ch.rxErr.toNat)
    else if n < 20 then some (32, look 0 ch.counters n)
    else none
  else if 0x7800 ≤ off ∧ off < 0x7820 then some (32, look 0 s.net.vcounters ((off - 0x7800) / 8))
  else if 0x7900 ≤ off ∧ off < 0x7908 then some (32, s.time.ppsInvalid.toNat)
  else none

/-- A word of BAR2 (R305, R466): the upper word of a 32-bit counter reads zero, that of a 48-bit counter is the hold. -/
def readBar2 (s : State) (who : Requester) (off : Nat) : W32 :=
  match statSlot s off with
  | none => 0
  | some (w, v) =>
    if off % 8 = 0 then BitVec.ofNat 32 v
    else if off % 8 = 4 then (if w = 48 then heldWord s who else 0)
    else 0

/-- The wide register whose lower word stands at an offset of a window: its read fills the requester's hold (R15, R305, R467, R468). -/
def wideAt (bar2 : Bool) (off : Nat) : Option WideReg :=
  if bar2 then
    if off % 8 ≠ 0 then none
    else if off < 0x400 then (if portWidth (off / 8) = 48 ∧ off / 8 ≤ 80 then some (.portOctets .np0 (off / 8)) else none)
    else if off < 0x800 then
      let n := (off - 0x400) / 8
      if portWidth n = 48 ∧ n ≤ 80 then some (.portOctets .np1 n) else none
    else if off < 0x5800 then
      let n := (off - 0x800) % 0x80 / 8
      if nqWidth n = 48 ∧ n < 12 then some (.queueOctets ((off - 0x800) / 0x80) n) else none
    else none
  else if off = 0x30 then some .dtime
  else if off = 0x38 then some .tick
  else if 0x10000 ≤ off ∧ off < 0x90000 ∧ off % 0x1000 = 8 then some (.ftick (BitVec.ofNat 7 ((off - 0x10000) / 0x1000)))
  else none

/-- One register access that reads a word of a window, and what it leaves: the hold after a lower word (R15, R19), the recorder's
window after its first word and the next slot after its last (R398). -/
def readWord (s : State) (who : Requester) (bar2 : Bool) (off : Nat) : W32 × State :=
  (if bar2 then readBar2 s who off else readBar0 s who off,
    match wideAt bar2 off with
    | some r => holdUpper s who r
    | none => if bar2 then s else if off = 0x4020 then windowFirst s else if off = 0x403C then windowLast s else s)

/-- n words in ascending address order, each a register access of its own (R463, R464). -/
def readWordsUp (bar2 : Bool) : Nat → Nat → State → List W32 × State
  | 0, _, s => ([], s)
  | n + 1, off, s =>
    let (w, s) := readWord s .hostPort bar2 off
    let (ws, s) := readWordsUp bar2 n (off + 4) s
    (w :: ws, s)

/-- A read request of PCI Express with the byte enables of its words (R463): a partial word completes with Unsupported Request,
none here, and reads nothing; so does nothing at all answer while the port is held in reset (R26). -/
def readRequest (s : State) (bar2 : Bool) (off : Nat) (enables : List (BitVec 4)) : Option (List W32) × State :=
  if off % 4 ≠ 0 ∨ !s.hr.running ∨ !enables.all (· == 0xF) then (none, s)
  else
    let (ws, s) := readWordsUp bar2 enables.length off s
    (some ws, s)

/-- The first n data words of a read frame on the serial interface (R464), and what the reads leave: opcode 0xEB, then the address; a
reserved window select reads zero. While a PCI Express host is present, or HR's port is held in reset (R26), nothing answers and the
lines stay at ones (R462). -/
def readFrame (s : State) (bs : Bytes) (n : Nat) : List W32 × State :=
  match bs with
  | op :: a2 :: a1 :: a0 :: _ =>
    let a := a2.toNat * 65536 + a1.toNat * 256 + a0.toNat
    if op ≠ 0xEB then ([], s)
    else if s.hr.pcie ∨ !s.hr.running then (List.replicate n 0xFFFFFFFF, s)
    else if a / 2 ^ 22 < 2 then readWordsUp (a / 2 ^ 22 == 1) n (a % 2 ^ 22) s
    else (List.replicate n 0, s)
  | _ => ([], s)

/-- A time unit register (R309; log entry 30 for the offsets). -/
def readTimeUnit (s : State) (off : Nat) : W64 :=
  let t := s.time
  if off = 0 then BitVec.ofNat 64 (t.rate.toNat * 2 ^ 32 + t.slewMax.toNat)
  else if off = 8 then BitVec.ofNat 64 ((BitVec.ofInt 48 (Int.tdiv t.slewRem (2 ^ 40))).toNat)
  else if off = 0x18 then BitVec.ofNat 64 (t.tstate.toNat * 2 ^ 62 + t.stepped.toNat)
  else 0

/-- STAT2 to STAT0 (R486). -/
def statPins (s : State) : Nat :=
  match s.dev.dstate with
  | .off | .dormant => 0
  | .start => 1
  | .run => if s.sec.secOff then 4 else if s.duplex then 2 else 3
  | .halt => if s.dev.haltLimit then 6 else 5

/-- PHY_RST_N (R269, R363): low until step 1 of a start has ended. -/
def phyRstN (s : State) : Bool := s.powered && (s.dev.dstate != .start || decide (1 ≤ s.dev.startStep))

/-- HOST_IRQ_N is low (R390, R485). -/
def irqLow (s : State) : Bool := s.powered && !s.hr.pcie && s.evc.host.request

/-- The signal lands that the module drives, but for the LIO and STAT pins (R485). -/
inductive Signal where
  | bus (c : Nat)
  | txd (c : Nat)
  | npLane (p : Port)
  | peLane
  | mdc
  | mdio
  | phyRstN
  | refclk
  | hostIo
  | hostIrqN
  | ppsOut
  | pfwN
  | tmpLoopA
  deriving DecidableEq, Repr

/-- What a land shows: a level, high impedance (for a bus, recessive; for an open-drain output, released), a lane in electrical idle, or
the signal of the unit that drives it. -/
inductive Land where
  | low
  | high
  | highZ
  | idle
  | driven
  deriving DecidableEq, Repr

/-- A logic level. -/
def Land.ofBool (b : Bool) : Land := if b then .high else .low

/-- The lands of R485 between two commands: each at its default until what its last column names has come. A read or a write of a PHY
register is one command, so that MDC and MDIO rest outside it; a serial frame likewise. -/
def landOf (s : State) (g : Signal) : Land :=
  if !s.powered then (if g == .tmpLoopA && s.dev.dstate != .off then .driven else .highZ)
  else
    match g with
    | .bus c => if (s.chan c).pins == .integrated && bit ((s.chan c).cw 0) 63 then .driven else .highZ
    | .txd c =>
      if (s.chan c).record.all (fun w => w == 0) then .high
      else if (s.chan c).pins == .integrated then .highZ
      else if bit ((s.chan c).cw 0) 63 then .driven
      else .high
    | .npLane p => if s.dev.dstate == .start || !bit ((s.port p).record.getD 0 0) 63 then .idle else .driven
    | .peLane => if s.hr.linkUp then .driven else .idle
    | .mdc => .low
    | .mdio => .highZ
    | .phyRstN => Land.ofBool (phyRstN s)
    | .refclk => if s.dev.dstate == .start && s.dev.startStep == 0 then .low else .driven
    | .hostIo => .highZ
    | .hostIrqN => if irqLow s then .low else .highZ
    | .ppsOut => Land.ofBool s.time.ppsOut
    | .pfwN => if s.dev.pfwLow then .low else .highZ
    | .tmpLoopA => .driven

/-- The firmware reads the oldest egress timestamp of a port (R315). -/
def readEgress (s : State) (p : Port) : Option (W64 × W64) × State :=
  match (s.port p).egress with
  | w :: rest => (some w, modPort s p (fun x => { x with egress := rest }))
  | [] => (none, s)

/-- The firmware reads the oldest capture of PPS_IN (R321). -/
def readPps (s : State) : Option W64 × State :=
  match s.time.ppsFifo with
  | w :: rest => (some w, s.setTime { s.time with ppsFifo := rest })
  | [] => (none, s)

end Sys2Proof.Machine
end

