-- ==== Sys2Proof/Safety.lean ====
section
/-! DEFINITION. The terms that statements use: what a command leaves, what a mailbox page answers, what holds of a ledger, and
what each Golup instruction reads and gives (R115 to R134), written from the rules beside the meanings. -/

namespace Sys2Proof.Machine

/-! ### Frames -/

/-- Nothing but the region `er` differs. -/
def OnlyRegion (er : Er) (s t : State) : Prop := t.setRegion er (s.region er) = s

/-! ### Fabric queues (R30, R34) -/

/-- The queue ledger's invariant of R34; the entries held are in flight, and in an input queue of the sequencer they cover the
groups that stand there. -/
def Ledger (id : Nat) (q : FQueue) : Prop :=
  q.avail + q.flight = q.cap ∧ q.occ ≤ q.flight ∧ q.removed - q.returned = BitVec.ofNat 16 (q.flight - q.occ) ∧
  (isInputQueue id = true → (q.held.map Group.size).sum + q.part ≤ q.occ)

/-- Every queue whose producer runs holds its ledger's invariant, every region in service holds as many tokens as it has not
applied, and no pool has given out more than it holds: what R34 asks at every cycle, so that no check of R35 fails. -/
def LedgersHold (s : State) : Prop :=
  (∀ e ∈ s.fab.queues, e.2.open = true → e.2.violation = 0) ∧
  (∀ er, s.serving er = true → s.fab.issued - (s.region er).applied = BitVec.ofNat 16 (tokensHeld (s.region er).staging)) ∧
  ∀ q ∈ pools s, poolFails s q = false

/-! ### Interrupt sources (R377) -/

/-- The pending bit of a source at a target. -/
def Pending (s : State) (t : Target) (n : Nat) : Bool := bit (look 0 (s.target t).pend (n / 32)) (n % 32)

/-- The source is pending at every target. -/
def Raised (s : State) (n : Nat) : Prop := ∀ t, Pending s t n = true

/-! ### Field channels (R223 to R265) -/

/-- The tables of a channel are canonical. -/
def ChannelWf (ch : Channel) : Prop :=
  tableWf ({} : RxBuf) ch.rx = true ∧ tableWf ({} : TxBuf) ch.tx = true ∧ tableWf ({} : Station) ch.stations = true ∧
  tableWf 0 ch.counters = true

/-- A powered part whose channel table is canonical, and channel n's own tables are. -/
def ChannelReady (s : State) (n : Nat) : Prop := s.powered = true ∧ tableWf ({} : Channel) s.chans = true ∧ ChannelWf (s.chan n)

/-- No write of partition 0 waits for the end of a frame (R228). -/
def NoWrites (ch : Channel) : Prop := ch.writes = []

/-- Nothing but channel n differs, beside interrupt targets and recorder. -/
def OnlyChannel (n : Nat) (s t : State) : Prop :=
  { t with chans := s.chans, evc := s.evc, recd := s.recd } = s ∧ ∀ m, m ≠ n → t.chan m = s.chan m

/-- Channel counter i after k more events, by its kind (R13, R262). -/
def countedCh (ch : Channel) (i k : Nat) : Nat :=
  if chanKind i = 2 then satNat 32 (look 0 ch.counters i) k else wrapNat 32 (look 0 ch.counters i) k

/-- Everything of a channel but its counters, its buffers, its stations and whether another node's frame is on the bus. -/
def ChannelKept (ch ch' : Channel) : Prop :=
  { ch' with otherOn := ch.otherOn, rx := ch.rx, tx := ch.tx, stations := ch.stations, counters := ch.counters } = ch

/-! ### Network ports and queues (R266 to R304) -/

/-- Port counter i after k more, by its kind and width (R13, R303). -/
def countedPort (x : PortS) (i k : Nat) : Nat :=
  if portKind i = 2 then satNat (portWidth i) (look 0 x.counters i) k else wrapNat (portWidth i) (look 0 x.counters i) k

/-- Queue counter i after k more (R13, R304). -/
def countedNq (x : NQueue) (i k : Nat) : Nat :=
  if i ≥ 10 then satNat (nqWidth i) (look 0 x.counters i) k else wrapNat (nqWidth i) (look 0 x.counters i) k

/-- Station counter i after k more (R13, R337). -/
def countedVst (x : VStation) (i k : Nat) : Nat :=
  if i ≥ 13 then satNat 32 (look 0 x.counters i) k else wrapNat 32 (look 0 x.counters i) k

/-- A powered part whose network tables are canonical. -/
def NetReady (s : State) : Prop :=
  s.powered = true ∧ tableWf ({} : NQueue) s.net.queues = true ∧ tableWf ({} : VStation) s.net.vstations = true ∧
  (∀ q, tableWf 0 (s.nq q).counters = true) ∧ (∀ v, tableWf 0 (s.vst v).counters = true) ∧ ∀ p, tableWf 0 (s.port p).counters = true

/-- Neither port does flow control. -/
def NoFlowControl (s : State) : Prop := ∀ p, (s.port p).fcmode = 0

/-- Nothing but NR, the interrupt targets and the recorder differs. -/
def OnlyNet (s t : State) : Prop := { t with net := s.net, evc := s.evc, recd := s.recd } = s

/-- Nothing but port p differs, beside interrupt targets and recorder. -/
def OnlyPort (p : Port) (s t : State) : Prop :=
  OnlyNet s t ∧ t.port (otherPort p) = s.port (otherPort p) ∧ { t.net with port0 := s.net.port0, port1 := s.net.port1 } = s.net

/-- Everything of a port but its counters. -/
def PortKept (x y : PortS) : Prop := { y with counters := x.counters } = x

/-- The first 64 bits of a received frame's descriptor in the packet buffer (R287). -/
def storedFrame (w : W64) (bs : Bytes) : RxFrame := { word := descWord w 0 1 bs.length, bytes := bs }

/-! ### Mailbox pages (R468 to R481) -/

/-- The mailbox can serve a request: the part is powered, HR runs, no crossing is DEAD. -/
def MbxOpen (s : State) : Prop := s.powered = true ∧ s.hr.running = true ∧ s.dev.deadCrossings = []

/-- Where a request was rung on the command's page, it is this command's, whole, and its turn has come (R473 to R475, R479). -/
def Asked (s : State) (c : Instr) : Prop := ∀ p q, requestOf c = some (p, q) → s.asks p q = true

/-- No update across configuration formats runs (R453). -/
def OneFormat (s : State) : Prop := (s.img.update.map Update.formats).getD false = false

/-- Page p shows the response: `BUSY` 0, `VALID` 1, the status and the data, and no object gathers there any more (R475); its
source is pending at HOST; no other page and no window changes (R470, R481). -/
def Answered (s t : State) (p : BitVec 7) (st : Stat) (data : Bytes) : Prop :=
  t.page p = { (s.page p).ended st with resp := data.take 2048, stat := st.code, rlen := min data.length 2048, busy := false, rung := false, valid := true } ∧
  (∀ q, q ≠ p → t.page q = s.page q) ∧ p ∉ t.hr.doorbells ∧ Pending t .host (32 + p.toNat) = true

/-- A read: page p is answered OK, and nothing but HR and the interrupt targets differs. -/
def ReadAnswered (s t : State) (p : BitVec 7) (data : Bytes) : Prop :=
  Answered s t p .ok data ∧ { t with hr := s.hr, evc := s.evc } = s

/-- A read that answers with fields and an object (R474, R476, R481): in the response where it fits, else NEEDS_BULK with its
length; as a copy of which segments follow; or by DMA into the partition's window. -/
def ObjectAnswered (s t : State) (p : BitVec 7) (fields obj : Bytes) : Prop :=
  let x := s.page p
  { t with hr := s.hr, evc := s.evc, recd := s.recd } = s ∧
  ((x.bulk && x.toHost) = false →
    if fields.length + obj.length ≤ 2048 then Answered s t p .ok (fields ++ obj) else Answered s t p .needsBulk (leBytes 4 obj.length)) ∧
  (x.bulk = true → x.toHost = true → x.segm = true →
    (t.page p).object = some obj ∧ (t.page p).objFields = fields ∧ (t.page p).blen = BitVec.ofNat 32 obj.length ∧
    (t.page p).resp = (fields ++ obj.take (2048 - fields.length)).take 2048 ∧ (t.page p).stat = Stat.ok.code ∧ (t.page p).busy = false ∧
    (t.page p).valid = true) ∧
  (x.bulk = true → x.toHost = true → x.segm = false → s.hr.pcie = true → dmaInWindow s p obj.length = true →
    (t.page p).object = some obj ∧ (t.page p).objFields = fields ∧ (t.page p).blen = BitVec.ofNat 32 obj.length ∧ (t.page p).busy = true)

/-- Nothing but page p of HR, the interrupt targets and the recorder differs. -/
def OnlyPage (p : BitVec 7) (s t : State) : Prop :=
  { t with hr := s.hr, evc := s.evc, recd := s.recd } = s ∧ { t.hr with pages := s.hr.pages, doorbells := s.hr.doorbells } = s.hr ∧
  ∀ q, q ≠ p → t.page q = s.page q

/-- The change log of the CURRENT configuration slot (R452). -/
def currentLog (g : Img) : List (BitVec 7 × Nat × Bytes) := if cfgCurrent1 g then g.cfgLog1 else g.cfgLog0

/-- The accepted request is in the change log of the configuration, with its partition, its code and its bytes: at once, unless the
supplies are failing (R365, R452). -/
def Logged (s t : State) (p : BitVec 7) (q : Request) : Prop :=
  t.img = (logConfig s p q.1 q.2).img ∧ (s.dev.cutoff = false → currentLog t.img = currentLog s.img ++ [(p, q.1, q.2)])

/-- A configuration command is accepted: page p is answered OK, and the request is logged. -/
def Accepted (s t : State) (p : BitVec 7) (q : Request) : Prop := Answered s t p .ok [] ∧ Logged s t p q

/-- A configuration command of channel n is accepted, and beside its page and the log nothing but that channel, the interrupt
targets and the recorder differs. -/
def ChannelAccepted (n : Nat) (q : Request) (s t : State) : Prop :=
  Accepted s t 0 q ∧ { t with chans := s.chans, evc := s.evc, recd := s.recd, hr := s.hr, img := s.img } = s ∧
  ∀ m, m ≠ n → t.chan m = s.chan m

/-- A write of channel n is accepted; while a frame is on the bus or the mapping unit holds a buffer, it waits behind the writes
before it and changes nothing of the channel (R228). -/
def WriteTaken (n : Nat) (q : Request) (w : ChanWrite) (s t : State) : Prop :=
  Accepted s t 0 q ∧
  ((s.chan n).between = false → ChannelAccepted n q s t ∧ t.chan n = { s.chan n with writes := (s.chan n).writes ++ [w] })

/-- Between two frames, with no write waiting: a write of channel n takes effect at once (R228). -/
def ActsAtOnce (ch : Channel) : Prop := NoWrites ch ∧ ch.between = true

/-- A configuration command of NR is accepted, and beside its page, the log and NR nothing but the interrupt targets differs. -/
def NetAccepted (p : BitVec 7) (q : Request) (s t : State) : Prop :=
  Accepted s t p q ∧ { t with net := s.net, evc := s.evc, hr := s.hr, img := s.img } = s

/-- The command presents one group to the sequencer's queue of the ACTIVE region, and its page stays busy until the group is
applied (R186). -/
def Presented (s t : State) (p : BitVec 7) (items : List Item) : Prop :=
  t.page p = { s.page p with busy := true, valid := false } ∧ (∀ q, q ≠ p → t.page q = s.page q) ∧
  ((s.page p).rung = true → p ∉ t.hr.doorbells) ∧
  (let q := sourceQueue (.mgmt s.pair.active)
   t.queue q = (s.setInput q ((s.queue q).submit s.time.dtime
     { items := items, page := some (p, (s.page p).seqNo), arr := s.time.dtime })).queue q ∧
   ∀ j, j ≠ q → t.queue j = s.queue j)

/-- A request that only presents a group. -/
def GroupPresented (s t : State) (p : BitVec 7) (items : List Item) : Prop :=
  Presented s t p items ∧ { t with hr := s.hr, fab := s.fab } = s

/-- A configuration request that only presents a group and is logged. -/
def ConfigPresented (s t : State) (p : BitVec 7) (req : Request) (items : List Item) : Prop :=
  Presented s t p items ∧ Logged s t p req ∧ { t with hr := s.hr, fab := s.fab, img := s.img } = s

/-- Every check of a list passes. -/
def Passes (l : List (Bool × Stat)) : Prop := l.all Prod.fst = true

/-- The page of a request that R479 gives to partition 0 alone. -/
def zeroOnly : Instr → Option (BitVec 7)
  | .contactSheet p | .healthClear p | .autoRejoin p _ | .rejoin p _ | .regionOut p _ | .roleSwap p | .route p _ _
  | .lostAtReset p _ | .grantWrite p _ _ | .partitionSet p _ _ | .dmaWindow p _ _ _ | .loopAssign p _ _ _ | .pointOwner p _ _
  | .attrWrite p _ _ _ | .attrRead p _ | .limitWrite p _ _ | .interlockWrite p _ _ | .interlockAck p _ | .interlockRead p _
  | .lioConfig p _ _ | .channelWrite p _ _ | .filterWrite p _ _ _ | .rxbufConfig p _ _ _ | .mappingWrite p _ _ _
  | .txbufWrite p _ _ _ _ _ _ | .emergencyWrite p _ _ _ _ _ _ | .stationWrite p _ _ _ | .channelRecover p _ | .tmRestart p _
  | .rawFrameRead p _ _ | .rawFrameSend p _ _ _ _ | .channelCounters p _ _ _ | .vellekWrite p _ | .vstationWrite p _ _
  | .vblockWrite p _ _ | .vstationCounters p _ | .stationState p _ | .portWrite p _ _ | .pairWrite p _ _
  | .nfilterWrite p _ _ | .phyRead p _ _ _ _ | .phyWrite p _ _ _ _ | .timeWrite p _ _ | .ptpRead p _ | .ptpWrite p _ _
  | .latencyWrite p _ _ _ _ | .macsecConfig p _ _ _ _ _ _ _ | .recRead p _ _ | .recFreeze p | .recThaw p | .imageWrite p _ _
  | .updateStart p _ | .updateContinue p | .updateCancel p | .slotStatus p | .srStatus p | .selftest p _ => some p
  | _ => none

/-! ### The recorder and the referee (R197 to R202, R391) -/

/-- The event is in the recorder's input queue, unless the ring is frozen, the supplies are failing or the queue was full (R396,
R399). -/
def Submitted (s t : State) (src code p1 p2 p3 : Nat) : Prop :=
  s.recd.frozen = false → s.dev.cutoff = false → s.recd.inq.length < 1024 →
    mkRecord s src code (BitVec.ofNat 32 p1) (BitVec.ofNat 32 p2) (BitVec.ofNat 32 p3) ∈ t.recd.inq

/-- An event of a source whose code and parameters the spec leaves open joins the recorder's input queue, under the same conditions:
its code is of an area that R401 uses (log entry 73). -/
def SubmittedOpen (s t : State) (src : Nat) : Prop :=
  s.recd.frozen = false → s.dev.cutoff = false → s.recd.inq.length < 1024 →
    ∃ e, (s.recd.inq ++ [e]) <+: t.recd.inq ∧ e.src = BitVec.ofNat 4 src ∧ e.opTime = s.dev.opTime ∧ 1 ≤ e.code.toNat / 4096 ∧
      e.code.toNat / 4096 ≤ 8

/-- A group with these items stands in the source's input queue or waits there for credit, unless the crossing is DEAD (R30, R352). -/
def SentFrom (s t : State) (x : Source) (items : List Item) : Prop :=
  (s.queue (sourceQueue x)).dead = false →
    ∃ g ∈ (t.queue (sourceQueue x)).held ++ (t.queue (sourceQueue x)).waiting, g.items = items

/-- An integer point's value as a number (R41). -/
def pointNum (ty : Nat) (v : W32) : Int := if ty = tyInt then v.toInt else v.toNat

/-- The largest value of an integer type. -/
def mostNum (ty : Nat) : Int := if ty = tyInt then 2 ^ 31 - 1 else 2 ^ 32 - 1
/-- The smallest value of an integer type. -/
def leastNum (ty : Nat) : Int := if ty = tyInt then -2 ^ 31 else 0

/-- What a region's fixer releases for a run whose journal is j: each entry, in journal order; nothing for an aborted one (R93, R99). -/
def runReleases (r : Region) (w : WorkRef) (tick : W64) (j : List W64) : List Release :=
  if journalAbort j then [] else (journalBody j).filterMap (entryRelease r w tick)

/-- The FIXED notice of a run whose journal is j, with its events, or aborted (R93, R99, R100). -/
def runNotice (slot : BitVec 9) (no : W32) (j : List W64) : Notice :=
  if journalAbort j then .fixed slot no .aborted []
  else .fixed slot no .fixed (((journalBody j).filter (fun e => entryKind e == 4)).map (fun e => (BitVec.ofNat 9 (entryTarget e), (e.setWidth 16 : BitVec 16))))

/-- No fixer has decided the work. -/
def undecided (s : State) (w : WorkRef) : Bool :=
  match w with
  | .run slot no => (findRun s.image slot no).map Run.decided == some false
  | .sample slot tick => (findSample s.image slot tick).map Sample.decided == some false

/-- The fixer of region er sends the releases and the notice that result j of the work gives (R93, R180, R200). -/
def ResultReleased (s t : State) (er : Er) (w : WorkRef) (j : List W64) : Prop :=
  match w with
  | .run slot no => ∃ x, findRun s.image slot no = some x ∧ t.rel er = s.rel er ++ runReleases (s.region er) w x.tick j ∧
      (s.notices er ++ [runNotice slot no j]) <+: t.notices er ∧ ∀ y, findRun (t.region er) slot no = some y → y.decided = true
  | .sample slot tick => ∃ x, findSample s.image slot tick = some x ∧
      t.rel er = s.rel er ++ [fixerValue (s.region er) w (bits (look 0 x.words 2) 19 0) ((j.getD 0 0).setWidth 32) tick] ∧
      ∀ y, findSample (t.region er) slot tick = some y → y.decided = true ∧ y.discarded = false

/-- The fixer of region er releases nothing of the work, and sends that it is discarded (R99, R181, R200). -/
def ResultDiscarded (s t : State) (er : Er) (w : WorkRef) : Prop :=
  t.rel er = s.rel er ∧
  (match w with
   | .run slot no => (s.notices er ++ [.fixed slot no .discarded []]) <+: t.notices er ∧ ∀ y, findRun (t.region er) slot no = some y → y.decided = true
   | .sample slot tick => ∀ y, findSample (t.region er) slot tick = some y → y.decided = true ∧ y.discarded = true)

/-- R200: a result in time is released by the fixer of region er, and any other is discarded. -/
def ResultTaken (inTime : Bool) (s t : State) (er : Er) (w : WorkRef) (j : List W64) : Prop :=
  if inTime then ResultReleased s t er w j else ResultDiscarded s t er w

/-- The block of a first execution is in service and has a spare to take its place (R199, R204). -/
def TestReady (s : State) (er : Er) (b : Nat) : Prop :=
  (s.block b).state = .inService ∧ segmented (blkKind b) = false ∧ blkRegion b = erNum er ∧ spareOf s (erNum er) (blkKind b) ≠ none

/-- The block takes its targeted self-test (R199). -/
def TakesTest (t : State) (b : Nat) : Prop := (t.block b).state = .underTest ∧ (t.block b).targeted = true

/-! ### Canonical tables -/

/-- The tables of a region that a step lemma keeps canonical. -/
def RegionCanonical (r : Region) : Prop :=
  tableWf 0 r.image = true ∧ tableWf 0 r.stamps = true ∧ tableWf ({} : Engine) r.engines = true ∧ tableWf ([] : Mem) r.vars = true ∧
  tableWf ({} : Loop) r.loops = true ∧ tableWf (none : Option Change) r.changes = true ∧ tableWf (none : Option Program) r.waiting = true

/-- These tables of the state are in their one canonical form: keys rising, no entry equal to what an unlisted key reads as. -/
def Canonical (s : State) : Prop :=
  tableWf ({} : FQueue) s.fab.queues = true ∧ tableWf ({} : Block) s.health.blocks = true ∧ tableWf ({} : Block) s.health.mram = true ∧
  tableWf ({} : Page) s.hr.pages = true ∧ tableWf 0 s.hr.holds = true ∧ tableWf (none : Option Transfer) s.img.transfers = true ∧
  tableWf ({} : Channel) s.chans = true ∧ (∀ n, ChannelWf (s.chan n)) ∧ tableWf ({} : NQueue) s.net.queues = true ∧
  tableWf ({} : VStation) s.net.vstations = true ∧ (∀ q, tableWf 0 (s.nq q).counters = true) ∧ (∀ v, tableWf 0 (s.vst v).counters = true) ∧
  (∀ p, tableWf 0 (s.port p).counters = true) ∧ ∀ er, RegionCanonical (s.region er)

/-! ### Golup (R115 to R134) -/

/-- The tables of an engine are canonical. -/
def EngineWf (e : Engine) : Prop :=
  tableWf 0 e.w = true ∧ tableWf 0 e.readyW = true ∧ tableWf 0 e.readyC = true ∧ tableWf 0 e.loadW = true ∧
  tableWf none e.outs = true ∧ tableWf none e.sps = true ∧ tableWf none e.banks = true ∧ tableWf 0 e.evs = true ∧
  Mem.wf e.scr = true ∧ Mem.wf e.view = true

/-- The tables a Golup instruction works on are canonical: the region's variables, and its engines. -/
def GolupWf (r : Region) : Prop :=
  tableWf ({} : Engine) r.engines = true ∧ tableWf ([] : Mem) r.vars = true ∧ (∀ slot, Mem.wf (look [] r.vars slot) = true) ∧ ∀ n, EngineWf (engineOf r n)

/-- Engine `id` holds run context `c`, in a powered part whose tables are canonical. -/
def OnEngine (s : State) (id : EngId) (c : Ctx) : Prop :=
  s.powered = true ∧ GolupWf (s.region id.er) ∧ ctxOf (s.region id.er) id.n = some c

/-- The engine of a Golup instruction. -/
def golupEngine : Instr → Option EngId
  | .mov e _ | .movu e _ | .movh e _ | .add e _ | .sub e _ | .adds e _ | .subs e _ | .negW e _ | .absW e _ | .minW e _
  | .maxW e _ | .andW e _ | .orW e _ | .xorW e _ | .andn e _ | .notW e _ | .shl e _ | .shr e _ | .sar e _ | .ext e _
  | .mul e _ | .muls e _ | .div e _ | .modW e _ | .fma e _ | .sqrt e _ | .cvt e _ | .limit e _ | .scale e _ | .mux e _
  | .sel e _ | .ceq e _ | .cne e _ | .clt e _ | .cle e _ | .cgt e _ | .cge e _ | .cltu e _ | .cleu e _ | .cgtu e _
  | .cgeu e _ | .btst e _ | .clog e _ | .movc e _ | .rdf e _ | .ld e _ | .st e _ | .br e _ | .call e _ | .ret e _
  | .endRun e _ | .out e _ | .lsp e _ | .lbank e _ | .event e _ | .ton e _ | .tof e _ | .tp e _ | .ctu e _ | .ctd e _
  | .ctud e _ | .rtrig e _ | .ftrig e _ | .sr e _ | .rs e _ | .ramp e _ => some e
  | _ => none

/-- A row of R121 in format O, M, B, J or F: its constructor over the format's fields, what it reads, writes and holds (R122),
what it gives, and its columns Issue and Result, each 1 unless stated. -/
structure OperateRow (φ β : Type) where
  instr : EngId → φ → Instr
  need : φ → Ctx → Need
  value : φ → Ctx → β
  issue : φ → Nat := fun _ => 1
  result : φ → Nat := fun _ => 1

/-- Reads `WA` and operand B, writes `WD`. -/
def needAB (f : OFields) (_ : Ctx) : Need := { regs := f.wa.toNat :: regsB f, writes := [f.wd.toNat] }

/-- Reads `WA`, writes `WD`. -/
def needA (f : OFields) (_ : Ctx) : Need := { regs := [f.wa.toNat], writes := [f.wd.toNat] }

/-- Reads nothing, writes `WD`. -/
def needW (f : OFields) (_ : Ctx) : Need := { writes := [f.wd.toNat] }

/-- Reads `WA`, `WB` and the register after `WB`, writes `WD`. -/
def needTriple (f : OFields) (_ : Ctx) : Need := { regs := [f.wa.toNat, f.wb.toNat, f.wb.toNat + 1], writes := [f.wd.toNat] }

/-- Reads `WA` and operand B, writes `CB`. -/
def needTest (f : OFields) (_ : Ctx) : Need := { regs := f.wa.toNat :: regsB f }

/-- A value of `WA` and operand B. -/
def ofAB {β : Type} (g : Ty → W64 → W64 → β) (f : OFields) (c : Ctx) : β := g f.ty (c.e.reg f.wa.toNat) (operandB c.e f)

/-- A value of `WA`. -/
def ofA {β : Type} (g : Ty → W64 → β) (f : OFields) (c : Ctx) : β := g f.ty (c.e.reg f.wa.toNat)

/-- A column that gives one number for the integer types and one for the real types. -/
def intReal (i r : Nat) (f : OFields) : Nat := if isReal f.ty then r else i

/-- The columns of DIV, MOD and SQRT. -/
def longCycles (f : OFields) : Nat :=
  match f.ty with
  | .int32 => 18
  | .int64 => 34
  | .time => 34
  | .real32 => 14
  | .real64 => 28
  | .bool => 34

/-- A value with a clear status. -/
def plain (g : Ty → W64 → W64 → W64) (ty : Ty) (a b : W64) : W64 × Bool := (g ty a b, false)

/-- The rows of R121 in format O that write `WD`: moves and selections. -/
def moveRows : List (OperateRow OFields (W64 × Bool)) :=
  [{ instr := .mov, need := fun f _ => { regs := regsB f, writes := [f.wd.toNat] }, value := fun f c => (copyResult f.ty (operandB c.e f), false) },
   { instr := .movu, need := needW, value := fun f _ => (BitVec.ofNat 64 f.imm.toNat, false) },
   { instr := .movh, need := needA, value := fun f c => (BitVec.ofNat 64 (f.imm.toNat * 2 ^ 32 + (c.e.reg f.wa.toNat).toNat % 2 ^ 32), false) },
   { instr := .movc, need := fun f _ => { conds := [f.cb.toNat], writes := [f.wd.toNat] }, value := fun f c => (if c.e.cond f.cb.toNat then 1 else 0, false) },
   { instr := .rdf, need := needW, value := fun _ c => (BitVec.ofNat 64 c.e.faults.toNat, false) },
   { instr := .sel, need := fun f _ => { regs := f.wa.toNat :: regsB f, conds := [f.cb.toNat], writes := [f.wd.toNat] },
     value := fun f c => (copyResult f.ty (if c.e.cond f.cb.toNat then operandB c.e f else c.e.reg f.wa.toNat), false) },
   { instr := .mux, need := fun f c => { regs := [f.wa.toNat, f.wb.toNat + muxIndex (c.e.reg f.wa.toNat) f.imm], writes := [f.wd.toNat] },
     value := fun f c =>
       let k := muxIndex (c.e.reg f.wa.toNat) f.imm
       (copyResult f.ty (c.e.reg (f.wb.toNat + k)), decide ((c.e.reg f.wa.toNat).toInt ≠ (k : Int))) }]

/-- The rows of R121 in format O that write `WD`: arithmetic. -/
def arithmeticRows : List (OperateRow OFields (W64 × Bool)) :=
  [{ instr := .add, need := needAB, value := ofAB addResult, result := intReal 1 4 }, { instr := .sub, need := needAB, value := ofAB subResult, result := intReal 1 4 },
   { instr := .adds, need := needAB, value := ofAB addsResult }, { instr := .subs, need := needAB, value := ofAB subsResult },
   { instr := .mul, need := needAB, value := ofAB mulResult, result := intReal 3 4 }, { instr := .muls, need := needAB, value := ofAB mulsResult, result := fun _ => 3 },
   { instr := .div, need := needAB, value := ofAB divResult, issue := longCycles, result := longCycles }, { instr := .modW, need := needAB, value := ofAB modResult, issue := longCycles, result := longCycles },
   { instr := .minW, need := needAB, value := ofAB minResult, result := intReal 1 2 }, { instr := .maxW, need := needAB, value := ofAB maxResult, result := intReal 1 2 },
   { instr := .negW, need := needA, value := ofA negResult }, { instr := .absW, need := needA, value := ofA absResult },
   { instr := .sqrt, need := needA, value := ofA sqrtResult, issue := longCycles, result := longCycles },
   { instr := .cvt, need := needA, result := fun _ => 3,
     value := fun f c => cvtResult f.ty ((tyOf (f.imm.toNat % 8)).getD .int32) (bit f.imm 3) (c.e.reg f.wa.toNat) },
   { instr := .fma, need := fun f _ => { regs := f.wd.toNat :: f.wa.toNat :: regsB f, writes := [f.wd.toNat] },
     value := fun f c => fmaResult f.ty (c.e.reg f.wa.toNat) (operandB c.e f) (c.e.reg f.wd.toNat), result := fun _ => 5 },
   { instr := .limit, need := needTriple, result := intReal 1 2,
     value := fun f c => limitResult f.ty (c.e.reg f.wa.toNat) (c.e.reg f.wb.toNat) (c.e.reg (f.wb.toNat + 1)) },
   { instr := .scale, need := needTriple, result := fun _ => 5,
     value := fun f c => scaleResult f.ty (c.e.reg f.wa.toNat) (c.e.reg f.wb.toNat) (c.e.reg (f.wb.toNat + 1)) }]

/-- The rows of R121 in format O that write `WD`: bitwise instructions and shifts. -/
def bitwiseRows : List (OperateRow OFields (W64 × Bool)) :=
  [{ instr := .andW, need := needAB, value := ofAB (plain (fun ty a b => holdBits ty (a &&& b))) },
   { instr := .orW, need := needAB, value := ofAB (plain (fun ty a b => holdBits ty (a ||| b))) },
   { instr := .xorW, need := needAB, value := ofAB (plain (fun ty a b => holdBits ty (a ^^^ b))) },
   { instr := .andn, need := needAB, value := ofAB (plain (fun ty a b => holdBits ty (a &&& ~~~b))) },
   { instr := .notW, need := needA, value := ofA (fun ty a => (holdBits ty (~~~a), false)) },
   { instr := .shl, need := needAB, value := ofAB (plain shlResult) },
   { instr := .shr, need := needAB, value := ofAB (plain shrResult) },
   { instr := .sar, need := needAB, value := ofAB (plain sarResult) },
   { instr := .ext, need := needA, value := fun f c => (extResult (c.e.reg f.wa.toNat) f.imm, false) }]

/-- The 33 rows of R121 in format O that write `WD`. -/
def operateRows : List (OperateRow OFields (W64 × Bool)) := moveRows ++ arithmeticRows ++ bitwiseRows

/-- The 12 rows of R121 in format O that write `CB` alone. -/
def testRows : List (OperateRow OFields Bool) :=
  [{ instr := .ceq, need := needTest, value := ofAB (compare .eq) }, { instr := .cne, need := needTest, value := ofAB (compare .ne) },
   { instr := .clt, need := needTest, value := ofAB (compare .lt) }, { instr := .cle, need := needTest, value := ofAB (compare .le) },
   { instr := .cgt, need := needTest, value := ofAB (compare .gt) }, { instr := .cge, need := needTest, value := ofAB (compare .ge) },
   { instr := .cltu, need := needTest, value := ofAB (compareU .lt) }, { instr := .cleu, need := needTest, value := ofAB (compareU .le) },
   { instr := .cgtu, need := needTest, value := ofAB (compareU .gt) }, { instr := .cgeu, need := needTest, value := ofAB (compareU .ge) },
   { instr := .btst, need := fun f _ => { regs := [f.wa.toNat] }, value := fun f c => (c.e.reg f.wa.toNat).toNat.testBit (f.imm.toNat % 64) },
   { instr := .clog, need := fun f _ => { conds := [f.wa.toNat % 8, f.wb.toNat % 8] },
     value := fun f c => f.imm.toNat.testBit (2 * (c.e.cond f.wa.toNat).toNat + (c.e.cond f.wb.toNat).toNat) }]

/-- A row of format F: what it reads and its scan, with the opcode, which is the instance's `KIND` (R119, R129). -/
structure BlockRow extends OperateRow FFields (FbIn → FbInst → FbOut) where
  kind : Nat

/-- What a function block reads, writes and holds (R122). -/
def needBlock (regs conds : FFields → List Nat) (f : FFields) (_ : Ctx) : Need :=
  { regs := f.wa.toNat :: regs f, conds := conds f, writes := [f.wd.toNat], slots := 2 }

/-- The 11 rows of R121 in format F (R130 to R134). -/
def blockRows : List BlockRow :=
  let wb (f : FFields) : List Nat := [f.wb.toNat]
  [{ instr := .ton, kind := 0x80, issue := fun _ => 38, result := fun _ => 38, need := needBlock wb (fun f => [f.ci.toNat]), value := fun _ _ => timerScan tonRule },
   { instr := .tof, kind := 0x81, issue := fun _ => 38, result := fun _ => 38, need := needBlock wb (fun f => [f.ci.toNat]), value := fun _ _ => timerScan tofRule },
   { instr := .tp, kind := 0x82, issue := fun _ => 38, result := fun _ => 38, need := needBlock wb (fun f => [f.ci.toNat]), value := fun _ _ => timerScan tpRule },
   { instr := .ctu, kind := 0x84, issue := fun _ => 38, result := fun _ => 38, need := needBlock wb (fun f => [f.ci.toNat, f.ck.toNat]), value := fun _ _ => ctuScan },
   { instr := .ctd, kind := 0x85, issue := fun _ => 38, result := fun _ => 38, need := needBlock wb (fun f => [f.ci.toNat, f.cl.toNat]), value := fun _ _ => ctdScan },
   { instr := .ctud, kind := 0x86, issue := fun _ => 38, result := fun _ => 38, need := needBlock wb (fun f => [f.ci.toNat, f.cj.toNat, f.ck.toNat, f.cl.toNat]), value := fun _ _ => ctudScan },
   { instr := .rtrig, kind := 0x88, issue := fun _ => 34, result := fun _ => 34, need := needBlock (fun _ => []) (fun f => [f.ci.toNat]), value := fun _ _ => rtrigScan },
   { instr := .ftrig, kind := 0x89, issue := fun _ => 34, result := fun _ => 34, need := needBlock (fun _ => []) (fun f => [f.ci.toNat]), value := fun _ _ => ftrigScan },
   { instr := .sr, kind := 0x8A, issue := fun _ => 34, result := fun _ => 34, need := needBlock (fun _ => []) (fun f => [f.ci.toNat, f.ck.toNat]), value := fun _ _ => srScan },
   { instr := .rs, kind := 0x8B, issue := fun _ => 34, result := fun _ => 34, need := needBlock (fun _ => []) (fun f => [f.ci.toNat, f.ck.toNat]), value := fun _ _ => rsScan },
   { instr := .ramp, kind := 0x8C, issue := fun _ => 44, result := fun _ => 44, need := needBlock (fun f => [f.wb.toNat, f.wb.toNat + 1, f.wb.toNat + 2]) (fun f => [f.ck.toNat]),
     value := fun f _ => rampScan f.ty }]

/-- An instruction with this need issues before the run's watchdog limit (R100, R122). -/
def InTime (n : Need) (c : Ctx) : Prop := issueCycle c.e n < watchdogLimit c.k

/-- Every work register but those of `ws` reads as before. -/
def RegsKept (ws : List Nat) (e e' : Engine) : Prop := ∀ n, n ∉ ws → e'.reg n = e.reg n

/-- Every condition bit but those of `cs` reads as before. -/
def CondsKept (cs : List Nat) (e e' : Engine) : Prop := ∀ n, n < 8 → n ∉ cs → e'.cond n = e.cond n

/-- The parts of an engine that no instruction in progress changes: its run, and what it holds beside registers, condition bits,
position, time, scratch memory and journal buffer. -/
def EngineRestKept (e e' : Engine) : Prop :=
  e'.running = e.running ∧ e'.redo = e.redo ∧ e'.slot = e.slot ∧ e'.run = e.run ∧ e'.part = e.part ∧ e'.leaving = e.leaving ∧ e'.lines = e.lines

/-- Nothing is written to VAR: the signature of its writes and the overlay of a re-execution stay (R197, R198). -/
def OverlayKept (e e' : Engine) : Prop := e'.sig = e.sig ∧ e'.view = e.view

/-- n bytes at a are written to VAR: the signature takes them, as they then read; the overlay changes in a re-execution alone (R197,
R198). -/
def OverlaySigned (e e' : Engine) (v : Mem) (a n : Nat) : Prop :=
  e'.sig = signBytes e.sig a n ((List.range n).map (fun k => v.read (a + k))) ∧ (e.redo = false → e'.view = e.view)

/-- No result and no load is pending that was not before. -/
def ReadyKept (e e' : Engine) : Prop := e'.readyW = e.readyW ∧ e'.readyC = e.readyC ∧ e'.loadW = e.loadW

/-- Slots in use after an access that issues at `at_` and holds slots up to the given cycles (R122). -/
def SlotsHeld (e e' : Engine) (at_ : Nat) (until_ : List Nat) : Prop := e'.busy = e.busy.filter (fun t => decide (at_ < t)) ++ until_

/-- The journal buffer of an engine (R127). -/
def JournalKept (e e' : Engine) : Prop := e'.outs = e.outs ∧ e'.sps = e.sps ∧ e'.banks = e.banks ∧ e'.evs = e.evs

/-- A Golup instruction that stores nothing outside its engine: every other region, engine, run and variable is as before. -/
def GolupFrame (id : EngId) (s t : State) : Prop :=
  OnlyRegion id.er s t ∧
  (let r := s.region id.er
   let r' := t.region id.er
   { r' with engines := r.engines, runs := r.runs, kept := r.kept, vars := r.vars } = r ∧
   (∀ m, m ≠ id.n → engineOf r' m = engineOf r m) ∧
   (∀ slot no, findRun r' slot no = findRun r slot no) ∧
   ∀ slot, look [] r'.vars slot = look [] r.vars slot)

/-- The variables a run's instructions see: the task's area, or the overlay of a re-execution (R198). -/
def seenVars (r : Region) (n : Nat) (c : Ctx) : Mem := if c.e.redo then (engineOf r n).view else look [] r.vars c.x.slot.toNat

/-- The run of context c, and nothing else of the region but engine n and that run's variables, differs. -/
def GolupStoreFrame (id : EngId) (c : Ctx) (s t : State) : Prop :=
  OnlyRegion id.er s t ∧
  (let r := s.region id.er
   let r' := t.region id.er
   { r' with engines := r.engines, runs := r.runs, kept := r.kept, vars := r.vars } = r ∧
   (∀ m, m ≠ id.n → engineOf r' m = engineOf r m) ∧
   (∀ slot no, ¬(slot = c.x.slot ∧ no = c.x.no) → findRun r' slot no = findRun r slot no) ∧
   ∀ slot, (slot ≠ c.x.slot.toNat ∨ c.e.redo = true) → look [] r'.vars slot = look [] r.vars slot)

/-- A run that ends at duration d: its journal is closed (R127, R128), a re-execution's beside the first (R198). -/
def closedRun (c : Ctx) (d : Nat) (abort : Bool) : Run :=
  let j := journalEntries c.k c.e ++ closeWords d abort c.e.faults
  if c.e.redo then { c.x with second := j, sig2 := c.e.sig } else { c.x with journal := j, sig := c.e.sig, phase := .closed }

/-- The run of context c has ended: its journal is closed, its engine is free, and no variable changes. -/
def RunEnded (id : EngId) (c : Ctx) (d : Nat) (abort : Bool) (s t : State) : Prop :=
  GolupStoreFrame id c s t ∧
  (let r' := t.region id.er
   (engineOf r' id.n).running = false ∧ findRun r' c.x.slot c.x.no = some (closedRun c d abort) ∧
   ∀ slot, look [] r'.vars slot = look [] (s.region id.er).vars slot)

end Sys2Proof.Machine
end

