-- ==== Sys2Proof/Certificates/Slice0/Obligations.lean ====
section
/-! DEFINITION. The statements for the provers: what the rules of the spec say that the commands of the block do. -/

open Sys2Proof Sys2Proof.Machine
/-! ### The queue of commands, the CORE edge and reset -/

/-- A step takes the command at the front of the queue and runs it with the queue's rest; on an empty queue the block goes
through one CORE edge, at which the ledgers check themselves (the model's choice, log entry 1). -/
def Obligations.StepRunsTheFrontCommand : Prop :=
  (∀ (s : State) (c : Instr) (rest : List Instr), s.pending = c :: rest → step s = exec c { s with pending := rest }) ∧
  ∀ s : State, s.pending = [] → step s = .next (idleEdge s)

/-- No command is refused. Every command that is well formed (the unit it names exists, its Golup word passes the checks on a
word alone) answers a next state, in every state; every other one ends in a fault of the model (log entry 72). -/
def Obligations.WellFormedCommandsComplete : Prop :=
  (∀ (c : Instr) (s : State), c.wf = true → ∃ t, exec c s = .next t) ∧
  (∀ (c : Instr) (s : State), c.wf = false → ∃ f, exec c s = .fault f) ∧
  ∀ (c : Instr) (s : State) (r : Refusal), exec c s ≠ .refused r

/-- R310: at a CORE edge with RATE and SLEWMAX within the ranges of R309, DTIME with its fraction advances by 0.8 ns within
3 * 10^-4 of it, so it never stands still and never runs backwards; the remainder of a slew never grows and never changes
sign; RATE, SLEWMAX and, while no ledger is violated (R34), everything outside the time unit and AR's counters stay. -/
def Obligations.DtimeAdvancesAtEveryCoreEdge : Prop :=
  ∀ s : State, s.pending = [] → s.powered = true → LedgersHold s → -200000000 ≤ s.time.rate.toInt → s.time.rate.toInt ≤ 200000000 →
    s.time.slewMax.toNat ≤ 100000000 → s.time.dtime.toNat + 1 < 2 ^ 64 →
    ∃ t, step s = .next t ∧ { t with time := s.time, dev := s.dev } = s ∧
      t.time.rate = s.time.rate ∧ t.time.slewMax = s.time.slewMax ∧
      (let adv : Int := (t.time.full : Int) - (s.time.full : Int)
       7997600 * 2 ^ 40 ≤ (adv + 2) * 10 ^ 7 ∧ (adv - 2) * 10 ^ 7 ≤ 8002400 * 2 ^ 40 ∧ 0 < adv) ∧
      (0 ≤ s.time.slewRem → 0 ≤ t.time.slewRem ∧ t.time.slewRem ≤ s.time.slewRem) ∧
      (s.time.slewRem ≤ 0 → t.time.slewRem ≤ 0 ∧ s.time.slewRem ≤ t.time.slewRem) ∧
      (s.time.slewRem = 0 → t.time.slewRem = 0) ∧ t.dev.dstate = s.dev.dstate

/-- What reset leaves, of the values that the spec gives: the device status block at entry into START, the time unit, the
interrupt targets, the recorder's control word, the empty image, no program, no key and no command waiting; every table is in
canonical form. -/
def Obligations.ResetGivesTheStatedValues : Prop :=
  let s := State.reset
  s.pending = [] ∧ s.dev.dstate = .start ∧ bits s.dev.stateWord 31 29 = 2 ∧
  bits s.dev.stateWord 28 0 = 0 ∧ s.dev.changes = 0 ∧
  s.time.rate = 0 ∧ s.time.slewMax = 0 ∧ s.time.slewRem = 0 ∧ s.time.tstate = 0 ∧ s.time.stepped = false ∧
  (∀ t : Target, (s.target t).ctrl = 0 ∧ (s.target t).depth = 0 ∧ (s.target t).idle = true ∧
    ∀ g, (s.target t).maskWord g = 0xFFFFFFFF ∧ look 0 (s.target t).pend g = 0 ∧ look 0 (s.target t).undel g = 0) ∧
  s.recd.rwin = 10 ∧ s.recd.sevt = 3 ∧ s.recd.freeze = false ∧
  (∀ er : Er, (s.region er).image = [] ∧ (s.region er).programs = [] ∧ (s.region er).runs = []) ∧ s.sec.slots = [] ∧
  Canonical s

/-! ### The fabric, the input sequencer and a region's tick (R30 to R36, R45, R86 to R100) -/

/-- R30, R32, R34: completes queueWriteOnCredit and queueEntryRemoved, for every powered state and queue. A returned credit
arrives, and the producer that waits at an input queue of the sequencer writes as many entries as it then holds credits for, its
groups in order; at another queue it writes one entry. The consumer's removal of one entry gives one credit back (R30), which it
holds while the producer is in reset (R356). At a queue whose port holds an entry of a higher class, or one of its own class from a
region whose turn comes first, nothing is removed before that one (R26, R31), and a removal passes the port's turn on. At a queue that
the sequencer empties (its input queues) or fills (the staging queues) entries move by whole groups and tokens alone (R33), so there a
removal, and at a staging queue a credit, does nothing. Only the queue named and the turns change. That a credit is back at once, with
the occupancy that the producer then sees, is the model's choice (log entry 16), as is which class a queue has (log entry 3). -/
def Obligations.FabricQueueCommandsComplete : Prop :=
  ∀ (s : State) (qid : BitVec 16), s.powered = true → tableWf ({} : FQueue) s.fab.queues = true →
    (let q := s.queue qid.toNat
     let back := if q.flight > q.occ then 1 else 0
     let seen := if back = 1 then BitVec.ofNat 32 q.occ else q.lastSeen
     (isInputQueue qid.toNat = true → q.open = true → (∀ g ∈ q.waiting.head?, q.part < g.size) →
       ∃ t, exec (.queueWriteOnCredit qid) s = .next t ∧ { t with fab := s.fab } = s ∧ { t.fab with queues := s.fab.queues } = s.fab ∧
         (let u := t.queue qid.toNat
          let want := (q.waiting.map Group.size).sum - q.part
          let n := min (q.avail + back) want
          u.avail = q.avail + back - n ∧ u.flight = q.flight - back + n ∧ u.occ = q.occ + n ∧
          q.held <+: u.held ∧ (u.held ++ u.waiting).map Group.items = (q.held ++ q.waiting).map Group.items ∧
          (want ≤ q.avail + back → u.waiting = []) ∧ u.returned = q.returned + BitVec.ofNat 16 back ∧ u.lastSeen = seen ∧
          { u with avail := q.avail, flight := q.flight, occ := q.occ, held := q.held, waiting := q.waiting, part := q.part,
                   turn := q.turn, returned := q.returned, lastSeen := q.lastSeen } = q) ∧
         ∀ j, j ≠ qid.toNat → t.queue j = s.queue j) ∧
     (sequenced qid.toNat = false → q.open = true → 0 < q.avail + back →
       ∃ t, exec (.queueWriteOnCredit qid) s = .next t ∧ { t with fab := s.fab } = s ∧
         t.queue qid.toNat = { q with
           avail := q.avail + back - 1, flight := q.flight - back + 1, occ := q.occ + 1,
           returned := q.returned + BitVec.ofNat 16 back, lastSeen := seen } ∧
         ∀ j, j ≠ qid.toNat → t.queue j = s.queue j) ∧
     (sequenced qid.toNat = true → isInputQueue qid.toNat = false → exec (.queueWriteOnCredit qid) s = .next s) ∧
     (sequenced qid.toNat = true → exec (.queueEntryRemoved qid) s = .next s) ∧
     (sequenced qid.toNat = false → q.frozen = false → 0 < q.occ → q.waiting = [] →
       ∃ t, exec (.queueEntryRemoved qid) s = .next t ∧ { t with fab := s.fab } = s ∧ (outranked s qid.toNat = true → t = s) ∧
         { t.fab with queues := s.fab.queues, served := s.fab.served } = s.fab ∧
         (outranked s qid.toNat = false → t.fab.served = put 7 s.fab.served (fabricPort qid.toNat) (qid.toNat / 8192 % 8)) ∧
         (outranked s qid.toNat = false → q.armed = true → t.queue qid.toNat = { q with
           avail := q.avail + 1, flight := q.flight - 1, occ := q.occ - 1, removed := q.removed + 1, returned := q.returned + 1,
           lastSeen := BitVec.ofNat 32 (q.occ - 1) }) ∧
         (outranked s qid.toNat = false → q.armed = false → t.queue qid.toNat = { q with occ := q.occ - 1, removed := q.removed + 1 }) ∧
         ∀ j, j ≠ qid.toNat → t.queue j = s.queue j))

/-- R34: the queue ledger's invariant, capacity = available credits + credits in flight, no more entries held than are in flight,
and removals less returns equal to the credits on their way, is kept by every command of the fabric and the sequencer. R33: the
staging streams of two regions that are both written stay identical, entry by entry and token by token. -/
def Obligations.SequencingKeepsLedgersAndStreams : Prop :=
  (∀ (s t : State) (c : Instr), (∀ q, Ledger q (s.queue q)) → tableWf ({} : FQueue) s.fab.queues = true →
     ((∃ qid, c = .queueWriteOnCredit qid) ∨ (∃ qid, c = .queueEntryRemoved qid) ∨ c = .groupTaken ∨ c = .tickTokenInsert) →
     exec c s = .next t → ∀ q, Ledger q (t.queue q)) ∧
  (∀ (s t : State) (c : Instr), c = .tickTokenInsert ∨ c = .groupTaken → staged s .A = true → staged s .B = true →
     s.erA.staging = s.erB.staging → exec c s = .next t →
     t.erA.staging = t.erB.staging ∧ s.erA.staging <+: t.erA.staging)

/-- R33 rules 4 and 5, R86: completes tickTokenInsert and groupTaken, in RUN. At its boundary the sequencer inserts the next
tick's token into every staging queue that is written, one entry against one credit, exactly that tick and then the one after it,
bringing DTIME to the boundary where it had not reached it (the model's choice, log entry 1); a group is taken whole from the head of its queue when no token is
due, its entries' credits return to its queue, and it is written to every staging queue against as many credits. -/
def Obligations.SequencerCommandsComplete : Prop :=
  ∀ s : State, s.dev.dstate = .run → tableWf ({} : FQueue) s.fab.queues = true →
    (stagingRoom s 1 .A = true → stagingRoom s 1 .B = true → s.fab.nextTick.toNat * 10000 < 2 ^ 64 →
      ∃ t, exec .tickTokenInsert s = .next t ∧
        t.fab.nextTick = s.fab.nextTick + 1 ∧ t.fab.issued = s.fab.issued + 1 ∧ t.fab.taken = s.fab.taken ∧
        (∀ er, t.queue (stagingQueue er) = if staged s er then (s.queue (stagingQueue er)).write 1 else s.queue (stagingQueue er)) ∧
        (∀ j, j ≠ stagingQueue .A → j ≠ stagingQueue .B → t.queue j = s.queue j) ∧
        (∀ er, t.region er = if staged s er then { s.region er with staging := (s.region er).staging ++ [.token s.fab.nextTick] } else s.region er) ∧
        t.time.dtime.toNat = max s.time.dtime.toNat (s.fab.nextTick.toNat * 10000) ∧ t.pair = s.pair ∧ t.ir = s.ir ∧ t.hr = s.hr) ∧
    (∀ x g, tokenDue s = false → nextGroup s = some (x, g) → stagingRoom s g.size .A = true → stagingRoom s g.size .B = true →
      ∃ t, exec .groupTaken s = .next t ∧ { t with fab := s.fab, erA := s.erA, erB := s.erB } = s ∧
        t.fab.nextTick = s.fab.nextTick ∧ t.fab.issued = s.fab.issued ∧ t.fab.taken = s.fab.taken + 1 ∧
        (∀ er, t.region er = if staged s er then { s.region er with staging := (s.region er).staging ++ [.group g] } else s.region er) ∧
        (let q := s.queue (sourceQueue x)
         q.held.head? = some g ∧ t.queue (sourceQueue x) = ({ q with held := q.held.tail, turn := s.fab.taken + 1 }).remove g.size) ∧
        (∀ er, t.queue (stagingQueue er) = if staged s er then (s.queue (stagingQueue er)).write g.size else s.queue (stagingQueue er)) ∧
        ∀ j, j ≠ sourceQueue x → j ≠ stagingQueue .A → j ≠ stagingQueue .B → t.queue j = s.queue j)

/-- Completes applyPhase, exposure and runDispatch. R87, R88: in RUN, at a region whose staging stream is written, holds the next
token, and waits for no exposure, migration or flip of the tick before, APPLY_PHASE takes everything staged before that token,
stands at its tick with the image before it kept (an inherited run is exposed in its partner alone), and returns the credits of
what it took; the other region is unchanged, and DTIME stands where the phase begins, if it stood before (the model's choice, log
entry 1). R94, R96, R115: in a
powered device that holds a released run, EXPOSURE copies the point words of the first waiting run's list with AGE as of its
tick, or the word of R63 where the partition may not read (half of a COUNT48 pair: log entry 88); a denial counts in the other region
too where that one inherited the run; in RUN, RUN_DISPATCH hands the first exposed run to a free engine in
service, which starts with every register and condition bit zero, an empty stack and empty scratch lines at the task's entry. -/
def Obligations.ApplyExposureAndDispatchComplete : Prop :=
  (∀ (s : State) (er : Er) (d : Nat) (gs : List Group) (tk : W64) (rest : List Stage), s.dev.dstate = .run → staged s er = true →
     (s.region er).runs.all (fun x => x.phase != .waiting || x.inherited) = true → flipDue (s.region er) = false →
     splitStaging (s.region er).staging = some (gs, tk, rest) → awaitsMigration (s.region er) tk = false →
     tableWf ({} : FQueue) s.fab.queues = true → tk.toNat * 10000 + (d * 8 + 4) / 5 < 2 ^ 64 →
     ∃ t, exec (.applyPhase er d) s = .next t ∧
       (t.region er).tick = tk ∧ (t.region er).staging = rest ∧ (t.region er).applied = (s.region er).applied + 1 ∧
       (t.region er).prev = (s.region er).image ∧ t.region (otherEr er) = s.region (otherEr er) ∧ t.fab.nextTick = s.fab.nextTick ∧
       t.queue (stagingQueue er) = (s.queue (stagingQueue er)).remove (stagingSize (s.region er).staging - stagingSize rest) ∧
       t.time.dtime.toNat = max s.time.dtime.toNat (tk.toNat * 10000 + (d * 8 + 4) / 5)) ∧
  ((∀ (s : State) (er : Er) (x : Run) (k : Task), s.powered = true → flipDue (s.region er) = false → nextRun (s.region er) .waiting = some x →
     taskOf (s.region er) x.slot = some k → findRun (s.region er) x.slot x.no = some x →
     ∃ t, exec (.exposure er) s = .next t ∧
       (let r := s.region er
        let r' := t.region er
        let o := s.region (otherEr er)
        let denied := (k.xlist.filter (fun i => !mayRead r k.part.toNat i.toNat)).map (fun i => (k.part, k.slot, i))
        t.region (otherEr er) =
          (if s.duplex && ((findRun o x.slot x.no).map (fun y => y.inherited)).getD false then { o with denials := o.denials ++ denied } else o) ∧
        { r' with runs := r.runs, kept := r.kept, denials := r.denials } = r ∧
        findRun r' x.slot x.no = some { x with phase := .exposed, exposure := k.xlist.flatMap (fun i => exposeEntry r x.tick k.part.toNat i.toNat) } ∧
        r'.denials = r.denials ++ denied) ∧
       t.pair = s.pair ∧ t.fab = s.fab ∧ t.time = s.time ∧ t.ir = s.ir) ∧
   (∀ (s : State) (id : EngId) (x : Run) (k : Task), s.dev.dstate = .run → id.exists = true →
     (engineOf (s.region id.er) id.n).running = false → (engineOf (s.region id.er) id.n).leaving = false → engineServes s id = true →
     nextRun (s.region id.er) .exposed = some x → taskOf (s.region id.er) x.slot = some k → findRun (s.region id.er) x.slot x.no = some x →
     ∃ t, exec (.runDispatch id) s = .next t ∧ OnlyRegion id.er s t ∧
       (let r := s.region id.er
        let r' := t.region id.er
        let e := engineOf r' id.n
        { r' with engines := r.engines, runs := r.runs, kept := r.kept, vars := r.vars } = r ∧
        e.running = true ∧ e.slot = x.slot ∧ e.run = x.no ∧ e.part = k.part ∧ e.pc = k.entry ∧ e.stack = [] ∧ e.scr = [] ∧
        (∀ n, e.reg n = 0) ∧ (∀ n, e.cond n = false) ∧
        findRun r' x.slot x.no = some { x with phase := .executing, engine := id.n } ∧
        (∀ m, m ≠ id.n → engineOf r' m = engineOf r m) ∧ (x.forced = [] → r'.vars = r.vars))))

/-- R43, R44: an update of an input point that no force holds gives it the value as its type holds it, GOOD unless the update is
bad or a REAL32 NaN, clears STALE, SUBSTITUTE and FORCED, and renews its stamp; no other word changes. R47 to R49: an update of a COUNT48 point adds the
delta that its base, its epoch and the counter's width give to the 48-bit count, modulo 2^48, and keeps the new base and epoch. R45: the sweep rewrites a
stamp more than 2^31 ticks away to the current tick minus 2^31, and no other stamp; the AGE of R44 that any point yields is
unchanged. Completes stampSweep. -/
def Obligations.ImageFollowsUpdatesAndTheSweep : Prop :=
  (∀ (r : Region) (t : W64) (i : BitVec 20) (v : W32) (bad ovr : Bool), isInput (modeOf r i.toNat) = true →
    forceOn r i.toNat = none → tableWf 0 r.image = true → tableWf 0 r.stamps = true →
    (let r' := (applyItem r t (.input i v bad ovr)).1
     let w := look 0 r'.image i.toNat
     let isBad := bad || nanOf (typeOf r i.toNat) v
     valueOf w = holdPoint (typeOf r i.toNat) v ∧ bit w sGood = !isBad ∧ bit w sBad = isBad ∧ bit w sStale = false ∧
     bit w sSub = false ∧ bit w sForced = false ∧ bit w sOver = ovr ∧ look 0 r'.stamps i.toNat = t.setWidth 32 ∧
     (∀ j, j ≠ i.toNat → look 0 r'.image j = look 0 r.image j ∧ look 0 r'.stamps j = look 0 r.stamps j) ∧
     { r' with image := r.image, stamps := r.stamps } = r)) ∧
  (∀ (r : Region) (t : W64) (i : BitVec 20) (raw : BitVec 16) (width : Nat) (epoch : Byte) (bad : Bool),
    typeOf r i.toNat = tyCount → 1 ≤ width → width ≤ 16 → raw.toNat < 2 ^ width → tableWf 0 r.image = true → tableWf 0 r.stamps = true →
    (let r' := (applyItem r t (.count48 i raw width epoch bad)).1
     let count (r : Region) : Nat := bits (look 0 r.image (i.toNat + 1)) 47 32 * 2 ^ 32 + bits (look 0 r.image i.toNat) 63 32
     let w := look 0 r.image (i.toNat + 1)
     let w' := look 0 r'.image (i.toNat + 1)
     (bit w 24 = false → count r' = count r) ∧
     (bit w 24 = true → bits w 7 0 ≠ epoch.toNat → count r' = (count r + raw.toNat) % 2 ^ 48) ∧
     (bit w 24 = true → bits w 7 0 = epoch.toNat → bits w 63 48 < 2 ^ width →
       count r' = (count r + (if bits w 63 48 ≤ raw.toNat then raw.toNat - bits w 63 48 else 2 ^ width + raw.toNat - bits w 63 48)) % 2 ^ 48) ∧
     bits w' 63 48 = raw.toNat ∧ bits w' 7 0 = epoch.toNat ∧ bit w' 24 = true ∧ bits w' 23 8 = bits w 23 8 ∧
     bit (look 0 r'.image i.toNat) sGood = !bad ∧ bit (look 0 r'.image i.toNat) sBad = bad ∧ bit (look 0 r'.image i.toNat) sStale = false ∧
     look 0 r'.stamps i.toNat = t.setWidth 32 ∧
     (∀ j, j ≠ i.toNat → look 0 r'.stamps j = look 0 r.stamps j ∧ (j ≠ i.toNat + 1 → look 0 r'.image j = look 0 r.image j)) ∧
     { r' with image := r.image, stamps := r.stamps } = r)) ∧
  (∀ (s : State) (er : Er) (point : BitVec 20), s.powered = true → tableWf 0 (s.region er).stamps = true →
    ∃ t, exec (.stampSweep er point) s = .next t ∧ OnlyRegion er s t ∧
      (let r := s.region er
       let r' := t.region er
       { r' with stamps := r.stamps } = r ∧
       look 0 r'.stamps point.toNat =
         (if (r.tick.setWidth 32 - look 0 r.stamps point.toNat).toNat > 2 ^ 31 then r.tick.setWidth 32 - 0x80000000
          else look 0 r.stamps point.toNat) ∧
       ∀ i : Nat, (i ≠ point.toNat → look 0 r'.stamps i = look 0 r.stamps i) ∧
         ageAt r.tick (look 0 r'.stamps i) = ageAt r.tick (look 0 r.stamps i)))

/-! ### Field channels (R223 to R265, R490, R505) -/

/-- R228, R230, R232, R233, R235, R505: a valid data frame goes to the buffer of the first filter that matches; a buffer that
programs read keeps it, and one with receive entries hands their updates to the sequencer as one group and stays locked until
that group is in its queue, when the writes of partition 0 that waited take effect together; writes that waited for the end of a
frame that won arbitration follow that frame. A remote frame counts alone; a frame of a disabled format takes the channel off the
bus, which comes back after bus integration, but for internal loopback, which receives nothing of the bus (R249). The receive
error counter falls by one as ISO 11898-1 counts it (log entry 17); a format counts as enabled by its own bit (log entry 118). Completes fieldFrameValid, protocolException, busIntegration and bufferUnlock. -/
def Obligations.FieldReceptionFollowsTheFilters : Prop :=
  ∀ (s : State) (c : BitVec 5), ChannelReady s c.toNat →
    (let n := c.toNat
     let ch := s.chan n
     (∀ (f : Frame) (b : Nat), ch.onBus = true → ch.opmode = 0 → fmtEnabled ch f.fmt = true → ch.rxErr.toNat ≤ 95 → ch.tmen = false →
       ch.otherOn = false → filterTarget ch (normFrame f) = some b → bit (ch.rxb b).cfg 31 = true → (f.fmt = .xl → f.len ≤ rxCapacity b) →
       (bits (ch.rxb b).cfg 6 0 = 0 ∨ (ch.st (bits (ch.rxb b).cfg 6 0)).state ∉ [StState.waiting, .down]) →
       (ch.rxb b).mapLock = false → (ch.rxb b).supLock = false →
       (bit (ch.rxb b).cfg 30 = true →
         ∃ t, exec (.fieldFrameValid c f false) s = .next t ∧ OnlyChannel n s t ∧ Raised t (288 + 8 * n) ∧
           (t.chan n).rxb b = { ch.rxb b with
             buf := some (normFrame f), received := (ch.rxb b).received + 1,
             overwritten := if (ch.rxb b).buf.isSome then (ch.rxb b).overwritten + 1 else (ch.rxb b).overwritten } ∧
           (∀ a, a ≠ b → (t.chan n).rxb a = ch.rxb a) ∧ look 0 (t.chan n).counters 0 = countedCh ch 0 1 ∧
           (∀ k, (t.chan n).st k = { ch.st k with heard := (ch.st k).heard || (decide (k = bits (ch.rxb b).cfg 6 0 ∧ k ≠ 0) && bit (ch.st k).word 63) }) ∧
           ChannelKept { ch with rxErr := BitVec.ofNat 8 (ch.rxErr.toNat - 1) } (t.chan n)) ∧
       (bit (ch.rxb b).cfg 30 = false → entriesOf ch false b ≠ [] →
         (frameUpdates s.image (entriesOf ch false b) ((normFrame f).data.take f.len)).2 = 0 →
         ∃ t, exec (.fieldFrameValid c f false) s = .next t ∧
           { t with chans := s.chans, evc := s.evc, fab := s.fab } = s ∧ ((t.chan n).rxb b).buf = some (normFrame f) ∧
           ((t.chan n).rxb b).mapLock = true ∧ (∀ a, a ≠ b → (t.chan n).rxb a = ch.rxb a) ∧
           t.fab = (submitGroup s (.field n) (frameUpdates s.image (entriesOf ch false b) ((normFrame f).data.take f.len)).1 none (some b)).fab)) ∧
     (∀ f : Frame, ch.onBus = true → ch.opmode = 0 → fmtEnabled ch f.fmt = true → ch.rxErr.toNat ≤ 95 → ch.otherOn = false →
       ∃ t, exec (.fieldFrameValid c f true) s = .next t ∧ OnlyChannel n s t ∧ look 0 (t.chan n).counters 2 = countedCh ch 2 1 ∧
         (t.chan n).rx = ch.rx ∧ ChannelKept { ch with rxErr := BitVec.ofNat 8 (ch.rxErr.toNat - 1) } (t.chan n)) ∧
     (∀ (f : Frame) (remote : Bool), ch.otherOn = true →
       ∃ u, exec (.fieldFrameValid c f remote) (otherOver s n) = .next u ∧ exec (.fieldFrameValid c f remote) s = .next (flushWrites u n)) ∧
     (∀ f : Frame, ch.onBus = true → ch.opmode ≠ 3 → fmtEnabled ch f.fmt = false → ch.otherOn = false →
       ∃ t, exec (.fieldFrameValid c f false) s = .next t ∧ OnlyChannel n s t ∧ look 0 (t.chan n).counters 1 = countedCh ch 1 1 ∧
         ChannelKept { ch with state := if ch.state = .stopping then .stopping else .exception } (t.chan n) ∧ (t.chan n).rx = ch.rx) ∧
     (∀ xl : Bool, ch.opmode = 3 → exec (.protocolException c xl) s = .next s) ∧
     (∀ xl : Bool, ch.onBus = true → ch.opmode ≠ 3 → fmtEnabled ch (if xl then .xl else .fd) = false →
       ∃ t, exec (.protocolException c xl) s = .next t ∧ OnlyChannel n s t ∧ look 0 (t.chan n).counters 1 = countedCh ch 1 1 ∧
         ChannelKept { ch with state := if ch.state = .stopping then .stopping else .exception } (t.chan n) ∧ (t.chan n).rx = ch.rx) ∧
     (ch.state = .exception →
       ∃ t, exec (.busIntegration c) s = .next t ∧ { t with chans := s.chans } = s ∧ t.chan n = { ch with state := .running }) ∧
     (ch.state = .integrating → s.dev.dstate ≠ .start →
       ∃ t, exec (.busIntegration c) s = .next t ∧ OnlyChannel n s t ∧ t.chan n = { ch with state := .running } ∧ Raised t (288 + 8 * n + 7)) ∧
     (ch.state = .integrating → s.dev.dstate = .start → exec (.busIntegration c) s = .next s) ∧
     ∀ b : Byte, (ch.rxb b.toNat).mapLock = true → (ch.rxb b.toNat).shadow = none →
       (s.queue (sourceQueue (.field n))).waiting.any (fun g => g.buf == some b.toNat) = false →
       exec (.bufferUnlock c b) s = .next (flushWrites (modRx s n b.toNat RxBuf.unlock) n) ∧
       (NoWrites ch →
         ∃ t, exec (.bufferUnlock c b) s = .next t ∧ { t with chans := s.chans } = s ∧ (t.chan n).rxb b.toNat = (ch.rxb b.toNat).unlock ∧
           ∀ a, a ≠ b.toNat → (t.chan n).rxb a = ch.rxb a))

/-- R250, R251, R261, R490: a bus error counts and leaves the error state that the error counters give, a receiver's raised by 1 or
8 and a transmitter's by 8 (the counts of ISO 11898-1: log entry 17); bus-off ends what is being sent and lasts until recovery, which
the firmware starts while its limit allows and which clears both counters; a channel that has stopped takes its new record. Completes
busError, recoverDelay, busOffRecovered, channelStopped and dominantTimeout. -/
def Obligations.FieldErrorConfinementRunsItsCourse : Prop :=
  ∀ (s : State) (c : BitVec 5), ChannelReady s c.toNat →
    (let n := c.toNat
     let ch := s.chan n
     (∀ (kind : BusErr) (exempt own : Bool), ch.state = .running → ch.err = .active ∨ ch.err = .passive → ch.opmode = 0 → NoWrites ch →
       ch.tec.toNat < 256 →
       (let rx := if exempt then ch.rxErr.toNat else min 255 (ch.rxErr.toNat + if own then 8 else 1)
        ∃ t, exec (.busError c kind false exempt own) s = .next t ∧ OnlyChannel n s t ∧
          look 0 (t.chan n).counters (errIndex kind) = countedCh ch (errIndex kind) 1 ∧ (t.chan n).tx = ch.tx ∧ (t.chan n).rx = ch.rx ∧
          ChannelKept { ch with rxErr := BitVec.ofNat 8 rx, err := errStateOf ch.tec.toNat rx } (t.chan n)) ∧
       (∀ b : BitVec 6, exempt = false → ch.sending = .buffer b → (ch.txb b.toNat).oneShot = false → ch.tec.toNat < 248 →
         ∃ t, exec (.busError c kind true exempt own) s = .next t ∧ OnlyChannel n s t ∧
           look 0 (t.chan n).counters (errIndex kind) = countedCh ch (errIndex kind) 1 ∧ (t.chan n).rx = ch.rx ∧
           (t.chan n).txb b.toNat = { ch.txb b.toNat with inFlight := false } ∧ (∀ a, a ≠ b.toNat → (t.chan n).txb a = ch.txb a) ∧
           ChannelKept { ch with sending := .nothing, tec := ch.tec + 8, err := errStateOf (ch.tec.toNat + 8) ch.rxErr.toNat } (t.chan n)) ∧
       (exempt = false → 248 ≤ ch.tec.toNat →
         ∃ t, exec (.busError c kind true exempt own) s = .next t ∧ OnlyChannel n s t ∧ (t.chan n).err = .busOff ∧
           (t.chan n).sending = .nothing ∧ Raised t (288 + 8 * n + 2) ∧ look 0 (t.chan n).counters 12 = countedCh ch 12 1 ∧
           ∀ b, ((t.chan n).txb b).committed = none)) ∧
     (ch.err = .busOff → bits (ch.cw 0) 47 32 ≠ 0 →
       bits (ch.cw 0) 31 24 = 0 ∨ (ch.recoveries.filter (fun t => decide (s.dev.opTime.toNat < t + 3600))).length < bits (ch.cw 0) 31 24 →
       ∃ t, exec (.recoverDelay c) s = .next t ∧ { t with chans := s.chans } = s ∧ (∀ m, m ≠ n → t.chan m = s.chan m) ∧
         (t.chan n).err = .recovering ∧ (t.chan n).recoverBy = 2) ∧
     (ch.err = .recovering →
       ∃ t, exec (.busOffRecovered c) s = .next t ∧ OnlyChannel n s t ∧ Raised t (288 + 8 * n + 1) ∧
         look 0 (t.chan n).counters 13 = countedCh ch 13 1 ∧ (t.chan n).tx = ch.tx ∧
         ChannelKept { ch with err := .active, tec := 0, rxErr := 0 } (t.chan n)) ∧
     (ch.state = .stopping → ch.sending = .nothing → NoWrites ch →
       ∃ t, exec (.channelStopped c) s = .next t ∧ OnlyChannel n s t ∧ Raised t (288 + 8 * n + 7) ∧
         (let w := ch.nextRecord.getD ch.record
          t.chan n = { ch with
            record := w, nextRecord := none, err := .active, tec := 0, rxErr := 0, refDue := false, otherOn := false,
            state := if ch.stopCause = 3 then .isolated else if bit (w.getD 0 0) 63 then .integrating else .stopped })) ∧
     (bit (ch.cw 0) 59 = false → ch.state = .running →
       ∃ t, exec (.dominantTimeout c) s = .next t ∧ OnlyChannel n s t ∧ Raised t (288 + 8 * n + 1) ∧
         look 0 (t.chan n).counters 5 = countedCh ch 5 1 ∧ (t.chan n).tx = ch.tx ∧ (t.chan n).rx = ch.rx ∧ ChannelKept ch (t.chan n)))

/-- R243 to R249, R252 to R255, R261: a refresh, at the ticks its period gives, builds the buffer's frame from the release cells; on an
idle bus an emergency frame goes first, then a due reference, then the best buffer; a frame sent leaves its buffer, counts and lowers
the transmit error counter, and in internal loopback the channel receives it; a lost attempt waits for retransmission, or fails when
the frame is one-shot, and an emergency frame's ends unsent once the channel stops; a cycle starts at its ticks; in its window a
frame is sent on an idle bus and fails on an occupied one. The model's choices: the transmit error counter's step (log entry 17), the
source of a missed window (log entry 69), loopback, an emergency frame at a stop and a reference that is dropped (log entry 70), the
fields of a long reference (log entry 122). Completes refresh, busIdle, fieldFrameSent, arbitrationLost, cycleStart and
exclusiveWindow. -/
def Obligations.FieldTransmissionFollowsItsOrder : Prop :=
  ∀ (s : State) (c : BitVec 5), ChannelReady s c.toNat →
    (let n := c.toNat
     let ch := s.chan n
     (∀ (b : BitVec 6) (f : Frame), s.atPhase (bits (ch.txb b.toNat).ctrl 59 36) 0 = true → bit (ch.txb b.toNat).ctrl 63 = true →
       (ch.txb b.toNat).template = some f → (ch.txb b.toNat).waiting = none → (ch.txb b.toNat).committed = none → allDown s n b.toNat = false →
       ∃ t, exec (.refresh c b) s = .next t ∧ OnlyChannel n s t ∧
         (let es := entriesOf ch true b.toNat
          let raws := (txRaws s n b.toNat).1
          (t.chan n).txb b.toNat = { ch.txb b.toNat with
            lastRaw := some raws, builds := (ch.txb b.toNat).builds + 1, built := (ch.txb b.toNat).built + 1,
            waitingNo := (ch.txb b.toNat).builds + 1,
            waiting := some { f with data := (es.zip raws).foldl (fun d p => writeField d (entryBits p.1.1) p.2) (fitBytes f.len f.data) } }) ∧
         ∀ a, a ≠ b.toNat → (t.chan n).txb a = ch.txb a) ∧
     (ch.otherOn = true → exec (.busIdle c) s = exec (.busIdle c) (flushWrites (otherOver s n) n)) ∧
     (ch.sends = true → ch.otherOn = false →
       (∀ k, firstEmergency ch = some k →
         ∃ t, exec (.busIdle c) s = .next t ∧ { t with chans := s.chans } = s ∧
           t.chan n = { ch with
             sending := .emergency (BitVec.ofNat 3 k), lastSent := (look none ch.emerg k).map (asSent ch), sof := s.time.dtime }) ∧
       (firstEmergency ch = none → ch.tmen = true → ch.refDue = true → ch.foreign = false →
         ∃ t, exec (.busIdle c) s = .next t ∧ { t with chans := s.chans } = s ∧
           t.chan n = { ch with
             sending := .reference, refDue := false, refMark := s.time.dtime, sof := s.time.dtime,
             lastSent := some (referenceFrame s ch) }) ∧
       (∀ b f, firstEmergency ch = none → ch.refDue = false → bestBuffer ch = some b → (ch.txb b).offer = some f →
         ∃ t, exec (.busIdle c) s = .next t ∧ { t with chans := s.chans } = s ∧ (t.chan n).sending = .buffer (BitVec.ofNat 6 b) ∧
           (t.chan n).lastSent = some (asSent ch f) ∧ ((t.chan n).txb b).committed = some f ∧ ((t.chan n).txb b).inFlight = true ∧
           ∀ a, a ≠ b → (t.chan n).txb a = ch.txb a)) ∧
     (∀ b : BitVec 6, ch.sending = .buffer b → ch.opmode = 0 → ch.tec.toNat ≤ 256 → NoWrites ch → (∀ e ∈ ch.stations, (ch.st e.1).state ≠ .returning) →
       ∃ t, exec (.fieldFrameSent c) s = .next t ∧ OnlyChannel n s t ∧ (t.chan n).sending = .nothing ∧
         (t.chan n).txb b.toNat = { ch.txb b.toNat with committed := none, inFlight := false, sent := (ch.txb b.toNat).sent + 1 } ∧
         (∀ a, a ≠ b.toNat → (t.chan n).txb a = ch.txb a) ∧ look 0 (t.chan n).counters 4 = countedCh ch 4 1 ∧
         (t.chan n).tec = BitVec.ofNat 9 (ch.tec.toNat - 1)) ∧
     (∀ (k : BitVec 3) (f : Frame) (b : Nat),
       let g : Frame := { normFrame f with stamp := ch.sof }
       ch.sending = .emergency k → ch.opmode = 3 → ch.tec = 0 → NoWrites ch → ch.lastSent = some f → ch.tmen = false →
       filterTarget ch g = some b → bit (ch.rxb b).cfg 31 = true → bit (ch.rxb b).cfg 30 = true → bits (ch.rxb b).cfg 6 0 = 0 →
       (ch.rxb b).mapLock = false → (ch.rxb b).supLock = false → (f.fmt = .xl → f.len ≤ rxCapacity b) →
       ∃ t, exec (.fieldFrameSent c) s = .next t ∧ OnlyChannel n s t ∧ (t.chan n).sending = .nothing ∧
         ((t.chan n).rxb b).buf = some g ∧ ((t.chan n).rxb b).received = (ch.rxb b).received + 1) ∧
     (∀ k : BitVec 3, ch.sending = .emergency k → ch.opmode = 0 → ch.tec.toNat ≤ 256 → NoWrites ch →
       ∃ t, exec (.fieldFrameSent c) s = .next t ∧ OnlyChannel n s t ∧ (t.chan n).sending = .nothing ∧
         (t.chan n).emergPend = setBit ch.emergPend k.toNat false ∧ look 0 (t.chan n).counters 16 = countedCh ch 16 1) ∧
     (∀ k : BitVec 3, ch.sending = .emergency k → ch.state = .stopping → NoWrites ch →
       ∃ t, exec (.arbitrationLost c) s = .next t ∧ OnlyChannel n s t ∧ (t.chan n).sending = .nothing ∧
         (t.chan n).emergPend = setBit ch.emergPend k.toNat false ∧ look 0 (t.chan n).counters 17 = countedCh ch 17 1) ∧
     (ch.sending = .reference → ch.opmode = 0 → ch.tec.toNat ≤ 256 → NoWrites ch →
       ∃ t, exec (.fieldFrameSent c) s = .next t ∧ OnlyChannel n s t ∧ (t.chan n).sending = .nothing ∧
         (t.chan n).cycleCount = ch.cycleCount + 1 ∧ look 0 (t.chan n).counters 18 = countedCh ch 18 1) ∧
     (∀ b : BitVec 6, ch.sending = .buffer b → NoWrites ch →
       ((ch.txb b.toNat).oneShot = false → ch.state = .running →
         ∃ t, exec (.arbitrationLost c) s = .next t ∧ { t with chans := s.chans } = s ∧ (t.chan n).sending = .nothing ∧
           (t.chan n).txb b.toNat = { ch.txb b.toNat with inFlight := false } ∧ ∀ a, a ≠ b.toNat → (t.chan n).txb a = ch.txb a) ∧
       (∀ f, (ch.txb b.toNat).oneShot = true → (ch.txb b.toNat).committed = some f →
         ∃ t, exec (.arbitrationLost c) s = .next t ∧ OnlyChannel n s t ∧ (t.chan n).sending = .nothing ∧ Raised t (288 + 8 * n + 3) ∧
           (t.chan n).txb b.toNat = { ch.txb b.toNat with committed := none, inFlight := false, failed := (ch.txb b.toNat).failed + 1 } ∧
           ∀ a, a ≠ b.toNat → (t.chan n).txb a = ch.txb a)) ∧
     (ch.tmen = true → ch.foreign = false → ch.opmode = 0 → ch.state = .running ∨ ch.state = .exception →
       (s.atPhase (bits (ch.cw 4) 63 48) (bits (ch.cw 4) 47 32) = true → ∃ t, exec (.cycleStart c) s = .next t ∧ OnlyChannel n s t ∧ (t.chan n).refDue = true ∧ (t.chan n).tx = ch.tx ∧
         look 0 (t.chan n).counters 19 = (if ch.refDue then countedCh ch 19 1 else look 0 ch.counters 19)) ∧
       (∀ (b : BitVec 6) (f : Frame), ch.err = .active ∨ ch.err = .passive → bits (ch.txb b.toNat).ctrl 35 20 ≠ 0 →
         (ch.txb b.toNat).waiting = some f → fmtEnabled ch f.fmt = true →
         (∀ busy : Bool, busy = true ∨ ch.state = .exception → ∃ t, exec (.exclusiveWindow c b busy) s = .next t ∧ OnlyChannel n s t ∧ Raised t (288 + 8 * n + 3) ∧
           (t.chan n).txb b.toNat = { ch.txb b.toNat with waiting := none, failed := (ch.txb b.toNat).failed + 1 } ∧
           ∀ a, a ≠ b.toNat → (t.chan n).txb a = ch.txb a) ∧
         (ch.state = .running → ch.sending = .nothing → firstEmergency ch = none → ch.refDue = false → (ch.txb b.toNat).committed = none →
           ∃ t, exec (.exclusiveWindow c b false) s = .next t ∧ { t with chans := s.chans } = s ∧ (t.chan n).sending = .buffer b ∧
             ((t.chan n).txb b.toNat).committed = some f ∧ ((t.chan n).txb b.toNat).waiting = none ∧
             ∀ a, a ≠ b.toNat → (t.chan n).txb a = ch.txb a))))

/-! ### Network (R266 to R337) -/

/-- R271 to R273, R275, R281 to R283, R285 to R289, R295: a received frame ends in one outcome: a frame that is too short or wrong
counts as such, with the PCS errors met in it, a PAUSE frame sets its timer, and a frame steered to a partition queue with room is
counted, stored with its descriptor word and signalled; a frame that is dropped leaves its bytes in the buffers it had filled; a queue
doorbell moves the producer index. That the octet counters count runts and every other frame is the model's choice (log entry 55).
Completes networkFrameReceived, pauseExpiry, receiveDescriptorWait, queueDoorbell and duplicateEntryForget. -/
def Obligations.NetworkReceptionReachesItsOutcome : Prop :=
  (∀ (s : State) (p : Port) (f : NetFrame), NetReady s → NoFlowControl s → (s.port p).link = true →
    (let x := s.port p
     let x' : PortS := { x with winRx := x.winRx + f.wireLen, msRx := x.msRx + f.wireLen }
     (f.wireLen < 64 →
       ∃ t, exec (.networkFrameReceived p f) s = .next t ∧ OnlyPort p s t ∧ PortKept x' (t.port p) ∧
         look 0 (t.port p).counters 32 = countedPort x 32 1 ∧ look 0 (t.port p).counters 0 = countedPort x 0 f.wireLen ∧
         look 0 (t.port p).counters 34 = countedPort x 34 f.pcsErrors) ∧
     (64 ≤ f.wireLen → f.wireLen ≤ x.maxlen → f.fcsOk = false → wouldSteer s p f = none →
       ∃ t, exec (.networkFrameReceived p f) s = .next t ∧ OnlyPort p s t ∧ PortKept x' (t.port p) ∧
         look 0 (t.port p).counters 31 = countedPort x 31 1 ∧ look 0 (t.port p).counters 2 = look 0 x.counters 2) ∧
     (∀ q, 64 ≤ f.wireLen → f.wireLen ≤ x.maxlen → f.fcsOk = false → wouldSteer s p f = some q →
       ∃ t, exec (.networkFrameReceived p f) s = .next t ∧ { t with net := s.net, evc := s.evc, recd := s.recd, hr := s.hr } = s ∧
         { t.hr with hostWrites := s.hr.hostWrites } = s.hr ∧ PortKept x' (t.port p) ∧
         (inBuffer s q = true ∨ (s.nq q).rxen = false → t.hr = s.hr) ∧
         (inBuffer s q = false → (s.nq q).rxen = true → (s.nq q).stalled = [] → (s.nq q).held + cellsOf f.bytes.length ≤ (s.nq q).rxq →
           t.hr.hostWrites = s.hr.hostWrites ++ (List.range (buffersFilled s q { word := 0, bytes := f.bytes } f.bufs)).map (fun k =>
             (f.bufs.getD k 0, (f.bytes.drop (k * (s.nq q).bufBytes)).take (s.nq q).bufBytes))) ∧
         look 0 (t.port p).counters 31 = countedPort x 31 1 ∧ look 0 (t.nq q).counters 0 = countedNq (s.nq q) 0 1 ∧
         { t.nq q with counters := (s.nq q).counters } = s.nq q ∧ ∀ k, k ≠ q → t.nq k = s.nq k) ∧
     (∀ q, 64 ≤ f.wireLen → f.wireLen ≤ x.maxlen → f.fcsOk = true → f.sec = none → etherType f.bytes ≠ 0x8808 → pairMode s = 0 →
       bit x.macsec 0 = false →
       steer s p f.bytes = .queue q → q < 128 → (s.nq q).stalled = [] → (s.nq q).rxen = true → inBuffer s q = true →
       (s.nq q).held + cellsOf f.bytes.length ≤ (s.nq q).rxq → 0 < rxAvail s q → cellsOf f.bytes.length ≤ rxAvail s q →
       ∃ t, exec (.networkFrameReceived p f) s = .next t ∧ OnlyNet s t ∧ PortKept x' (t.port p) ∧
         look 0 (t.port p).counters 2 = countedPort x 2 1 ∧ t.port (otherPort p) = s.port (otherPort p) ∧
         (t.nq q).frames = (s.nq q).frames ++ [storedFrame (headerWord p f.bytes false false) f.bytes] ∧ (t.nq q).stalled = [] ∧
         look 0 (t.nq q).counters 1 = countedNq (s.nq q) 1 1 ∧ Raised t (160 + q) ∧ ∀ k, k ≠ q → t.nq k = s.nq k))) ∧
  (∀ (s : State) (p : Port) (f : NetFrame), NetReady s → (s.port p).link = true → (s.port p).fcmode = 1 → 64 ≤ f.wireLen →
    f.wireLen ≤ (s.port p).maxlen → f.fcsOk = true → isMacControl s f f.bytes = true → be16 f.bytes (etherOff f.bytes + 2) = 1 →
    ∃ t, exec (.networkFrameReceived p f) s = .next t ∧ OnlyNet s t ∧ (t.port p).pausePort = be16 f.bytes (etherOff f.bytes + 4) ∧
      look 0 (t.port p).counters 24 = countedPort (s.port p) 24 1 ∧ t.net.queues = s.net.queues) ∧
  (∀ (s : State) (p : Port), s.powered = true →
    (∃ t, exec (.pauseExpiry p none) s = .next t ∧ OnlyPort p s t ∧ t.port p = { s.port p with pausePort := 0 }) ∧
    (∀ c : BitVec 3, tableWf 0 (s.port p).pauseCls = true →
      ∃ t, exec (.pauseExpiry p (some c)) s = .next t ∧ OnlyPort p s t ∧ look 0 (t.port p).pauseCls c.toNat = 0 ∧
        (∀ k, k ≠ c.toNat → look 0 (t.port p).pauseCls k = look 0 (s.port p).pauseCls k) ∧
        { t.port p with pauseCls := (s.port p).pauseCls } = s.port p)) ∧
  (∀ (s : State) (q : Nat) (f : RxFrame) (bufs : List W64), NetReady s → NoFlowControl s → q < 160 → (s.nq q).stalled = [f] →
    f.overflow = false → (s.nq q).rxen = true → inBuffer s q = true → 0 < rxAvail s q → cellsOf f.bytes.length ≤ rxAvail s q →
    ∃ t, exec (.receiveDescriptorWait q bufs) s = .next t ∧ OnlyNet s t ∧ (∀ p, t.port p = s.port p) ∧ (t.nq q).stalled = [] ∧
      (t.nq q).frames = (s.nq q).frames ++ [{ f with word := descWord f.word 0 1 f.bytes.length }] ∧
      look 0 (t.nq q).counters 1 = countedNq (s.nq q) 1 1 ∧ (q < 128 → Raised t (160 + q)) ∧ ∀ k, k ≠ q → t.nq k = s.nq k) ∧
  (∀ (s : State) (p : BitVec 7) (w : W32), NetReady s → s.hr.running = true →
    (let x := s.nq p.toNat
     let n := bits w 14 0
     (bit w 31 = true → n < x.txSize → (x.txProd + x.txSize - x.txCons % x.txSize) % x.txSize ≤ (n + x.txSize - x.txCons % x.txSize) % x.txSize →
       ∃ t, exec (.queueDoorbell p w) s = .next t ∧ { t with net := { t.net with queues := s.net.queues } } = s ∧
         t.nq p.toNat = { x with txProd := n } ∧ ∀ k, k ≠ p.toNat → t.nq k = s.nq k) ∧
     (bit w 31 = false → n < x.rxSize → (x.rxProd + x.rxSize - x.rxCons % x.rxSize) % x.rxSize ≤ (n + x.rxSize - x.rxCons % x.rxSize) % x.rxSize →
       ∃ t, exec (.queueDoorbell p w) s = .next t ∧ { t with net := { t.net with queues := s.net.queues } } = s ∧
         t.nq p.toNat = { x with rxProd := n } ∧ ∀ k, k ≠ p.toNat → t.nq k = s.nq k))) ∧
  ∀ (s : State) (a : BitVec 48) (n : BitVec 16), s.powered = true →
    exec (.duplicateEntryForget a n) s = .next { s with net := { s.net with dups := s.net.dups.erase (a, n) } }

/-- R276, R277, R290 to R292, R296, R298, R315, R316, R318, R325: a fetched frame is tagged, counted and given to its port; a
free port starts its flow control frame first, or discards what its controlled port cannot send, and then the frame its scheduler
chooses, with the bytes that go on the lane, and a Sync of the PTP engine with its timestamp; a frame sent counts, frees its
cells and leaves its port free; XOFF is sent again while the occupancy stays at XON; an idle port enters low power where both
ends advertise EEE; supervision frames go out on both ports under one sequence number and a PTP message on one. Completes
transmitFetch, transmitStart, networkFrameSent, xoffRepeat, lpiEntry, lpiWake, supervisionSend and ptpMessageSend. -/
def Obligations.NetworkTransmissionFollowsTheScheduler : Prop :=
  (∀ (s : State) (q : Nat) (d : TxDesc) (bs : Bytes) (c : Nat) (p : Port), NetReady s → q < 160 →
    (let x := s.nq q
     let f : TxFrame := { src := q, cls := BitVec.ofNat 3 c, bytes := bs, id := s.net.nextId }
     x.txen = true → inBuffer s q = false → d.eop = true → 1 ≤ d.data.length → d.data.length ≤ 16384 →
     1 ≤ (x.txProd + x.txSize - x.txCons % x.txSize) % x.txSize → inWindow x d.addr.toNat d.data.length = true →
     queuePorts s q = [p] → tagFrame x d.data d.pcp.toNat = some (bs, c) → x.txCells + cellsOf bs.length ≤ x.txq →
     wireBytes s p f ≤ (s.port p).maxlen → canSend (s.port p) f = true →
     ∃ t, exec (.transmitFetch q [d]) s = .next t ∧ { t with net := s.net, evc := s.evc, hr := s.hr } = s ∧
       t.port p = { s.port p with copies := (s.port p).copies ++ [f] } ∧ t.port (otherPort p) = s.port (otherPort p) ∧
       t.net.nextId = s.net.nextId + 1 ∧ (t.nq q).txCons = (x.txCons + 1) % x.txSize ∧ (t.nq q).txCells = x.txCells + cellsOf bs.length ∧
       (t.nq q).pendingTx = x.pendingTx + 1 ∧ look 0 (t.nq q).counters 5 = countedNq x 5 1 ∧ (q < 128 → Raised t (160 + q)) ∧
       ∀ k, k ≠ q → t.nq k = s.nq k)) ∧
  (∀ (s : State) (p : Port), s.powered = true → (s.port p).link = true → (s.port p).sending = none → (s.port p).lpi = false →
    (let x := s.port p
     (∀ c tm rest, x.ctrlFrames = (c, tm) :: rest →
       (let g : TxFrame := { src := srcControl, cls := c, bytes := controlBytes x c tm, id := 0 }
        (canSend x g = true →
          ∃ t, exec (.transmitStart p) s = .next t ∧ OnlyPort p s t ∧
            t.port p = { x with ctrlFrames := rest, sending := some { g with wire := onWire s p g } }) ∧
        (canSend x g = false → NetReady s → x.copies = [] → x.forwarding = [] →
          ∃ t, exec (.transmitStart p) s = .next t ∧ OnlyPort p s t ∧ PortKept { x with ctrlFrames := [] } (t.port p) ∧
            look 0 (t.port p).counters 37 = countedPort x 37 (rest.length + 1)))) ∧
     (∀ f, x.ctrlFrames = [] → chooseFrame s x = some f → f.src < 128 → ptpFrame f.bytes = false ∨ 3 < ptpType f.bytes →
       ∃ t, exec (.transmitStart p) s = .next t ∧ OnlyPort p s t ∧
         t.port p = { x with copies := x.copies.erase f, rr := put 127 x.rr f.cls.toNat f.src, sending := some { f with wire := onWire s p f } }) ∧
     (∀ f, x.ctrlFrames = [] → chooseFrame s x = some f → f.src = srcPtp → ptpFrame f.bytes = true → ptpType f.bytes = 0 →
       bit (f.bytes.getD (ptpOff f.bytes + 6) 0) 1 = false → secured x f.bytes = false → x.egress.length < 64 →
       ∃ t, exec (.transmitStart p) s = .next t ∧ OnlyPort p s t ∧
         (let parts := stampParts s (look (0, 0) x.latency x.rate.toNat).2.toInt
          let g : TxFrame := { f with bytes := oneStep f.bytes parts }
          t.port p = { x with copies := x.copies.erase f, egress := x.egress ++ [stampRecord p true f.bytes parts]
                              sending := some { g with wire := onWire s p g } })))) ∧
  (∀ (s : State) (p : Port) (f : TxFrame), NetReady s → NoFlowControl s → (s.port p).sending = some f → f.src < 128 →
    (s.port p).copies.any (fun g => g.id == f.id) = false → hasCopy (s.port (otherPort p)) f.id = false →
    f.id ∉ s.net.doneIds → bit (s.port p).macsec 0 = false →
    ∃ t, exec (.networkFrameSent p) s = .next t ∧ OnlyNet s t ∧ (t.port p).sending = none ∧ (t.port p).copies = (s.port p).copies ∧
      look 0 (t.port p).counters 3 = countedPort (s.port p) 3 1 ∧ t.port (otherPort p) = s.port (otherPort p) ∧
      (t.nq f.src).pendingTx = (s.nq f.src).pendingTx - 1 ∧ (t.nq f.src).txCells = (s.nq f.src).txCells - cellsOf f.bytes.length ∧
      look 0 (t.nq f.src).counters 6 = countedNq (s.nq f.src) 6 1 ∧ ∀ k, k ≠ f.src → t.nq k = s.nq k) ∧
  (∀ (s : State) (p : Port) (c : BitVec 3), s.powered = true → look false (s.port p).xoff c.toNat = true →
    (s.port p).xonAt ≤ occupancy s p c.toNat →
    ∃ t, exec (.xoffRepeat p c) s = .next t ∧ OnlyPort p s t ∧
      t.port p = { s.port p with ctrlFrames := (s.port p).ctrlFrames ++ [(c, 0xFFFF)] }) ∧
  (∀ (s : State) (p : Port), NetReady s → bit ((s.port p).pw 0) 54 = true → (s.port p).link = true → (s.port p).lpi = false →
    (s.port p).sending = none → (s.port p).ctrlFrames = [] → readyCopies s (s.port p) = [] → (s.port p).forwarding = [] →
    ∃ t, exec (.lpiEntry p) s = .next t ∧
      (eeeAgreed s p = true → OnlyPort p s t ∧ PortKept { s.port p with lpi := true } (t.port p) ∧
        look 0 (t.port p).counters 55 = countedPort (s.port p) 55 1) ∧
      (eeeAgreed s p = false → t = s)) ∧
  (∀ (s : State) (p : Port) (f : TxFrame), s.powered = true → (s.port p).link = true → (s.port p).lpi = true → (s.port p).sending = none →
    (s.port p).ctrlFrames = [] → chooseFrame s (s.port p) = some f → f.src < 128 → ptpFrame f.bytes = false →
    ∃ t, exec (.lpiWake p) s = .next t ∧ OnlyPort p s t ∧ (t.port p).lpi = false ∧ (t.port p).sending = some { f with wire := onWire s p f } ∧
      (t.port p).copies = (s.port p).copies.erase f) ∧
  (∀ s : State, NetReady s → pairMode s ≠ 0 → (∀ p, (s.port p).link = true ∧ bit (s.port p).macsec 0 = false) →
    ∃ t f, exec .supervisionSend s = .next t ∧ { t with net := s.net, evc := s.evc, free := s.free } = s ∧ f.src = 130 ∧
      f.id = s.net.nextId ∧ f.seqNo = some s.net.seqNo ∧ be16 f.bytes 12 = 0x88FB ∧ (∀ p, t.port p = { s.port p with copies := (s.port p).copies ++ [f] }) ∧
      t.net.nextId = s.net.nextId + 1 ∧ t.net.seqNo = s.net.seqNo + 1 ∧ (t.nq 130).pendingTx = (s.nq 130).pendingTx + 1) ∧
  (∀ (s : State) (p : Port) (msg : Bytes), NetReady s →
    (let f : TxFrame := { src := srcPtp, cls := BitVec.ofNat 3 (framePcp msg), bytes := msg, id := s.net.nextId }
     (canSend (s.port p) f = true →
       ∃ t, exec (.ptpMessageSend p msg) s = .next t ∧ { t with net := s.net } = s ∧ t.net.nextId = s.net.nextId + 1 ∧
         t.port p = { s.port p with copies := (s.port p).copies ++ [f] } ∧ t.port (otherPort p) = s.port (otherPort p)) ∧
     (canSend (s.port p) f = false →
       ∃ t, exec (.ptpMessageSend p msg) s = .next t ∧ OnlyPort p s t ∧ PortKept (s.port p) (t.port p) ∧
         look 0 (t.port p).counters 37 = countedPort (s.port p) 37 1)))

/-- R267, R269, R299 to R302, R319, R344: a link that goes down drops what waits and leaves PTP FAULTY; a lane without lock runs
its MACR domain from MACT; a link comes up at the rate of its step while the polled PCS status reports it and the lane holds
lock; load windows start again, the EEE registers of PHY and partner are read anew at a link that comes up, and a port whose load
stays low steps down and advertises its lowest rate while the pair carries its frames; a step that gets no link counts and
renegotiates with the full advertisement. Completes linkDown, phyPoll, linkUp, linkWaitTimeout, loadWindow1ms, loadWindow1s and
macrClockReturn. -/
def Obligations.LinksFollowPollsAndRateSteps : Prop :=
  ∀ (s : State) (p : Port), NetReady s →
    (let x := s.port p
     (x.link = true → s.time.srcPort = some p → (s.port (otherPort p)).hasMaster = true →
       ∃ t, exec (.linkDown p 1) s = .next t ∧ t.time = { s.time with srcPort := some (otherPort p) } ∧ (t.port p).link = false) ∧
     (x.link = true → s.time.srcPort = some p → (s.port (otherPort p)).hasMaster = false → timeSource s = 1 → s.time.tstate = 2 →
       ∃ t, exec (.linkDown p 1) s = .next t ∧ t.time.srcPort = none ∧ t.time.tstate = 3 ∧ t.time.slewRem = 0 ∧ (t.port p).link = false) ∧
     (x.link = true → s.time.srcPort ≠ some p → (s.port (otherPort p)).step = .full → (s.port (otherPort p)).fcmode = 0 →
       (∃ t, exec (.linkDown p 1) s = .next t ∧ OnlyNet s t ∧ (t.port p).link = false ∧ (t.port p).sending = none ∧
         (t.port p).lpi = false ∧ (t.port p).pausePort = 0 ∧ (t.port p).ptp = .faulty ∧
         look 0 (t.port p).counters 56 = countedPort x 56 1 ∧ t.port (otherPort p) = s.port (otherPort p)) ∧
       (∀ (pcs an : BitVec 16), bit pcs 2 = false →
         ∃ t, exec (.phyPoll p pcs an) s = .next t ∧ OnlyNet s t ∧ (t.port p).link = false ∧ (t.port p).pcs = pcs ∧ (t.port p).an = an)) ∧
     (∀ (pcs an : BitVec 16), bit pcs 2 = true →
       ∃ t, exec (.phyPoll p pcs an) s = .next t ∧ OnlyPort p s t ∧ t.port p = { x with pcs := pcs, an := an }) ∧
     (x.link = false → exec (.linkDown p 2) s = .next (macrOnMact s p true) ∧ laneLock (macrOnMact s p true) p = false) ∧
     (s.dev.dstate = .start → ∀ r, exec (.linkUp p r) s = .next s) ∧
     { readEee s p with net := { (readEee s p).net with phy := s.net.phy }, free := s.free } = s ∧
     (x.link = false → x.enable = true → x.isolated = false → x.fcmode = 0 → bit x.pcs 2 = true → laneLock s p = true → s.dev.dstate ≠ .start →
       (let up : PortS := { x with link := true, negotiating := false, portDs := patchBytes x.portDs 12 (List.replicate 8 0), ptp := .listening }
        (x.step = .full → ∃ t, exec (.linkUp p x.rate) s = .next t ∧ OnlyPort p (readEee s p) t ∧ t.port p = up) ∧
        (x.step = .upstep → ∃ t, exec (.linkUp p x.rate) s = .next t ∧ OnlyPort p (readEee s p) t ∧ t.port p = { up with step := .full, hold := 0 }) ∧
        (x.step = .downstep → x.stepen = true → ∃ t, exec (.linkUp p x.rate) s = .next t ∧ OnlyPort p (readEee s p) t ∧ t.port p = { up with step := .low }))) ∧
     (x.step = .downstep →
       ∃ t, exec (.linkWaitTimeout p) s = .next t ∧ OnlyNet s t ∧ t.port (otherPort p) = s.port (otherPort p) ∧ t.net.notFull = true ∧
         PortKept { x with step := .upstep, rate := x.lmode, advertised := x.adv, negotiating := true } (t.port p) ∧
         look 0 (t.port p).counters 59 = countedPort x 59 1) ∧
     (x.step = .upstep →
       ∃ t, exec (.linkWaitTimeout p) s = .next t ∧ OnlyPort p s t ∧ PortKept { x with advertised := x.adv, negotiating := true } (t.port p) ∧
         look 0 (t.port p).counters 59 = countedPort x 59 1) ∧
     ((∀ q, (s.port q).step ≠ .low) →
       ∃ t, exec .loadWindow1ms s = .next t ∧ { t with net := s.net } = s ∧
         (∀ q, t.port q = { s.port q with msRx := 0, msTx := 0 }) ∧ { t.net with port0 := s.net.port0, port1 := s.net.port1 } = s.net) ∧
     (pairMode s = 0 →
       ∃ t, exec .loadWindow1s s = .next t ∧ { t with net := s.net } = s ∧
         (∀ q, t.port q = { s.port q with
            winRx := 0, winTx := 0,
            hold := if s.net.port0.step = .full ∧ s.net.port1.step = .full ∧ s.net.notFull = false ∧ underLoad (s.port q) = true then
              min ((s.port q).hold + 1) 65535 else 0 }) ∧
         t.net = { s.net with port0 := t.net.port0, port1 := t.net.port1, notFull := !(s.net.port0.step == .full && s.net.port1.step == .full) }) ∧
     (pairMode s ≠ 0 → (∀ q, (s.port q).step = .full ∧ (s.port q).link = true ∧ (s.port q).fcmode = 0) → s.net.notFull = false → s.net.port0.stepen = true → underLoad s.net.port0 = true →
       (let h := bits (s.net.port0.pw 0) 31 16
        (if h = 0 then 60 else h) ≤ s.net.port0.hold + 1) → s.time.srcPort ≠ some .np0 →
       ∃ t, exec .loadWindow1s s = .next t ∧ OnlyNet s t ∧ t.net.port0.step = .downstep ∧ t.net.port0.rate = s.net.port0.lowRate ∧
         t.net.port0.link = false ∧ t.net.port0.advertised = BitVec.ofNat 4 (2 ^ (3 - s.net.port0.lowRate.toNat)) ∧ t.net.port0.negotiating = true ∧
         look 0 t.net.port0.counters 57 = countedPort s.net.port0 57 1 ∧ t.net.port1.step = .full) ∧
     exec (.macrClockReturn p) s = .next { s with
       dev := match p with
         | .np0 => { s.dev with macrOnMact0 := false }
         | .np1 => { s.dev with macrOnMact1 := false } })

/-- R334 to R336: at a tick of its cycle, an output build of a station in service numbers its frame and gives it to the station's
ports, and one of a station that is DOWN is discarded; at a tick of its input cycle a station not heard is STALE and, at its limit,
DOWN with its points dropped out; no other tick builds or checks. R257, R258: at each check of a supervised field station one heard
since the last check is UP again with no miss; one not heard misses once more: UP becomes STALE with its points, and at the limit
the station is DOWN and its points drop out. R256, R259: a WAITING or DOWN field station that is heard is UP at once when no transmit
buffer carries its points; else it is RETURNING, with the locks of its buffers held and every such transmit buffer built anew, until
each has sent a frame built since: the locks are then released and it is UP. Completes vellekOutputBuild, vellekStationCheck and
stationCheck. -/
def Obligations.StationsFollowTheirChecks : Prop :=
  (∀ (s : State) (st : BitVec 12), NetReady s →
     (let n := st.toNat
      let x := s.vst n
      (s.atPhase (bits (x.vw 1) 47 24) (bits (x.vw 1) 23 0) = false → exec (.vellekOutputBuild st) s = .next s) ∧
      (s.atPhase (bits (x.vw 0) 47 24) (bits (x.vw 0) 23 0) = false → exec (.vellekStationCheck st) s = .next s) ∧
      (s.atPhase (bits (x.vw 1) 47 24) (bits (x.vw 1) 23 0) = true → vellekOn s = true → x.valid = true → outBlocks s x ≠ [] → waitingFrames s n = [] →
        (x.state ≠ .down → (∀ p, (s.port p).link = true ∧ bit (s.port p).macsec 0 = false) →
          ∃ t f, exec (.vellekOutputBuild st) s = .next t ∧ { t with net := s.net, evc := s.evc, free := s.free } = s ∧ t.free = s.free + 1 ∧
            f.src = srcVellek n ∧ f.bytes = outFrame s n (x.outSeq + 1) (Config.freeValue s.free) ∧ f.id = s.net.nextId ∧
            (∀ p, t.port p = if p ∈ stationPorts s x then { s.port p with copies := (s.port p).copies ++ [f] } else s.port p) ∧
            (t.vst n).outSeq = x.outSeq + 1 ∧ look 0 (t.vst n).counters 8 = countedVst x 8 1 ∧ ∀ k, k ≠ n → t.vst k = s.vst k) ∧
        (x.state = .down →
          ∃ t, exec (.vellekOutputBuild st) s = .next t ∧ { t with net := s.net, evc := s.evc } = s ∧ (∀ p, t.port p = s.port p) ∧
            (t.vst n).outSeq = x.outSeq + 1 ∧ look 0 (t.vst n).counters 11 = countedVst x 11 1 ∧
            look 0 (t.vst n).counters 12 = countedVst x 12 (outValues s n) ∧ ∀ k, k ≠ n → t.vst k = s.vst k)) ∧
      (s.atPhase (bits (x.vw 0) 47 24) (bits (x.vw 0) 23 0) = true → x.valid = true → (x.heard = true →
        ∃ t, exec (.vellekStationCheck st) s = .next t ∧ { t with net := s.net } = s ∧
          t.vst n = { x with missed := 0, heard := false, state := if x.state = .stale then .up else x.state } ∧ (∀ k, k ≠ n → t.vst k = s.vst k) ∧
          ∀ p, t.port p = s.port p) ∧
      (x.heard = false → x.state = .up → x.missed + 1 < x.limit →
        ∃ t, exec (.vellekStationCheck st) s = .next t ∧ { t with net := s.net, evc := s.evc, fab := s.fab } = s ∧ (t.vst n).state = .stale ∧
          (t.vst n).missed = x.missed + 1 ∧ t.fab = (submitGroup s .vellek [.stale (BitVec.ofNat 13 (vNumber n))]).fab ∧
          ∀ k, k ≠ n → t.vst k = s.vst k) ∧
      (x.heard = false → x.state = .up ∨ x.state = .stale ∨ x.state = .waiting → x.limit ≤ x.missed + 1 →
        ∃ t, exec (.vellekStationCheck st) s = .next t ∧ { t with net := s.net, evc := s.evc, recd := s.recd, fab := s.fab } = s ∧
          (t.vst n).state = .down ∧ look 0 (t.vst n).counters 14 = countedVst x 14 1 ∧
          t.fab = (submitGroup s .vellek [.dropOut (BitVec.ofNat 13 (vNumber n))]).fab ∧ ∀ k, k ≠ n → t.vst k = s.vst k)))) ∧
  (∀ (s : State) (c : BitVec 5) (node : BitVec 7), ChannelReady s c.toNat → node ≠ 0 →
     (let n := c.toNat
      let st := (s.chan n).st node.toNat
      (bit st.word 63 = false ∨ s.atPhase (bits st.word 47 24) (bits st.word 23 0) = false → exec (.stationCheck c node) s = .next s) ∧
      (bit st.word 63 = true → s.atPhase (bits st.word 47 24) (bits st.word 23 0) = true →
      (st.heard = true →
        ∃ t, exec (.stationCheck c node) s = .next t ∧ OnlyChannel n s t ∧
          (t.chan n).st node.toNat = { st with missed := 0, heard := false, state := if st.state = .stale then .up else st.state } ∧
          (st.state = .stale → Raised t (288 + 8 * n + 4)) ∧ ∀ k, k ≠ node.toNat → (t.chan n).st k = (s.chan n).st k) ∧
      (st.heard = false → st.state = .up → st.missed + 1 < bits st.word 55 48 →
        ∃ t, exec (.stationCheck c node) s = .next t ∧ { t with chans := s.chans, evc := s.evc, fab := s.fab } = s ∧
          (t.chan n).st node.toNat = { st with missed := st.missed + 1, missedTotal := satInc st.missedTotal, state := .stale } ∧
          t.fab = (submitGroup s (.field n) [.stale (BitVec.ofNat 13 (128 * n + node.toNat))]).fab ∧ Raised t (288 + 8 * n + 4)) ∧
      (st.heard = false → st.state = .up ∨ st.state = .stale ∨ st.state = .waiting → bits st.word 55 48 ≤ st.missed + 1 →
        ∃ t, exec (.stationCheck c node) s = .next t ∧ { t with chans := s.chans, evc := s.evc, recd := s.recd, fab := s.fab } = s ∧
          ((t.chan n).st node.toNat).state = .down ∧ ((t.chan n).st node.toNat).missed = st.missed + 1 ∧
          ((t.chan n).st node.toNat).dropOuts = satInc st.dropOuts ∧
          t.fab = (submitGroup s (.field n) [.dropOut (BitVec.ofNat 13 (128 * n + node.toNat))]).fab ∧ Raised t (288 + 8 * n + 4))))) ∧
  ∀ (s : State) (c : BitVec 5) (node : BitVec 7), ChannelReady s c.toNat → node ≠ 0 →
     (let n := c.toNat
      let ch := s.chan n
      let st := ch.st node.toNat
      let carriers := stationTx s n node.toNat
      (∀ (f : Frame) (b : Nat), bit st.word 63 = true → st.state = .waiting ∨ st.state = .down → ch.onBus = true → ch.opmode = 0 →
        fmtEnabled ch f.fmt = true → ch.rxErr.toNat ≤ 95 → ch.tmen = false → ch.otherOn = false → filterTarget ch (normFrame f) = some b →
        bit (ch.rxb b).cfg 31 = true → bit (ch.rxb b).cfg 30 = true → (f.fmt = .xl → f.len ≤ rxCapacity b) →
        bits (ch.rxb b).cfg 6 0 = node.toNat →
        ∃ t, exec (.fieldFrameValid c f false) s = .next t ∧
          { t with chans := s.chans, evc := s.evc, recd := s.recd, fab := s.fab } = s ∧ Raised t (288 + 8 * n + 4) ∧
          ((t.chan n).st node.toNat).heard = true ∧
          (carriers = [] → ((t.chan n).st node.toNat).state = .up ∧ ((t.chan n).rxb b).supLock = false) ∧
          (carriers ≠ [] → ((t.chan n).st node.toNat).state = .returning ∧ ((t.chan n).rxb b).supLock = true ∧
            ((t.chan n).st node.toNat).toSend = carriers.map (fun k => (k, (ch.txb k).builds + 1)) ∧
            ∀ k ∈ carriers, ((t.chan n).txb k).builds = (ch.txb k).builds + 1)) ∧
      (∀ b : BitVec 6, ch.sending = .buffer b → ch.opmode = 0 → ch.tec.toNat ≤ 256 → NoWrites ch → st.state = .returning →
        (∃ x ∈ st.toSend, x.1 = b.toNat ∧ x.2 ≤ (ch.txb b.toNat).committedNo) →
        ∃ t, exec (.fieldFrameSent c) s = .next t ∧ { t with chans := s.chans, evc := s.evc, recd := s.recd, fab := s.fab } = s ∧
          (let left := st.toSend.filter (fun x => x.1 != b.toNat)
           (left = [] → ((t.chan n).st node.toNat).state = .up ∧ ((t.chan n).st node.toNat).toSend = [] ∧ Raised t (288 + 8 * n + 4) ∧
             ∀ a, bits (ch.rxb a).cfg 6 0 = node.toNat → ((t.chan n).rxb a).supLock = false) ∧
           (left ≠ [] → (t.chan n).st node.toNat = { st with toSend := left }))))
/-! ### Time, supplies, clocks and resets (R309 to R321, R339 to R369) -/

/-- R309, R311 to R313, R320, R321, R338, R351: one step of DTIME is taken in START from the ACTIVE region and recorded with the
first source that is available, any other is recorded and discarded; PPS_OUT rises when DTIME reaches the next second plus PPSOFF
and falls PPSW ms after; an edge of the PPS input is kept with its time; a lost source leaves a locked servo in HOLDOVER. The model's
choices: the oldest entry of a full PPS FIFO goes (log entry 60), and the rise and the fall of PPS_OUT let the CORE edges pass up to
their instant (log entries 1 and 82). Completes tuStepWrite, ppsOutRise, ppsOutFall, ppsInEdge, rtcUpdate and timeSourceLost. -/
def Obligations.TimeUnitFollowsItsCommands : Prop :=
  ∀ s : State, s.powered = true →
    (∀ v : W64, s.dev.dstate = .start → s.time.stepped = false →
      ∃ t, exec (.tuStepWrite v true) s = .next t ∧ t.time = { s.time with dtime := v, frac := 0, stepped := true } ∧
        { t with time := s.time, recd := s.recd, evc := s.evc } = s ∧ t.recd = (stepTime s v (stepSource s).1).recd) ∧
    ((∀ d, s.time.offset = some d → (stepSource s).1 = 1) ∧
     (s.time.offset = none → s.time.ppsLast ≠ none → (stepSource s).1 = 2) ∧
     (s.time.offset = none → s.time.ppsLast = none → stepSource s = (3, s.dev.rtc))) ∧
    (∀ v : W64, s.dev.dstate ≠ .start ∨ s.time.stepped = true →
      exec (.tuStepWrite v true) s = .next (recordT s (erNum s.pair.active) 0x4302 (erNum s.pair.active) 0)) ∧
    (∀ src code p1 p2 : Nat, s.recd.frozen = false → s.dev.cutoff = false → s.recd.inq.length < 1023 →
      recordT s src code p1 p2 = { s with recd := { s.recd with
        inq := s.recd.inq ++ [mkRecord s src code (BitVec.ofNat 32 p1) (BitVec.ofNat 32 p2) s.tick32] } }) ∧
    (∀ v : W64, exec (.tuStepWrite v false) s = .next s) ∧
    (bit s.time.rec0 61 = true → s.time.ppsOut = false →
      exec .ppsOutRise s = .next (drivePps (advanceTo s (s.time.dtime.toNat + (1000000000 - s.time.ppsPhase))) true)) ∧
    (s.time.ppsOut = true →
      exec .ppsOutFall s = .next (drivePps (advanceTo s (s.time.dtime.toNat + (s.time.ppsWidth - s.time.ppsPhase))) false)) ∧
    (bit s.time.rec0 61 = false ∨ s.time.ppsOut = true → exec .ppsOutRise s = .next s) ∧
    (s.time.ppsOut = false → exec .ppsOutFall s = .next s) ∧
    (timeSource s ≠ 2 →
      ∃ t, exec .ppsInEdge s = .next t ∧ t.time.ppsLast = some s.time.dtime ∧ t.time.ppsFifo.getLast? = some s.time.dtime ∧
        (s.time.ppsFifo.length ≤ 16 → t.time.ppsFifo.length ≤ 16) ∧
        { t with time := { t.time with ppsFifo := s.time.ppsFifo, ppsLast := s.time.ppsLast } } = s) ∧
    (timeSource s = 2 → s.time.ppsLast = none →
      ∃ t, exec .ppsInEdge s = .next t ∧ t.time.ppsInvalid = satInc s.time.ppsInvalid ∧ t.time.tstate = s.time.tstate ∧
        t.time.rate = s.time.rate) ∧
    (s.dev.dstate = .run → exec .rtcUpdate s = .next { s with dev := { s.dev with rtc := s.time.dtime } }) ∧
    (timeSource s ≠ 0 → s.img.update = none →
      ∃ t, exec .timeSourceLost s = .next t ∧ t.time.srcPort = none ∧ t.time.lockRun = 0 ∧ t.time.rate = s.time.rate ∧
        t.time.dtime = s.time.dtime ∧ (s.time.tstate = 2 → t.time.tstate = 3 ∧ t.time.slewRem = 0) ∧
        (s.time.tstate ≠ 2 → t.time.tstate = s.time.tstate))

/-- R359 to R369, R430: SUPPLIES_GOOD at the entry into START takes the part to RUN; RESET_N and the restart after HALT start it
again; the power-fail warning and its cutoff come and go; an input out of range takes its region out while the other serves, and no
region when both leave together, which brings the warning (that the next waiting command is the other input's: log entry 102);
VBAT decides between DORMANT and OFF. The model's choices: the registers at reset and the supplies in range then (log entry 2), ER-B
as STANDBY from reset on (log entry 18), a start in which every test passes (log entries 31, 32, 41), AR's loss in OFF (log entry 42),
and what the cutoff holds back (log entry 91). Completes suppliesGood, resetN, haltRestart, powerWarning, commitCutoff, powerWarningCleared,
vinOutOfRange, vinInRange, brownOut, vbatLost, vbatApplied and tamperWaitExpiry. -/
def Obligations.SuppliesAndStartsFollowTheirRules : Prop :=
  (∃ t, exec .suppliesGood State.reset = .next t ∧ t.dev.dstate = .run ∧ t.duplex = true ∧ t.pair.active = .A ∧ t.time.stepped = true ∧
    t.fab.nextTick = 1 ∧ t.pending = []) ∧
  (∀ s : State, s.dev.dstate = .off ∨ s.dev.dstate = .dormant → s.dev.vinA = true → s.dev.pfwLow = true →
    ∃ t, exec .suppliesGood s = .next t ∧ t.dev.dstate = .start ∧ t.dev.startStep = 0 ∧ t.dev.pcycle = satInc s.dev.pcycle ∧
      t.dev.opTime = s.dev.opTime ∧ t.dev.rtc = s.dev.rtc ∧ t.pending = s.pending) ∧
  (∀ s : State, s.powered = true → s.dev.pfwLow = true →
    ∃ t, exec .resetN s = .next t ∧ t.dev.dstate = .start ∧ t.dev.startStep = 0 ∧ t.dev.pcycle = s.dev.pcycle ∧
      t.pair.stateA = .active ∧ t.pair.stateB = .standby ∧ t.chans = [] ∧ t.fab.queues = [] ∧ t.pending = s.pending) ∧
  (∀ s : State, s.dev.dstate = .halt → s.dev.haltLimit = false → s.dev.pfwLow = true →
    ∃ t, exec .haltRestart s = .next t ∧ t.dev.dstate = .start ∧ t.dev.haltTimes = s.dev.haltTimes ∧ t.pending = s.pending) ∧
  (∀ s : State, s.powered = true →
    (s.dev.pfwLow = false → s.img.transfers = [] → (∀ e ∈ s.hr.pages, (s.page (BitVec.ofNat 7 e.1)).arriving = false) →
      ∃ t, exec .powerWarning s = .next t ∧ t.dev = { s.dev with pfwLow := true } ∧ t.recd.frozen = false ∧ Raised t 634 ∧
        { t with dev := s.dev, recd := s.recd, evc := s.evc } = s) ∧
    (s.dev.pfwLow = true → s.dev.cutoff = false →
      ∃ t, exec .commitCutoff s = .next t ∧ t.dev = { s.dev with cutoff := true } ∧ t.img = { s.img with stored := some (storedOf s.img) } ∧
        (s.recd.frozen = true → t.recd = s.recd) ∧ (s.recd.frozen = false → t.recd.inq = [] ∧ t.recd.draining = false) ∧
        { t with dev := s.dev, img := s.img, recd := s.recd, evc := s.evc } = s) ∧
    (s.dev.pfwLow = true → s.dev.vinA = true → s.dev.vinB = true → s.dev.dstate = .run →
      ∃ t, exec .powerWarningCleared s = .next t ∧ t.dev = { s.dev with pfwLow := false, cutoff := false } ∧ Raised t 635 ∧
        t.recd.lostPower = 0 ∧ t.img = { s.img.commits.foldl Img.commit s.img with commits := [], stored := none } ∧
        { t with dev := s.dev, recd := s.recd, evc := s.evc, img := s.img } = s) ∧
    (∀ tenths, s.dev.dstate = .run → s.duplex = true → s.dev.vinA = true → s.dev.vinB = true → s.img.update = none →
      bothLeave s true = false → ∃ t, exec (.vinOutOfRange true tenths) s = .next t ∧ t.dev.vinB = false ∧ t.dev.mvB = tenths ∧ t.serving .B = false ∧
        t.pair.active = .A ∧ t.dev.dstate = .run) ∧
    (∀ b tenths, (if b then s.dev.vinB else s.dev.vinA) = true →
      (let d := if b then { s.dev with vinB := false, mvB := tenths } else { s.dev with vinA := false, mvA := tenths }
       (bothLeave s b = true → s.dev.vinA = true → s.dev.vinB = true → s.duplex = true →
         ∃ t, exec (.vinOutOfRange b tenths) s = .next t ∧ { t with recd := s.recd, evc := s.evc } = { s with dev := d }) ∧
       ((if b then s.dev.vinA else s.dev.vinB) = false → s.dev.pfwLow = false → s.img.transfers = [] →
         (∀ e ∈ s.hr.pages, (s.page (BitVec.ofNat 7 e.1)).arriving = false) →
         ∃ t, exec (.vinOutOfRange b tenths) s = .next t ∧ Raised t 634 ∧
           { t with recd := s.recd, evc := s.evc } = { s with dev := { d with pfwLow := true } }))) ∧
    (∃ t, exec .brownOut s = .next t ∧ t.dev.dstate = (if s.dev.vbat || s.dev.shipCell then .dormant else .off) ∧ t.powered = false ∧
      t.dev.vinA = false ∧ t.dev.vinB = false ∧ t.pending = s.pending ∧ t.img.directory = s.img.directory)) ∧
  (∀ (s : State) (b : Bool) (tenths : Nat), exec (.vinInRange b tenths) s = .next { s with
    dev := if b then { s.dev with vinB := true, mvB := tenths } else { s.dev with vinA := true, mvA := tenths } }) ∧
  (∀ s : State, s.dev.dstate = .dormant →
    ∃ t, exec .vbatLost s = .next t ∧ t.dev.dstate = .off ∧ t.dev.vbat = false ∧ t.sec.bbk = false ∧ t.sec.tamperLog = [] ∧
      { t with dev := s.dev, sec := s.sec } = s) ∧
  (∀ s : State, s.dev.dstate = .off →
    exec .vbatApplied s = .next { s with dev := { s.dev with vbat := true, shipCell := false, dstate := .dormant } }) ∧
  ∀ s : State, s.dev.dstate = .start → s.dev.waitT1 = true → s.dev.pfwLow = true →
    (∃ t, exec .tamperWaitExpiry s = .next t ∧ t.dev.waitT1 = false ∧ t.sec.secretsOn = false ∧ t.sec.secOff = true ∧
      t.dev.dstate = .start)

/-- R368: a part in DORMANT or OFF leaves them at supplies good alone, which starts it under R363; whatever other command comes,
and while none comes, it stays in one of the two. -/
def Obligations.OnlySuppliesGoodWakesThePart : Prop :=
  ∀ s : State, s.dev.dstate = .dormant ∨ s.dev.dstate = .off →
    (∀ (c : Instr) (t : State), c ≠ .suppliesGood → exec c s = .next t → t.dev.dstate = .dormant ∨ t.dev.dstate = .off) ∧
    (∀ t : State, s.pending = [] → step s = .next t → t.dev.dstate = s.dev.dstate) ∧
    (s.dev.vinA = true ∨ s.dev.vinB = true →
      ∃ t, exec .suppliesGood s = .next t ∧ t.powered = true ∧ (s.dev.pfwLow = true → t.dev.dstate = .start ∧ t.dev.startStep = 0))

/-- R340 to R344, R352 to R358, R462, R478, R482: a PLL hands over to its standby once; the reference's loss is flagged once; a
DEAD crossing closes its queue and its region leaves; a reset empties its scope's queues and a re-arm opens a queue with every
credit; a channel that is reset integrates again, or stays isolated, and keeps its frames (R234); the host link comes and goes, and a reset of its endpoint masks every vector
(the model's choice: log entry 85); that a dead crossing of a domain alone takes that domain's region is log entry 43, as is that a
region in service is not reset. A reset of SR ends what SR runs and its secrets. Completes pllChangeover, referenceLost, referenceHoldoverExpired, referenceReturn, crossingDead,
queueRearm, resetAssert, crossingResetTimeout, perstN, hostLinkDown and hostLinkUp. -/
def Obligations.ClocksCrossingsAndResetsFollowTheirRules : Prop :=
  ∀ s : State, s.powered = true →
    (∀ lol : Bool, (if s.dev.pll then s.dev.pll0Retired else s.dev.pll1Retired) = false →
      ∃ t, exec (.pllChangeover lol) s = .next t ∧ Raised t 632 ∧ { t with dev := s.dev, recd := s.recd, evc := s.evc } = s ∧
        t.dev = (if s.dev.pll then { s.dev with pll1Retired := true, pll := false } else { s.dev with pll0Retired := true, pll := true })) ∧
    (∀ lol : Bool, (if s.dev.pll then s.dev.pll0Retired else s.dev.pll1Retired) = true →
      ∃ t, exec (.pllChangeover lol) s = .next t ∧ t.dev.dstate = .halt) ∧
    (s.dev.refLost = false →
      ∃ t, exec .referenceLost s = .next t ∧ t.dev = { s.dev with refLost := true } ∧ Raised t 633 ∧
        { t with dev := s.dev, recd := s.recd, evc := s.evc } = s) ∧
    (s.dev.refLost = true → s.dev.refExpired = false →
      ∃ t, exec .referenceHoldoverExpired s = .next t ∧ t.dev = { s.dev with refExpired := true } ∧ Raised t 633 ∧
        { t with dev := s.dev, recd := s.recd, evc := s.evc } = s) ∧
    exec .referenceReturn s = .next { s with dev := { s.dev with refLost := false, refExpired := false } } ∧
    (∀ (qid : BitVec 16), s.img.update = none → (qid, 2) ∉ s.dev.deadCrossings → qid.toNat = 6 * 8192 + 4 * 1024 →
      ∃ t, exec (.crossingDead qid 2 false) s = .next t ∧ t.dev.deadCrossings = s.dev.deadCrossings ++ [(qid, 2)] ∧
        (t.queue qid.toNat).dead = true ∧ Raised t 638 ∧ t.hr.running = false) ∧
    (s.img.update = none → (0xFFFF, 3) ∉ s.dev.deadCrossings →
      ∃ t, exec (.crossingDead 0xFFFF 3 false) s = .next t ∧ t.dev.deadCrossings = s.dev.deadCrossings ++ [(0xFFFF, 3)] ∧ Raised t 638 ∧
        t.sec.secretsOn = false ∧ t.sec.secOff = true) ∧
    (∀ q : BitVec 16, (s.queue q.toNat).armed = false → (s.queue q.toNat).frozen = false → (s.queue q.toNat).occ = 0 → q ≠ 0xFFFF →
      tableWf ({} : FQueue) s.fab.queues = true → (∀ d ∈ s.dev.deadCrossings, d.1 = q → d ∈ s.dev.deadReset) →
      ∃ t, exec (.queueRearm q) s = .next t ∧ { t with fab := s.fab, dev := s.dev } = s ∧
        t.queue q.toNat = { (s.queue q.toNat).clear with armed := true, dead := false } ∧ (t.queue q.toNat).avail = (s.queue q.toNat).cap ∧
        (t.queue q.toNat).flight = 0 ∧ (t.queue q.toNat).occ = 0 ∧
        t.dev.deadCrossings = s.dev.deadCrossings.filter (fun d => d.1 != q) ∧ ∀ j, j ≠ q.toNat → t.queue j = s.queue j) ∧
    (∀ q : BitVec 16, q ≠ 0xFFFF → (∃ d ∈ s.dev.deadCrossings, d.1 = q ∧ d ∉ s.dev.deadReset) → exec (.queueRearm q) s = .next s) ∧
    (∀ er : Er, s.serving er = false → s.img.update = none →
      ∃ t, exec (.resetAssert (.region er)) s = .next t ∧ (t.region er).staging = [] ∧ (t.region er).runs = [] ∧ (t.region er).engines = [] ∧
        t.region (otherEr er) = s.region (otherEr er) ∧
        { t.dev with deadCrossings := s.dev.deadCrossings, deadReset := s.dev.deadReset } = s.dev ∧ t.pair = s.pair ∧
        (match er with
         | .A => t.evc.a0.ctrl = 0 ∧ t.evc.a0.depth = 0 ∧ t.evc.a0.mask = [] ∧ t.evc.a1.ctrl = 0 ∧ t.evc.a1.depth = 0 ∧ t.evc.a1.mask = []
         | .B => t.evc.b0.ctrl = 0 ∧ t.evc.b0.depth = 0 ∧ t.evc.b0.mask = [] ∧ t.evc.b1.ctrl = 0 ∧ t.evc.b1.depth = 0 ∧ t.evc.b1.mask = [])) ∧
    (∀ c : BitVec 5, ChannelReady s c.toNat → (s.chan c.toNat).state = .running → (s.chan c.toNat).nextRecord = none → NoWrites (s.chan c.toNat) → bit ((s.chan c.toNat).record.getD 0 0) 63 = true →
      ∃ t, exec (.resetAssert (.channel c)) s = .next t ∧ (t.chan c.toNat).state = .integrating ∧ (t.chan c.toNat).sending = .nothing ∧
        (t.chan c.toNat).tec = 0 ∧ (t.chan c.toNat).rxErr = 0 ∧ (t.chan c.toNat).err = .active ∧
        (∀ b, ((t.chan c.toNat).txb b).waiting = none ∧ ((t.chan c.toNat).txb b).committed = none) ∧ Raised t (288 + 8 * c.toNat + 7) ∧
        (∀ b, ((t.chan c.toNat).rxb b).received = ((s.chan c.toNat).rxb b).received ∧ ((t.chan c.toNat).rxb b).supLock = ((s.chan c.toNat).rxb b).supLock) ∧
        { t.dev with deadReset := s.dev.deadReset } = s.dev ∧ t.pair = s.pair ∧ t.net = s.net) ∧
    (∀ c : BitVec 5, ChannelReady s c.toNat → (s.chan c.toNat).state = .stopping → (s.chan c.toNat).stopCause = 3 → NoWrites (s.chan c.toNat) →
      ∃ t, exec (.resetAssert (.channel c)) s = .next t ∧ (t.chan c.toNat).state = .isolated ∧ (t.chan c.toNat).sending = .nothing) ∧
    (∃ t, exec (.resetAssert .hr) s = .next t ∧ t.hr.running = false ∧ t.hr.linkUp = false ∧ t.hr.holds = [] ∧ t.hr.doorbells = [] ∧
      t.hr.pages = s.hr.pages ∧ ∀ er, t.region er = s.region er) ∧
    (s.img.update = none → s.hr.pages = [] →
      ∃ t, exec (.resetAssert .sr) s = .next t ∧ t.sec.running = false ∧ t.sec.drbgOn = false ∧ t.sec.secretsOn = false ∧ t.sec.secOff = true ∧
        t.sec.heldPage = none ∧ t.sec.slots = s.sec.slots ∧ t.sec.journal = s.sec.journal ∧ Raised t 623 ∧ ∀ er, t.region er = s.region er) ∧
    (∀ qid : BitVec 16, qid ≠ 0xFFFF → s.dev.asserted ≠ some (.hr, s.time.dtime) →
      ∃ t, exec (.crossingResetTimeout .hr qid) s = .next t ∧ Raised t 639 ∧ Raised t 640 ∧ t.hr.running = false ∧
        (t.queue qid.toNat).armed = false ∧ (t.queue qid.toNat).held = []) ∧
    (s.hr.pages = [] → s.hr.linkUp = true →
      (∃ t, exec .perstN s = .next t ∧ t.hr = { s.hr with linkUp := false, msixTable := [], pba := 0 } ∧ { t with hr := s.hr, recd := s.recd, evc := s.evc } = s) ∧
      ∃ t, exec .hostLinkDown s = .next t ∧ t.hr = { s.hr with linkUp := false } ∧ { t with hr := s.hr, recd := s.recd, evc := s.evc } = s) ∧
    ∀ rate width : Nat, s.hr.linkUp = false → s.hr.running = true →
      ∃ t, exec (.hostLinkUp rate width) s = .next t ∧ t.hr = { s.hr with pcie := true, linkUp := true } ∧
        { t with hr := s.hr, recd := s.recd, evc := s.evc } = s

/-! ### Interrupts and the recorder (R372 to R402) -/

/-- R379 to R390: a delivery covers every qualifying source and clears its undelivered flag, and every other source keeps its own;
the hold-off of each group it covers starts where one is set; it nests one deeper, and in STACK mode the running priority becomes
the highest level covered. An end of interrupt undoes it; a write of the pending word sets pending and undelivered together without
counting, and an event of the same edge wins; a change of the priority mode abandons the deliveries; the hold-off of a group ends.
At HOST under PCI Express every group of a delivery is one message, or a pending bit while its vector is masked. HOST's registers
take no access while HR's port is held in reset (R26). The model's choices: the table and the list of messages (log 39), the
doorbell bits that keep a request up (log 100). Completes interruptDelivery, endOfInterrupt, evcPendWrite, evcCtrlPmodeWrite and
holdOffExpiry. -/
def Obligations.InterruptTargetsFollowTheirRules : Prop :=
  ∀ (s : State) (tg : Target), s.powered = true →
    (let e := s.target tg
     let ns := qualifying s tg
     let reached : Prop := tg ≠ .host ∨ s.hr.running = true
     (e.enable = true → ns ≠ [] → tableWf 0 e.undel = true →
       ∃ t, exec (.interruptDelivery tg) s = .next t ∧ { t with evc := s.evc, hr := { t.hr with pba := s.hr.pba } } = s ∧ (∀ k, k ≠ tg → t.target k = s.target k) ∧
         { t.target tg with undel := e.undel, holding := e.holding, depth := e.depth, stack := e.stack, rpri := e.rpri, idle := e.idle, request := e.request, msix := e.msix } = e ∧
         (t.target tg).depth = e.depth + 1 ∧
         (∀ n ∈ ns, bit (look 0 (t.target tg).undel (n / 32)) (n % 32) = false) ∧
         (∀ n, n ∉ ns → bit (look 0 (t.target tg).undel (n / 32)) (n % 32) = bit (look 0 e.undel (n / 32)) (n % 32)) ∧
         (∀ g, g < 32 → bit (t.target tg).holding g = (bit e.holding g || (decide (∃ n ∈ ns, n / 32 = g) && bits (look 0 e.hold g) 15 0 != 0))) ∧
         ((tg ≠ .host ∨ s.hr.pcie = false) → t.hr = s.hr ∧ (t.target tg).request = true ∧ (t.target tg).msix = e.msix) ∧
         (tg = .host → s.hr.pcie = true → (t.target tg).request = e.request ∧
           (t.target tg).msix = e.msix ++ (groupsOf ns).filter (fun g => !vectorMasked s.hr g) ∧
           ∀ g, g < 32 → bit t.hr.pba g = (bit s.hr.pba g || (decide (∃ n ∈ ns, n / 32 = g) && vectorMasked s.hr g))) ∧
         (e.threshold = true → (t.target tg).idle = e.idle ∧ (t.target tg).stack = e.stack ∧ (t.target tg).rpri = e.rpri) ∧
         (e.threshold = false → (t.target tg).idle = false ∧ (t.target tg).stack = (e.idle, e.rpri) :: e.stack ∧
           (∃ n ∈ ns, e.levelOf n = (t.target tg).rpri) ∧ ∀ n ∈ ns, e.levelOf n ≤ (t.target tg).rpri)) ∧
     (∀ n, tableWf 0 e.undel = true → n < 1024 → (n ∈ ns ↔
       bit (look 0 e.pend (n / 32)) (n % 32) = true ∧ bit (look 0 e.undel (n / 32)) (n % 32) = true ∧ bit (e.maskWord (n / 32)) (n % 32) = false ∧
       bit e.holding (n / 32) = false ∧ routedAnywhere s.evc n = true ∧
       (e.threshold = false → e.idle = true ∨ e.rpri < e.levelOf n) ∧
       (e.threshold = true → e.depth = 0 ∨ (e.depth < 16 ∧ bits e.ctrl 19 16 < e.levelOf n)))) ∧
     ((e.enable = false ∨ ns = []) → exec (.interruptDelivery tg) s = .next s) ∧
     (reached → 0 < e.depth → e.threshold = true →
       ∃ t, exec (.endOfInterrupt tg) s = .next t ∧ { t with evc := s.evc } = s ∧ (∀ k, k ≠ tg → t.target k = s.target k) ∧
         t.target tg = { e with depth := e.depth - 1, request := (e.request && decide (e.depth ≠ 1)) || !e.bells.isEmpty }) ∧
     (∀ i r rest, reached → 0 < e.depth → e.threshold = false → e.stack = (i, r) :: rest →
       ∃ t, exec (.endOfInterrupt tg) s = .next t ∧ { t with evc := s.evc } = s ∧ (∀ k, k ≠ tg → t.target k = s.target k) ∧
         t.target tg = { e with stack := rest, idle := i, rpri := r, depth := e.depth - 1, request := (e.request && decide (e.depth ≠ 1)) || !e.bells.isEmpty }) ∧
     (reached → e.depth = 0 →
       ∃ t, exec (.endOfInterrupt tg) s = .next t ∧ { t with evc := s.evc } = s ∧ (∀ k, k ≠ tg → t.target k = s.target k) ∧
         t.target tg = { e with eoiErr := true }) ∧
     (∀ (g : BitVec 5) (v hw : W32), reached → tableWf 0 e.pend = true → tableWf 0 e.undel = true →
       ∃ t, exec (.evcPendWrite tg g v hw) s = .next t ∧ { t with evc := s.evc } = s ∧
         (∀ k, k < 32 → bit (look 0 (t.target tg).pend g.toNat) k = (bit v k || bit hw k)) ∧
         (hw = 0 → look 0 (t.target tg).undel g.toNat = v ∧ (∀ k, k ≠ tg → t.target k = s.target k) ∧
           { t.target tg with pend := e.pend, undel := e.undel } = e ∧ ∀ j, j ≠ g.toNat → look 0 (t.target tg).undel j = look 0 e.undel j) ∧
         ∀ j, j ≠ g.toNat → look 0 (t.target tg).pend j = look 0 e.pend j) ∧
     (∀ v : W32, reached →
       ∃ t, exec (.evcCtrlPmodeWrite tg v) s = .next t ∧ { t with evc := s.evc } = s ∧ (∀ k, k ≠ tg → t.target k = s.target k) ∧
         (bit v 30 = e.threshold → t.target tg = { e with ctrl := v &&& 0xC00F0000 }) ∧
         (bit v 30 ≠ e.threshold →
           t.target tg = { e with ctrl := v &&& 0xC00F0000, depth := 0, stack := [], idle := true, rpri := 0, request := !e.bells.isEmpty })) ∧
     (∀ (g : BitVec 5) (v : W32), ¬reached → exec (.endOfInterrupt tg) s = .next s ∧ exec (.evcPendWrite tg g v 0) s = .next s ∧
       exec (.evcCtrlPmodeWrite tg v) s = .next s) ∧
     ∀ g : BitVec 5,
       ∃ t, exec (.holdOffExpiry tg g) s = .next t ∧ { t with evc := s.evc } = s ∧ (∀ k, k ≠ tg → t.target k = s.target k) ∧
         t.target tg = { e with holding := setBit e.holding g.toNat false })

/-- R394 to R400: the recorder writes the first event of its queue into the slot at the head, or merges it into the newest
newest record, then reports what its full queue lost; a write that power cuts short leaves the slot invalid (a free value, log 109).
A freeze stops the ring for 10 s at most: while it lasts, and until the drain, a write leaves the machine as it is. The drain
writes the holding queue's events one by one into the slots from the head on, each a record of its own with the next number, then
what the queue lost, then its own record. The window shows the slot at the cursor. While HR's port is held in reset its registers
take no access (R26). Completes recordWrite, recCtrlFreezeSet, recCtrlFreezeClear, freezeExpiry, recorderDrainComplete,
recWinFirstRead and recWinLastRead. -/
def Obligations.RecorderFollowsItsRules : Prop :=
  ∀ s : State, s.powered = true →
    (let r := s.recd
     let newest := r.slot (r.head.toNat + (ringSlots - 1))
     (∀ e rest, brownOutNext s = false → r.frozen = false → r.draining = false → r.inq = e :: rest → r.lostIn = 0 →
       ((newest.rseq = 0 ∨ mergeable r.rwin e.opTime newest e = false) →
         ∃ t, exec .recordWrite s = .next t ∧ { t with recd := s.recd, evc := s.evc } = s ∧ t.recd.inq = rest ∧
           t.recd.head = r.head + 1 ∧ t.recd.seqNo = nextRseq r.seqNo ∧ t.recd.slot r.head.toNat = { e with rseq := nextRseq r.seqNo } ∧
           (∀ k, k < ringSlots → k ≠ r.head.toNat → t.recd.slot k = r.slot k) ∧
           (r.sevt.toNat ≤ e.sev.toNat → Raised t 608)) ∧
       (newest.rseq ≠ 0 → mergeable r.rwin e.opTime newest e = true →
         ∃ t, exec .recordWrite s = .next t ∧ { t with recd := s.recd } = s ∧ t.recd.inq = rest ∧ t.recd.head = r.head ∧ t.recd.seqNo = r.seqNo ∧
           t.recd.slot (r.head.toNat + (ringSlots - 1)) = mergeOne e.opTime newest)) ∧
     (∀ e rest, brownOutNext s = true → tableWf {} r.ring = true → r.frozen = false → r.draining = false → r.inq = e :: rest → r.lostIn = 0 →
       (newest.rseq = 0 ∨ mergeable r.rwin e.opTime newest e = false) →
         ∃ t, exec .recordWrite s = .next t ∧ { t with recd := s.recd, evc := s.evc, free := s.free } = s ∧ t.recd.inq = rest ∧
           (t.recd.slot r.head.toNat = { e with rseq := nextRseq r.seqNo } ∨ (t.recd.slot r.head.toNat).rseq = 0) ∧
           (∀ k, k < ringSlots → k ≠ r.head.toNat → t.recd.slot k = r.slot k)) ∧
     (∀ e rest, brownOutNext s = false → r.frozen = false → r.draining = false → r.inq = e :: rest → r.lostIn ≠ 0 →
       (newest.rseq = 0 ∨ mergeable r.rwin e.opTime newest e = false) →
         ∃ t, exec .recordWrite s = .next t ∧ { t with recd := s.recd, evc := s.evc } = s ∧ t.recd.inq = rest ∧ t.recd.lostIn = 0 ∧
           t.recd.head = r.head + 2 ∧ t.recd.slot r.head.toNat = { e with rseq := nextRseq r.seqNo } ∧
           (t.recd.slot (r.head.toNat + 1)).code = 0x2601 ∧ (t.recd.slot (r.head.toNat + 1)).p1.toNat = min r.lostIn (2 ^ 32 - 1) ∧
           (t.recd.slot (r.head.toNat + 1)).p2 = 2 ∧ Raised t 613) ∧
     ((r.frozen = true ∨ r.draining = true) → exec .recordWrite s = .next s) ∧
     (brownOutNext s = false → r.inq = [] → exec .recordWrite s = .next s) ∧
     (∀ v : W32, s.hr.running = true → r.frozen = false → r.draining = false →
       ∃ t, exec (.recCtrlFreezeSet v) s = .next t ∧ { t with recd := s.recd, evc := s.evc } = s ∧ t.recd.frozen = true ∧ t.recd.freeze = true ∧
         t.recd.inq = [] ∧ Raised t 610 ∧ t.recd.freezeStart = s.time.dtime ∧ t.recd.rwin.toNat = bits v 15 8 ∧ t.recd.sevt.toNat = bits v 2 0) ∧
     (∀ v : W32, s.hr.running = true → r.frozen = true →
       ∃ t, exec (.recCtrlFreezeClear v) s = .next t ∧ { t with recd := s.recd, evc := s.evc } = s ∧ t.recd.frozen = false ∧
         t.recd.draining = true ∧ t.recd.drainCause = 1 ∧ t.recd.holdq = r.holdq ∧ Raised t 611) ∧
     (r.frozen = true → freezeLeft s ≠ 0 → exec .freezeExpiry s = .next s) ∧
     (r.frozen = true → freezeLeft s = 0 →
       ∃ t, exec .freezeExpiry s = .next t ∧ Raised t 611 ∧ { t with recd := s.recd, evc := s.evc } = s ∧
         t.recd = { r with freeze := false, frozen := false, draining := true, drainCause := 3 }) ∧
     (r.draining = true → r.holdq.length + 2 ≤ ringSlots →
       (let n := r.holdq.length
        let own := n + (if r.lostHold = 0 then 0 else 1)
        ∃ t, exec .recorderDrainComplete s = .next t ∧ { t with recd := s.recd, evc := s.evc } = s ∧ t.recd.draining = false ∧
         t.recd.holdq = [] ∧ t.recd.drainCount = n ∧ t.recd.lostHold = 0 ∧ t.recd.head = r.head + BitVec.ofNat 19 (own + 1) ∧
         (∀ k, (h : k < n) → t.recd.slot (r.head.toNat + k) = { r.holdq[k] with rseq := nextRseq^[k + 1] r.seqNo }) ∧
         (r.lostHold ≠ 0 → (t.recd.slot (r.head.toNat + n)).code = 0x2601 ∧
           (t.recd.slot (r.head.toNat + n)).p1.toNat = min r.lostHold (2 ^ 32 - 1) ∧ (t.recd.slot (r.head.toNat + n)).p2 = 1 ∧ Raised t 613) ∧
         (t.recd.slot (r.head.toNat + own)).code = 0x2603 ∧ (t.recd.slot (r.head.toNat + own)).p1 = BitVec.ofNat 32 r.drainCause ∧
         (t.recd.slot (r.head.toNat + own)).p2 = BitVec.ofNat 32 n ∧
         ∀ k, own < k → k < ringSlots → t.recd.slot (r.head.toNat + k) = r.slot (r.head.toNat + k))) ∧
     (r.draining = false → exec .recorderDrainComplete s = .next s) ∧
     (s.hr.running = true →
       exec .recWinFirstRead s = .next { s with recd := { r with window := recordWords (r.slot r.cursor.toNat) } } ∧
       exec .recWinLastRead s = .next { s with recd := { r with cursor := r.cursor + 1 } }) ∧
     (∀ v : W32, s.hr.running = false → exec (.recCtrlFreezeSet v) s = .next s ∧ exec (.recCtrlFreezeClear v) s = .next s ∧
       exec .recWinFirstRead s = .next s ∧ exec .recWinLastRead s = .next s))

/-! ### Security (R403 to R433) -/

/-- R323, R407, R429 to R432, R458: a T1 event latches and counts; a T2 event erases the BBK, every key slot and MACsec's keys and turns
secrets off for good; in DORMANT the AR erases the BBK and logs; a failed entropy source stops the DRBG until a full test passes;
the MACsec operations derive the keys of a CAK, protect, wrap and install, and an SA names the slot that its SAK came from (log entry
126). Completes tamperT1, tamperT2, t1ConditionEnd,
dormantCheck, entropyFailure, entropyRetest, drbgReseed, srRestartComplete, srVerify and srMacsec. -/
def Obligations.TamperAndEntropyFollowTheirRules : Prop :=
  ∀ s : State,
    (s.powered = true → s.hr.pages = [] →
      (∀ sensor, 1 ≤ sensor → sensor ≤ 3 → (s.sec.t1Times.filter (fun t => decide (s.dev.rtc.toNat < t + 10 ^ 9))).length < 8 →
        ∃ t, exec (.tamperT1 sensor) s = .next t ∧ { t with sec := s.sec, recd := s.recd, evc := s.evc, dev := { t.dev with waitT1 := s.dev.waitT1 } } = s ∧ Raised t 616 ∧
          (s.dev.dstate = .start → s.dev.startStep = 2 → t.dev.waitT1 = true) ∧
          t.sec.t1 = true ∧ t.sec.t1Latched = true ∧ t.sec.t1Count = satInc s.sec.t1Count ∧ t.sec.slots = s.sec.slots) ∧
      (∀ sensor, 4 ≤ sensor → sensor ≤ 6 → sensor ≠ 6 ∨ s.sec.loopEn = true →
        ∃ t, exec (.tamperT2 sensor) s = .next t ∧ Raised t 618 ∧ Raised t 623 ∧ t.sec.bbk = false ∧ t.sec.t2 = true ∧
          t.sec.secretsOn = false ∧ t.sec.secOff = true ∧ (∀ n, (t.kslot n).full = false) ∧ (∀ p, (t.port p).sas = [] ∧ (t.port p).sak = []) ∧
          ∀ er, t.region er = s.region er)) ∧
    (s.powered = true → s.sec.t1 = true → s.sec.heldPage = none → s.dev.dstate = .run →
      ∃ t, exec .t1ConditionEnd s = .next t ∧ t.sec.t1 = false ∧ Raised t 617 ∧ t.dev.waitT1 = false ∧
        { t with sec := s.sec, dev := s.dev, evc := s.evc } = s) ∧
    (∀ meshOk loopOk, s.dev.dstate = .dormant → (meshOk = false ∨ (loopOk = false ∧ s.sec.loopEn = true)) →
      ∃ t, exec (.dormantCheck meshOk loopOk) s = .next t ∧ { t with sec := s.sec } = s ∧ t.sec.bbk = false ∧
        t.sec.tamperLog = s.sec.tamperLog ++ (dormantCells s meshOk loopOk).take (4 - s.sec.tamperLog.length)) ∧
    (s.powered = true → s.sec.t1 = true → s.dev.dstate = .run → ∀ p j, s.sec.heldPage = some p → s.sec.journal = some j → j.committed = false →
      tableWf ({} : Auth) s.sec.parts = true →
      ∃ t, exec .t1ConditionEnd s = .next t ∧ t.sec.t1 = false ∧ t.sec.heldPage = none ∧ Raised t 617 ∧ Raised t 619 ∧
        t.sec.journal = some { j with committed := true } ∧ (authority t j.skind j.spart.toNat).counter = j.counter ∧
        (t.page p).stat = Stat.ok.code ∧ (t.page p).busy = false ∧ (t.page p).resp = leBytes 8 j.counter.toNat) ∧
    (∀ kind, s.powered = true → s.img.update = none →
      ∃ t, exec (.entropyFailure kind) s = .next t ∧ t.sec = { s.sec with drbgOn := false } ∧ Raised t 621 ∧
        { t with sec := s.sec, recd := s.recd, evc := s.evc } = s) ∧
    (s.powered = true → s.sec.drbgOn = false → bit s.sec.kat 7 = false →
      ∃ t, exec (.entropyRetest true) s = .next t ∧ { t with sec := s.sec } = s ∧
        t.sec = { s.sec with drbgOn := true, drbgReqs := 0, drbgIdx := s.sec.drbgIdx + 1 }) ∧
    (s.powered = true → s.sec.drbgOn = true → bit s.sec.kat 7 = false →
      ∃ t, exec .drbgReseed s = .next t ∧ { t with sec := s.sec } = s ∧
        t.sec = { s.sec with drbgReqs := 0, drbgIdx := s.sec.drbgIdx + 1 }) ∧
    (s.powered = true → s.sec.running = false → s.img.update = none →
      exec .srRestartComplete s = .next { s with sec := { s.sec with running := true } }) ∧
    (∀ key msg sig, s.powered = true → s.sec.running = true → bit s.sec.kat 0 = false →
      exec (.srVerify key msg sig) s = .next { s with sec := { s.sec with
        reply := [if key ≠ [] ∧ key ∈ storedKeys s ∧ Config.slhVerify key msg sig = true then 1 else 0] } }) ∧
    ∀ p : Port, s.powered = true → s.sec.running = true → s.sec.secretsOn = true → s.sec.kat = 0 →
      s.sec.t1 = false → cakUsable s p = true →
      (∃ t, exec (.srMacsec (.derive p)) s = .next t ∧ t.port p = { s.port p with ick := ickOf s p, kek := kekOf s p, kekSlot := (s.port p).cakSlot } ∧
        t.port (otherPort p) = s.port (otherPort p) ∧ { t with net := s.net, sec := { t.sec with reply := s.sec.reply } } = s) ∧
      (∀ pdu, exec (.srMacsec (.icv p pdu)) s = .next { s with sec := { s.sec with reply := Config.cmac (s.port p).ick pdu } }) ∧
      exec (.srMacsec (.wrapSak p)) s = .next { s with sec := { s.sec with reply := Config.kwWrap (s.port p).kek (s.port p).sak } } ∧
      (s.sec.drbgOn = true →
        ∃ t, exec (.srMacsec (.genSak p)) s = .next t ∧ t.port p = { s.port p with sak := Config.drbg s.sec.drbgIdx 32, sakSlot := (s.port p).kekSlot } ∧
          t.sec.drbgIdx = s.sec.drbgIdx + 1 ∧ t.port (otherPort p) = s.port (otherPort p) ∧ { t with net := s.net, sec := s.sec } = s) ∧
      ∀ (rx : Bool) (sci : W64) (an : BitVec 2),
        (∀ (ssci : W32) (salt : Bytes), rx = false ∨ ((s.port p).sas.filter (fun a => a.receive)).length < 16 →
          ∃ t, exec (.srMacsec (.installSa p rx sci an ssci salt)) s = .next t ∧ OnlyPort p s t ∧
            (t.port p).sas = (s.port p).sas.filter (fun a =>
              !(a.receive == rx && a.sci == sci && a.an == an) && (rx || a.receive || a.sci == sci)) ++
              [if bit (s.port p).macsec 1 then
                { receive := rx, sci := sci, an := an, key := (s.port p).sak, ssci := ssci, salt := salt, slot := (s.port p).sakSlot }
               else { receive := rx, sci := sci, an := an, key := (s.port p).sak, slot := (s.port p).sakSlot }]) ∧
        ∃ t, exec (.srMacsec (.deleteSa p rx sci an)) s = .next t ∧ OnlyNet s t ∧
          (t.port p).sas = (s.port p).sas.filter (fun a => !(a.receive == rx && a.sci == sci && a.an == an)) ∧
          t.port (otherPort p) = s.port (otherPort p)

/-- R404 to R432: SR's commands: identity, random bytes, slot records, status, self-tests, sealing and unsealing under the current
MORDANT, PMAC under a slot of the partition, and attestation. R423 to R426: a key update that fails a check is refused with the
check's number and changes no key, authority or counter; one that passes them all is committed whole, and the signer's counter
becomes the message's, which is above it; one that a tamper event, a reset or a loss of power cuts short leaves nothing, or its
journal, or is whole, as a free value says. The model's choices: SR's commands are atomic but for that (log entry 61), the header of
a blob (log entry 25), which tests fail (log entry 32). Completes random, slotInfo, srStatus, selftest, identity, seal, unseal, pmac, attest and
keyUpdate. -/
def Obligations.SecurityCommandsFollowTheirRules : Prop :=
  (∀ (s : State) (p : BitVec 7), MbxOpen s → s.sec.running = true →
     ((∀ len : W32, s.sec.drbgOn = true → 1 ≤ len.toNat → len.toNat ≤ 256 →
        Asked s (.random p len) → ∃ t, exec (.random p len) s = .next t ∧ Answered s t p .ok (Config.drbg s.sec.drbgIdx len.toNat) ∧
          t.sec.drbgIdx = s.sec.drbgIdx + 1 ∧ { t with hr := s.hr, evc := s.evc, sec := s.sec } = s) ∧
      (∀ first count : W32, first.toNat + count.toNat ≤ 256 → count.toNat ≤ 128 → (s.page p).bulk = false → bit s.sec.kat 5 = false → s.sec.shut = false →
        Asked s (.slotInfo p first count) → ∃ t, exec (.slotInfo p first count) s = .next t ∧
          ReadAnswered s t p ((((List.range count.toNat).map (fun k => first.toNat + k)).filter (fun n => p == 0 || (s.kslot n).owner == p)).flatMap (slotRecord s))) ∧
      (p = 0 → Asked s (.srStatus p) → ∃ t, exec (.srStatus p) s = .next t ∧ ReadAnswered s t p (leBytes 4
        (s.sec.secretsOn.toNat * 2 ^ 31 + s.sec.drbgOn.toNat * 2 ^ 30 + (srOnTrial s).toNat * 2 ^ 29 + s.sec.t1Count.toNat))) ∧
      (p = 0 → s.sec.defects = 0 → Asked s (.selftest p 0) → ∃ t, exec (.selftest p 0) s = .next t ∧ ReadAnswered s t p (leBytes 4 0)) ∧
      (p = 0 → s.img.update = none → s.sec.defects = 0 →
        Asked s (.selftest p 0x80) →
        ∃ t, exec (.selftest p 0x80) s = .next t ∧ Answered s t p .ok (leBytes 4 0x80) ∧ Raised t 622 ∧ bit t.sec.kat 7 = true ∧
          t.sec.drbgOn = false ∧ { t with hr := s.hr, evc := s.evc, sec := s.sec, recd := s.recd } = s) ∧
      (s.sec.secretsOn = true → s.sec.kat = 0 → s.sec.t1 = false →
        ((s.page p).bulk = true → (s.page p).toHost = true → (s.page p).segm = true →
          Asked s (.identity p) →
          ∃ t, exec (.identity p) s = .next t ∧ (t.page p).stat = Stat.ok.code ∧ (t.page p).busy = false ∧ (t.page p).valid = true ∧
            (∃ rest, (t.page p).object = some (deviceId ++ fitBytes 64 idPublic ++ fitBytes 1568 (Config.mlkemPublic idKemSeeds) ++ rest)) ∧
            { t with hr := s.hr, evc := s.evc } = s) ∧
        (∀ (slot : W32), (s.page p).bulk = true → (s.page p).toHost = true → (s.page p).segm = true → slot.toNat < 256 →
          (slot = 0xFF ∨ usable416 (s.kslot slot.toNat) 1 p = true) →
          (∀ data : Bytes, s.sec.drbgOn = true → data.length ≤ 65536 →
            Asked s (.seal p slot 0 data) →
            ∃ t, exec (.seal p slot 0 data) s = .next t ∧ (t.page p).stat = Stat.ok.code ∧ (t.page p).busy = false ∧
              (let h := sealHeader p slot data.length 0
               let c := Config.gcmSeal (sealKey s.sec.mordant p (slotValue s (slotArg slot))) (Config.drbg s.sec.drbgIdx 12) h data
               (let blob := h ++ Config.drbg s.sec.drbgIdx 12 ++ c.1 ++ c.2
                (t.page p).object = some blob ∧ t.img = (keepBlob s blob).img)) ∧
              t.sec.drbgIdx = s.sec.drbgIdx + 1 ∧ { t with hr := s.hr, evc := s.evc, sec := s.sec, img := s.img } = s) ∧
          (∀ nonce c tag : Bytes, nonce.length = 12 → c.length ≤ 65536 → tag.length = 16 →
            Asked s (.unseal p (sealHeader p slot c.length 0 ++ nonce ++ c ++ tag)) →
            ∃ t, exec (.unseal p (sealHeader p slot c.length 0 ++ nonce ++ c ++ tag)) s = .next t ∧ { t with hr := s.hr, evc := s.evc } = s ∧
              (match Config.gcmOpen (sealKey s.sec.mordant p (slotValue s (slotArg slot))) nonce (sealHeader p slot c.length 0) c tag with
               | some plain => (t.page p).stat = Stat.ok.code ∧ (t.page p).object = some plain
               | none => Answered s t p .refused (leBytes 4 0)))) ∧
        (∀ (slot : W32) (tag data : Bytes), data.length ≤ 4096 → slot.toNat < 256 → usable416 (s.kslot slot.toNat) 3 p = true →
          (Asked s (.pmac p slot 0 tag data) →
            ∃ t, exec (.pmac p slot 0 tag data) s = .next t ∧ ReadAnswered s t p (Config.kmac256 (s.kslot slot.toNat).value data 32)) ∧
          (Config.kmac256 (s.kslot slot.toNat).value data 32 = tag →
            Asked s (.pmac p slot 1 tag data) → ∃ t, exec (.pmac p slot 1 tag data) s = .next t ∧ ReadAnswered s t p []) ∧
          (Config.kmac256 (s.kslot slot.toNat).value data 32 ≠ tag →
            Asked s (.pmac p slot 1 tag data) →
            ∃ t, exec (.pmac p slot 1 tag data) s = .next t ∧ Answered s t p .macMismatch (leBytes 4 0) ∧ { t with hr := s.hr, evc := s.evc } = s)) ∧
        (∀ (slot : W32) (nonce : Bytes), nonce.length = 32 → (s.page p).bulk = true → (s.page p).toHost = true → (s.page p).segm = true →
          Asked s (.attest p 1 slot nonce) →
          ∃ t, exec (.attest p 1 slot nonce) s = .next t ∧ (t.page p).stat = Stat.ok.code ∧ (t.page p).busy = false ∧
            (t.page p).object = some (report s p none nonce) ∧ { t with hr := s.hr, evc := s.evc } = s)))) ∧
  (∀ (s : State) (p : BitVec 7) (msg : Bytes), MbxOpen s → s.sec.running = true → s.dev.pfwLow = false → s.img.update = none →
     s.sec.secretsOn = true → s.sec.kat = 0 → s.sec.t1 = false →
     (cutsShort s = true → failedCheck s p msg = none → Asked s (.keyUpdate p msg) →
       ∀ w : W64, w = Config.freeValue s.free →
       (w.toNat % 3 = 0 → ∃ t, exec (.keyUpdate p msg) s = .next t ∧ { t with hr := s.hr, free := s.free } = s ∧
         t.free = s.free + 1 ∧ t.page p = s.page p) ∧
       (w.toNat % 3 = 1 → ∃ t, exec (.keyUpdate p msg) s = .next t ∧ { t with hr := s.hr, free := s.free, sec := s.sec } = s ∧
         t.page p = s.page p ∧ t.sec = { s.sec with journal := some (journalOf s msg), heldPage := some p }) ∧
       (w.toNat % 3 = 2 → ∃ t, exec (.keyUpdate p msg) s = .next t ∧
         Answered s t p .ok (leBytes 8 (kCounter msg).toNat) ∧ t.sec.journal.map Journal.committed = some true)) ∧
     (cutsShort s = false → Asked s (.keyUpdate p msg) → ∃ t, exec (.keyUpdate p msg) s = .next t ∧
       (match failedCheck s p msg with
        | some n => Answered s t p .refused (leBytes 4 n) ∧ Raised t 620 ∧ { t with hr := s.hr, evc := s.evc, recd := s.recd } = s
        | none => Answered s t p .ok (leBytes 8 (kCounter msg).toNat) ∧ Raised t 619 ∧
          (authority t (kKind msg) (kPart msg)).counter = kCounter msg ∧
          (authority s (kKind msg) (kPart msg)).counter.toNat < (kCounter msg).toNat ∧
          t.sec.journal.map Journal.committed = some true)))
/-! ### Images and updates (R436 to R459) -/

/-- R136, R438, R439, R459: a container whose header passes opens a transfer and empties its slot, one that fails is refused with the
check's number and leaves every slot as it was; the last byte decides by the digest whether the slot holds the image. Completes
imageWrite, programLoad, imageBodyComplete, imageBodyTimeout and slotStatus. -/
def Obligations.ImageTransfersAreCheckedTwice : Prop :=
  ∀ (s : State) (p : BitVec 7), s.powered = true → tableWf (none : Option Transfer) s.img.transfers = true →
    (∀ (target : W32) (c : Bytes), MbxOpen s → s.sec.running = true → s.dev.pfwLow = false → p = 0 → headerLen ≤ c.length →
      c.length ≤ headerLen + hBody c → 1 ≤ bits target 7 0 → bits target 7 0 ≤ 4 → bits target 31 17 = 0 → bits target 15 9 = 0 →
      (bit target 8 = true → 2 ≤ bits target 7 0) → transferOf s p = none → writable (imgSlot s.img (bits target 7 0) target.toNat) = true →
      slotInUse s (bits target 7 0) = false →
      Asked s (.imageWrite p target c) → ∃ t, exec (.imageWrite p target c) s = .next t ∧
        (match headerFails s p (bits target 7 0) c with
         | some n => Answered s t p .refused (leBytes 4 n) ∧ Raised t 664 ∧ { t with hr := s.hr, evc := s.evc, recd := s.recd } = s
         | none => transferOf t p = some { itype := bits target 7 0, target := target.toNat, container := c } ∧
           (imgSlot t.img (bits target 7 0) target.toNat).state = .empty ∧ { t with img := s.img } = s)) ∧
    (∀ c : Bytes, MbxOpen s → s.sec.running = true → s.dev.pfwLow = false → headerLen ≤ c.length → c.length ≤ headerLen + hBody c →
      transferOf s p = none → look none s.image.waiting p.toNat = none → storeUse s (otherStore s p.toNat) + hBody c ≤ slotSize 6 →
      Asked s (.programLoad p c) → ∃ t, exec (.programLoad p c) s = .next t ∧
        (match headerFails s p 6 c with
         | some n => Answered s t p .refused (leBytes 4 n) ∧ Raised t 664 ∧ { t with hr := s.hr, evc := s.evc, recd := s.recd } = s
         | none => transferOf t p = some { itype := 6, target := 0, container := c } ∧
           { t with img := { t.img with transfers := s.img.transfers } } = s)) ∧
    (∀ x : Transfer, transferOf s p = some x → 1 ≤ x.itype → x.itype ≤ 5 →
      (x.container.length = headerLen + hBody x.container →
        ∃ t, exec (.imageBodyComplete p) s = .next t ∧ transferOf t p = none ∧ Raised t 664 ∧
          { t with img := s.img, hr := s.hr, evc := s.evc, recd := s.recd } = s ∧
          (if Config.shake256 (x.container.drop headerLen) 64 = hDigest x.container then
             (imgSlot t.img x.itype x.target).image x.itype = x.container ∧ (t.page p).stat = Stat.ok.code
           else (imgSlot t.img x.itype x.target).state = .empty ∧ (imgSlot t.img x.itype x.target).images = [] ∧
             Answered s t p .refused (leBytes 4 9))) ∧
      (x.container.length < headerLen + hBody x.container →
        ∃ t, exec (.imageBodyTimeout p) s = .next t ∧ transferOf t p = none ∧ Raised t 664 ∧ Answered s t p .refused (leBytes 4 9) ∧
          (imgSlot t.img x.itype x.target).state = .empty ∧ { t with img := s.img, hr := s.hr, evc := s.evc, recd := s.recd } = s)) ∧
    (p = 0 → MbxOpen s →
      Asked s (.slotStatus p) → ∃ t, exec (.slotStatus p) s = .next t ∧
        (let e (ty region slot : Nat) : List (Nat × Nat) :=
           let w := ty + region * 256 + slot * 65536
           let x := imgSlot s.img ty w
           [(4, w), (4, x.state.code), (4, (imgVersion (x.image ty)).toNat), (4, (imgCfmt (x.image ty)).toNat)]
         ReadAnswered s t p (layout (e 3 0 0 ++ e 3 0 1 ++ e 3 1 0 ++ e 3 1 1 ++ e 1 0 0 ++ e 1 0 1 ++ e 5 0 0 ++ e 5 0 1))))

/-- R446, R448 to R458: an update starts on READY images and takes SR or the STANDBY region down to load them; a trial is
confirmed once its shortest time has passed, ends without completion at its window, and a cancelled update ends at once; the
snapshot goes into the half that does not hold the newest one, and one that PFW_N interrupts is whole or invalid. The model's choices:
the announced version and format, and the role that an update goes on with (log entry 36), the order of a fallback (log entry 27), an
interrupted snapshot (log entry 109). Completes updateStart, updateContinue, updateCancel, trialConfirm, trialWindowExpiry, trialCriterionWindow and retainSnapshot. -/
def Obligations.UpdatesRunThroughTheirTrial : Prop :=
  ∀ (s : State) (p : BitVec 7), s.powered = true →
    (MbxOpen s → p = 0 →
      (s.sec.running = true → s.img.update = none → (newSr s.img).state = .ready →
        Asked s (.updateStart p 1) → ∃ t, exec (.updateStart p 1) s = .next t ∧ Answered s t p .ok [] ∧ t.sec.running = false ∧
          t.sec.announce = some (mordantOf (newMeasurements s true false)) ∧
          t.sec.storeCopy = some (storeKeyOf (mordantOf ((newMeasurements s true false).take 2))) ∧
          t.img.update = some { sr := true, version := imgVersion ((newSr s.img).image 1) }) ∧
      (s.sec.running = true → s.img.update = none → s.duplex = true → (newFw s.img .A).state = .ready → (newFw s.img .B).state = .ready →
        imgCfmt ((newFw s.img .A).image 3) = s.dev.cfmt →
        Asked s (.updateStart p 0) →
        ∃ t, exec (.updateStart p 0) s = .next t ∧ Answered s t p .ok [] ∧ t.serving (otherEr s.pair.active) = false ∧
          t.pair.active = s.pair.active ∧
          t.img.update = some { sr := false, trialOf := some (otherEr s.pair.active), version := imgVersion ((newFw s.img .A).image 3) }) ∧
      (∀ u er, s.img.update = some u → u.trialOf = some er → u.sr = false → u.onTrial = false → (newFw s.img er).state = .passed →
        (newFw s.img (otherEr er)).state = .ready → s.duplex = true →
        Asked s (.updateContinue p) →
        ∃ t, exec (.updateContinue p) s = .next t ∧ Answered s t p .ok [] ∧ t.serving (otherEr er) = false ∧ t.pair.active = er ∧
          t.img.update = some { u with trialOf := some (otherEr er) }) ∧
      (∀ u, s.img.update = some u →
        Asked s (.updateCancel p) →
        ∃ t, exec (.updateCancel p) s = .next t ∧ Answered s t p .ok [] ∧ t.img.update = none ∧ Raised t 667 ∧ t.sec.announce = none)) ∧
    (∀ u er, s.img.update = some u → u.onTrial = true → u.sr = false → u.trialOf = some er →
      (hdr (trialImage s u) 0xBC 4 ≤ s.dev.opTime.toNat - u.trialStart.toNat →
        s.dev.opTime.toNat - u.trialStart.toNat < imgTwin (trialImage s u) → (newFw s.img er).state = .trial →
        (newFw s.img (otherEr er)).state = .ready →
        ∃ t, exec .trialConfirm s = .next t ∧ (newFw t.img er).state = .passed ∧ t.img.update = some { u with onTrial := false } ∧
          Raised t 666 ∧ { t with img := s.img, evc := s.evc, recd := s.recd } = s) ∧
      (imgTwin (trialImage s u) ≤ s.dev.opTime.toNat - u.trialStart.toNat →
        ∃ t, exec .trialWindowExpiry s = .next t ∧ t.img.update = none ∧ Raised t 667 ∧ (∀ k, (newFw t.img k).trying = false)) ∧
      ((fixedTicks s).any (fun e => u.lastFixed.contains e) = false →
        exec .trialCriterionWindow s = .next { s with img := { s.img with update := some { u with lastFixed := fixedTicks s } } })) ∧
    (s.dev.dstate = .run → s.dev.pfwLow = false → s.image.tick.toNat % 10000 = 0 →
      (warningNext s = false → exec .retainSnapshot s = .next { s with
        img := if newest1 s.img then { s.img with retain0 := snapshotOf s } else { s.img with retain1 := snapshotOf s } }) ∧
      (warningNext s = true → ∃ t x, exec .retainSnapshot s = .next t ∧ (x = snapshotOf s ∨ x.valid = false) ∧
        { t with free := s.free } = { s with
          img := if newest1 s.img then { s.img with retain0 := x } else { s.img with retain1 := x } }))

/-! ### The Golup scan code (R115 to R134) -/

/-- R117, R121: the word of a Golup instruction decodes to the instruction, with every operand at every value. -/
def Obligations.GolupEncodeThenDecode : Prop :=
  ∀ (id : EngId) (i : Instr) (w : W64), golupEngine i = some id → Golup.encodeWord i = some w → Golup.decodeWord id w = some i

/-- R117, R120: each word that decodes is the word of what it decodes to, so no two words spell one instruction and no
reserved bit is dropped. -/
def Obligations.GolupDecodeThenEncode : Prop :=
  ∀ (id : EngId) (w : W64) (i : Instr), Golup.decodeWord id w = some i → golupEngine i = some id ∧ Golup.encodeWord i = some w

/-- R115, R117, R121: the 33 instructions of format O that write `WD`: `WD` takes the value (a write to W0 is discarded), `CB`
takes the status when `CW` is 1, the next word is next, and nothing else changes. The 12 compares and tests of format O: `CB`
takes the result whatever `CW` says, the next word is next, and nothing else changes. An instruction without a status writes 0 under
`CW` (the model's choice: log entry 89). Completes the 45 instructions of `operateRows` and `testRows`: mov, movu, movh, movc, rdf,
sel, mux, add, sub, adds, subs, mul, muls, div, modW, minW, maxW, negW, absW, sqrt, cvt, fma, limit, scale, andW, orW, xorW, andn,
notW, shl, shr, sar, ext; ceq, cne, clt, cle, cgt, cge, cltu, cleu, cgtu, cgeu, btst, clog. -/
def Obligations.GolupOperateInstructionsComplete : Prop :=
  (∀ row ∈ operateRows, ∀ (s : State) (id : EngId) (f : OFields) (c : Ctx), (row.instr id f).wf = true →
    OnEngine s id c → InTime (row.need f c) c →
    ∃ t, exec (row.instr id f) s = .next t ∧ GolupFrame id s t ∧
      (let e := engineOf (t.region id.er) id.n
       RegsKept [f.wd.toNat] c.e e ∧ e.reg f.wd.toNat = (if f.wd = 0 then 0 else (row.value f c).1) ∧
       CondsKept [f.cb.toNat] c.e e ∧ e.cond f.cb.toNat = (if f.cw then (row.value f c).2 else c.e.cond f.cb.toNat) ∧
       e.pc = c.e.pc + 8 ∧ issueCycle c.e (row.need f c) < e.cyc ∧ e.stack = c.e.stack ∧ e.scr = c.e.scr ∧ e.faults = c.e.faults ∧
       JournalKept c.e e ∧ EngineRestKept c.e e ∧ OverlayKept c.e e)) ∧
  (∀ row ∈ testRows, ∀ (s : State) (id : EngId) (f : OFields) (c : Ctx), (row.instr id f).wf = true →
    OnEngine s id c → InTime (row.need f c) c →
    ∃ t, exec (row.instr id f) s = .next t ∧ GolupFrame id s t ∧
      (let e := engineOf (t.region id.er) id.n
       RegsKept [] c.e e ∧ CondsKept [f.cb.toNat] c.e e ∧ e.cond f.cb.toNat = row.value f c ∧
       e.pc = c.e.pc + 8 ∧ issueCycle c.e (row.need f c) < e.cyc ∧ e.stack = c.e.stack ∧ e.scr = c.e.scr ∧ e.faults = c.e.faults ∧
       JournalKept c.e e ∧ EngineRestKept c.e e ∧ OverlayKept c.e e))

/-- R121, R125: what the integer and bitwise instructions compute, and their status: sums, differences, products, negation and
absolute value wrap, with signed overflow as status, or saturate; a quotient truncates towards zero and a remainder has the sign of
`WA`; by zero, and the most negative value by -1, as R125 says; MIN, MAX and LIMIT; AND, OR, XOR, ANDN and NOT bit by bit, on bit [0]
alone for BOOL; shifts below the width and at it; compares; CVT among the integer types and BOOL. An INT32 result is
sign-extended. -/
def Obligations.IntegerResultsFollowTwosComplement : Prop :=
  (∀ (ty : Ty) (a b d : W64), ty.integer = true →
    (let w := intWidth ty
     let x := readInt ty a
     let y := readInt ty b
     let lo : Int := -(2 ^ (w - 1) : Nat)
     let hi : Int := (2 ^ (w - 1) : Nat) - 1
     let laid (r : W64) : Prop := ty = .int32 → r = (r.setWidth 32 : W32).signExtend 64
     let wraps (r : W64 × Bool) (v : Int) : Prop := readInt ty r.1 = v.bmod (2 ^ w) ∧ r.2 = decide (v < lo ∨ hi < v) ∧ laid r.1
     let saturates (r : W64 × Bool) (v : Int) : Prop := readInt ty r.1 = max lo (min v hi) ∧ r.2 = decide (v < lo ∨ hi < v) ∧ laid r.1
     let gives (r : W64 × Bool) (v : Int) (st : Bool) : Prop := readInt ty r.1 = v ∧ r.2 = st ∧ laid r.1
     wraps (addResult ty a b) (x + y) ∧ wraps (subResult ty a b) (x - y) ∧ wraps (mulResult ty a b) (x * y) ∧
     wraps (negResult ty a) (-x) ∧ wraps (absResult ty a) x.natAbs ∧
     (x = lo → (negResult ty a).2 = true ∧ readInt ty (negResult ty a).1 = lo ∧ (absResult ty a).2 = true ∧ readInt ty (absResult ty a).1 = lo) ∧
     saturates (addsResult ty a b) (x + y) ∧ saturates (subsResult ty a b) (x - y) ∧ saturates (mulsResult ty a b) (x * y) ∧
     (y = 0 → gives (divResult ty a b) (if x > 0 then hi else if x < 0 then lo else 0) true ∧ gives (modResult ty a b) 0 true) ∧
     (x = lo → y = -1 → gives (divResult ty a b) hi true ∧ gives (modResult ty a b) 0 false) ∧
     (y ≠ 0 → ¬(x = lo ∧ y = -1) → gives (divResult ty a b) (x.tdiv y) false ∧ gives (modResult ty a b) (x.tmod y) false ∧
       x = y * x.tdiv y + x.tmod y ∧ (0 ≤ x → 0 ≤ x.tmod y) ∧ (x ≤ 0 → x.tmod y ≤ 0) ∧ (x.tmod y).natAbs < y.natAbs) ∧
     gives (minResult ty a b) (min x y) false ∧ gives (maxResult ty a b) (max x y) false ∧
     gives (limitResult ty d a b) (max x (min (readInt ty d) y)) false ∧
     compare .eq ty a b = decide (x = y) ∧ compare .ne ty a b = decide (x ≠ y) ∧ compare .lt ty a b = decide (x < y) ∧
     compare .le ty a b = decide (x ≤ y) ∧ compare .gt ty a b = decide (y < x) ∧ compare .ge ty a b = decide (y ≤ x) ∧
     ∀ (dst : Ty) (tz : Bool), dst.integer = true →
       (let least : Int := -(2 ^ (intWidth dst - 1) : Nat)
        let most : Int := (2 ^ (intWidth dst - 1) : Nat) - 1
        readInt dst (cvtResult ty dst tz a).1 = max least (min x most) ∧ (cvtResult ty dst tz a).2 = decide (x < least ∨ most < x)) ∧
       cvtResult ty .bool tz a = (if x = 0 then 0 else 1, false) ∧ cvtResult .bool dst tz a = (a &&& 1, false))) ∧
  (∀ (ty : Ty) (a b : W64), ty.word = true ∨ ty = .bool →
    (let w := if ty = .bool then 1 else intWidth ty
     let whole (r : W64) : Prop := (ty = .bool → r.toNat < 2) ∧ (ty = .int32 → r = (r.setWidth 32 : W32).signExtend 64)
     (∀ k, k < w → (holdBits ty (a &&& b)).getLsbD k = (a.getLsbD k && b.getLsbD k) ∧
       (holdBits ty (a ||| b)).getLsbD k = (a.getLsbD k || b.getLsbD k) ∧
       (holdBits ty (a ^^^ b)).getLsbD k = (a.getLsbD k ^^ b.getLsbD k) ∧
       (holdBits ty (a &&& ~~~b)).getLsbD k = (a.getLsbD k && !b.getLsbD k) ∧ (holdBits ty (~~~a)).getLsbD k = !a.getLsbD k) ∧
     whole (holdBits ty a))) ∧
  ∀ (ty : Ty) (a b : W64), ty.word = true →
    (let w := intWidth ty
     let n := b.toNat % 128
     let laid (r : W64) : Prop := ty = .int32 → r = (r.setWidth 32 : W32).signExtend 64
     laid (shlResult ty a b) ∧ laid (shrResult ty a b) ∧ laid (sarResult ty a b) ∧
     (n < w → readNat ty (shlResult ty a b) = readNat ty a * 2 ^ n % 2 ^ w ∧ readNat ty (shrResult ty a b) = readNat ty a / 2 ^ n ∧
       readInt ty (sarResult ty a b) = readInt ty a / (2 ^ n : Nat)) ∧
     (w ≤ n → shlResult ty a b = 0 ∧ shrResult ty a b = 0 ∧ sarResult ty a b = (if readInt ty a < 0 then BitVec.allOnes 64 else 0)) ∧
     compareU .lt ty a b = decide (readNat ty a < readNat ty b) ∧ compareU .le ty a b = decide (readNat ty a ≤ readNat ty b) ∧
     compareU .gt ty a b = decide (readNat ty b < readNat ty a) ∧ compareU .ge ty a b = decide (readNat ty b ≤ readNat ty a))

/-- R122: an instruction that holds no slot issues at the first cycle at which its operands are ready and no load to a register
that it writes is pending. R122 rule 4: an instruction that needs slots, at most the 16 there are, finds them free when it issues. R121, R122: the next
instruction may issue after the count of the column Issue, a result is ready after that of the column Result, a branch that is taken
counts 4, a load is pending for its 32 cycles (2 from SCR), an access to EXP, VAR or CON holds its slot for 32 cycles, and a function
block one for 32 and one until it has written back; nothing else changes when a register, a condition bit or a slot is ready. -/
def Obligations.IssueCycleIsTheFirstThatIsReady : Prop :=
  (∀ (e : Engine) (n : Need), n.slots = 0 →
     e.cyc ≤ issueCycle e n ∧ (∀ r ∈ n.regs, look 0 e.readyW r ≤ issueCycle e n) ∧
     (∀ c ∈ n.conds, look 0 e.readyC (c % 8) ≤ issueCycle e n) ∧ (∀ r ∈ n.writes, look 0 e.loadW r ≤ issueCycle e n) ∧
     ∀ t, e.cyc ≤ t → (∀ r ∈ n.regs, look 0 e.readyW r ≤ t) → (∀ c ∈ n.conds, look 0 e.readyC (c % 8) ≤ t) →
       (∀ r ∈ n.writes, look 0 e.loadW r ≤ t) → issueCycle e n ≤ t) ∧
  (∀ (e : Engine) (n : Need), 0 < n.slots → n.slots ≤ 16 →
     issueCycle e { n with slots := 0 } ≤ issueCycle e n ∧ n.slots ≤ freeSlots e.busy (issueCycle e n) ∧
     ∀ t, issueCycle e { n with slots := 0 } ≤ t → t < issueCycle e n → freeSlots e.busy t < n.slots) ∧
  ∀ (s : State) (id : EngId) (c : Ctx), OnEngine s id c →
    (let runs (i : Instr) (n : Need) (p : Engine → Nat → Prop) : Prop := i.wf = true → InTime n c →
       ∃ t, exec i s = .next t ∧ p (engineOf (t.region id.er) id.n) (issueCycle c.e n)
     let readyBut (ws cs : List Nat) (e : Engine) (at_ : Nat) : Prop :=
       (∀ r, look 0 e.readyW r = if r ∈ ws ∧ r ≠ 0 then at_ else look 0 c.e.readyW r) ∧
       ∀ k, k < 8 → look 0 e.readyC k = if k ∈ cs then at_ else look 0 c.e.readyC k
     (∀ row ∈ operateRows, ∀ f : OFields, runs (row.instr id f) (row.need f c) (fun e at_ =>
       e.cyc = at_ + row.issue f ∧ readyBut [f.wd.toNat] (if f.cw then [f.cb.toNat] else []) e (at_ + row.result f) ∧
       e.loadW = c.e.loadW ∧ e.busy = c.e.busy)) ∧
     (∀ row ∈ testRows, ∀ f : OFields, runs (row.instr id f) (row.need f c) (fun e at_ =>
       e.cyc = at_ + row.issue f ∧ readyBut [] [f.cb.toNat] e (at_ + row.result f) ∧ e.loadW = c.e.loadW ∧ e.busy = c.e.busy)) ∧
     (∀ f : MFields, runs (.ld id f) { regs := [f.wa.toNat], writes := loadRegs f, slots := memSlots f.sp } (fun e at_ =>
       e.cyc = at_ + 1 ∧ readyBut (loadRegs f) [] e (at_ + if f.sp = .scr then 2 else 32) ∧
       (∀ r, look 0 e.loadW r = if r ∈ loadRegs f ∧ r ≠ 0 then at_ + (if f.sp = .scr then 2 else 32) else look 0 c.e.loadW r) ∧
       (f.sp = .scr → e.busy = c.e.busy) ∧ (f.sp ≠ .scr → SlotsHeld c.e e at_ [at_ + 32]))) ∧
     (∀ f : MFields, runs (.st id f) { regs := [f.wa.toNat, f.wb.toNat], slots := memSlots f.sp } (fun e at_ =>
       e.cyc = at_ + 1 ∧ ReadyKept c.e e ∧ (f.sp = .scr → e.busy = c.e.busy) ∧ (f.sp ≠ .scr → SlotsHeld c.e e at_ [at_ + 32]))) ∧
     (∀ f : BFields,
       runs (.br id f) { conds := if f.cnd then [f.cb.toNat] else [] } (fun e at_ =>
         e.cyc = at_ + (if f.cnd = false ∨ c.e.cond f.cb.toNat ≠ f.neg then 4 else 1)) ∧
       runs (.call id f) {} (fun e at_ => e.cyc = at_ + 4) ∧
       (c.e.stack ≠ [] → runs (.ret id f) {} (fun e at_ => e.cyc = at_ + 4))) ∧
     (∀ f : JFields, let next (e : Engine) (at_ : Nat) : Prop := e.cyc = at_ + 1 ∧ ReadyKept c.e e ∧ e.busy = c.e.busy
       runs (.out id f) { regs := [f.wa.toNat, f.wb.toNat] } next ∧ runs (.lsp id f) { regs := [f.wa.toNat, f.wb.toNat] } next ∧
       runs (.lbank id f) { regs := [f.wa.toNat, f.wb.toNat] } next ∧ runs (.event id f) { regs := [f.wa.toNat] } next) ∧
     ∀ row ∈ blockRows, ∀ f : FFields, runs (row.instr id f) (row.need f c) (fun e at_ =>
       e.cyc = at_ + row.issue f ∧
       readyBut [f.wd.toNat] (f.cq.toNat :: if row.kind = 0x86 then [(f.cq.toNat + 1) % 8] else []) e (at_ + row.result f) ∧
       e.loadW = c.e.loadW ∧ SlotsHeld c.e e at_ [at_ + 32, at_ + row.issue f + 31]))

/-- R119, R121: LD: a valid load fills `WD` (a line fills eight registers); an invalid one writes zeros and counts; nothing else
changes. R117, R119, R121, R129, R157: ST: a valid store writes its bytes to VAR or SCR, but nothing where it touches a forced word,
and no byte of the `IID` and `KIND` of a function-block instance; an invalid one changes nothing and counts. Every other byte,
register and condition bit is unchanged. Completes ld and st. -/
def Obligations.GolupLoadsAndStoresComplete : Prop :=
  (∀ (s : State) (id : EngId) (f : MFields) (c : Ctx), (Instr.ld id f).wf = true → OnEngine s id c →
     InTime { regs := [f.wa.toNat], writes := loadRegs f, slots := memSlots f.sp } c →
     ∃ t, exec (.ld id f) s = .next t ∧ GolupFrame id s t ∧
       (let e := engineOf (t.region id.er) id.n
        let a := (c.e.reg f.wa.toNat).toNat + f.off.toNat
        let ok := a < 2 ^ 64 ∧ a % szBytes f.sz = 0 ∧ a + szBytes f.sz ≤ windowLen c f.sp
        (f.sz ≠ .line → RegsKept [f.wd.toNat] c.e e ∧
          (f.wd ≠ 0 → e.reg f.wd.toNat = if ok then
            (match f.sz with
             | .s32 => (BitVec.ofNat 32 (leNat (readSpace c f.sp a 4))).signExtend 64
             | .u32 => BitVec.ofNat 64 (leNat (readSpace c f.sp a 4))
             | _ => BitVec.ofNat 64 (leNat (readSpace c f.sp a 8))) else 0)) ∧
        (f.sz = .line → RegsKept ((List.range 8).map (fun j => f.wd.toNat + j)) c.e e ∧
          ∀ j, j < 8 → e.reg (f.wd.toNat + j) = if ok then BitVec.ofNat 64 (leNat (readSpace c f.sp (a + 8 * j) 8)) else 0) ∧
        e.faults = (if ok then c.e.faults else satInc c.e.faults) ∧
        CondsKept [] c.e e ∧ e.pc = c.e.pc + 8 ∧ e.stack = c.e.stack ∧ e.scr = c.e.scr ∧ JournalKept c.e e ∧ EngineRestKept c.e e ∧
        OverlayKept c.e e)) ∧
  (∀ (s : State) (id : EngId) (f : MFields) (c : Ctx), (Instr.st id f).wf = true → OnEngine s id c →
     InTime { regs := [f.wa.toNat, f.wb.toNat], slots := memSlots f.sp } c →
     ∃ t, exec (.st id f) s = .next t ∧ GolupStoreFrame id c s t ∧
       (let e := engineOf (t.region id.er) id.n
        let a := (c.e.reg f.wa.toNat).toNat + f.off.toNat
        let n := szBytes f.sz
        let ok := a < 2 ^ 64 ∧ a % n = 0 ∧ a + n ≤ windowLen c f.sp
        let forced := touchesForced c.x.forced a n = true
        let byte (b : Nat) : Byte := BitVec.ofNat 8 ((c.e.reg f.wb.toNat).toNat / 2 ^ (8 * (b - a)))
        (∀ b, Mem.read (seenVars (t.region id.er) id.n c) b =
          if f.sp = .var ∧ ok ∧ ¬forced ∧ a ≤ b ∧ b < a + n ∧ instanceByte c b = false then byte b else Mem.read c.vars b) ∧
        (∀ b, Mem.read e.scr b = if f.sp = .scr ∧ ok ∧ a ≤ b ∧ b < a + n then byte b else Mem.read c.e.scr b) ∧
        e.faults = (if ok then c.e.faults else satInc c.e.faults) ∧
        RegsKept [] c.e e ∧ CondsKept [] c.e e ∧ e.pc = c.e.pc + 8 ∧ e.stack = c.e.stack ∧ JournalKept c.e e ∧ EngineRestKept c.e e ∧
        (f.sp = .var ∧ ok ∧ ¬forced → OverlaySigned c.e e (seenVars (t.region id.er) id.n c) a n) ∧
        (¬(f.sp = .var ∧ ok ∧ ¬forced) → OverlayKept c.e e)))

/-- R121, R123: BR jumps when it is unconditional or C(`CB`) differs from `NEG`, CALL pushes the next offset and jumps, RET
returns to the offset on top of the stack; nothing else changes but the time: registers, condition bits, scratch memory, journal
buffer, the address-fault count, the signature and the overlay stay. Completes br, call and ret. -/
def Obligations.GolupBranchesComplete : Prop :=
  ∀ (s : State) (id : EngId) (f : BFields) (c : Ctx), OnEngine s id c →
    (let kept (t : State) (e : Engine) : Prop := GolupFrame id s t ∧ RegsKept [] c.e e ∧ CondsKept [] c.e e ∧ e.scr = c.e.scr ∧
       e.faults = c.e.faults ∧ JournalKept c.e e ∧ EngineRestKept c.e e ∧ OverlayKept c.e e ∧ ReadyKept c.e e ∧ e.busy = c.e.busy
     ((Instr.br id f).wf = true → InTime { conds := if f.cnd then [f.cb.toNat] else [] } c →
      ∃ t, exec (.br id f) s = .next t ∧
        (let e := engineOf (t.region id.er) id.n
         kept t e ∧ e.pc = (if f.cnd = false ∨ c.e.cond f.cb.toNat ≠ f.neg then f.tgt else c.e.pc + 8) ∧ e.stack = c.e.stack)) ∧
     ((Instr.call id f).wf = true → InTime {} c →
      ∃ t, exec (.call id f) s = .next t ∧
        (let e := engineOf (t.region id.er) id.n
         kept t e ∧ e.pc = f.tgt ∧ e.stack = (c.e.pc + 8) :: c.e.stack)) ∧
     (∀ p rest, (Instr.ret id f).wf = true → InTime {} c → c.e.stack = p :: rest →
      ∃ t, exec (.ret id f) s = .next t ∧
        (let e := engineOf (t.region id.er) id.n
         kept t e ∧ e.pc = p ∧ e.stack = rest)))

/-- R123, R127, R128: END, and RET with an empty stack, close the run's journal with the duration counted to their own cycle
and free the engine; the limit of R100 closes it as aborted with D = L, whichever instruction's issue meets it (R124; the model's choice at the cycle
itself: log entry 64), or when no instruction can issue before it; before that the watchdog leaves the run alone. Completes endRun,
ret and watchdogAbort. -/
def Obligations.GolupRunEndsWithItsDuration : Prop :=
  ∀ (s : State) (id : EngId) (f : BFields) (c : Ctx), OnEngine s id c →
    ((Instr.endRun id f).wf = true → InTime {} c →
      ∃ t, exec (.endRun id f) s = .next t ∧ RunEnded id c (issueCycle c.e {} + 1) false s t) ∧
    ((Instr.ret id f).wf = true → InTime {} c → c.e.stack = [] →
      ∃ t, exec (.ret id f) s = .next t ∧ RunEnded id c (issueCycle c.e {} + 1) false s t) ∧
    (let stops (i : Instr) (n : Need) : Prop := i.wf = true → ¬InTime n c →
       ∃ t, exec i s = .next t ∧ RunEnded id c (watchdogLimit c.k) true s t
     (∀ row ∈ operateRows, ∀ g : OFields, stops (row.instr id g) (row.need g c)) ∧
     (∀ row ∈ testRows, ∀ g : OFields, stops (row.instr id g) (row.need g c)) ∧
     (∀ row ∈ blockRows, ∀ g : FFields, stops (row.instr id g) (row.need g c)) ∧
     (∀ g : MFields, stops (.ld id g) { regs := [g.wa.toNat], writes := loadRegs g, slots := memSlots g.sp } ∧
       stops (.st id g) { regs := [g.wa.toNat, g.wb.toNat], slots := memSlots g.sp }) ∧
     (∀ g : BFields, stops (.br id g) { conds := if g.cnd then [g.cb.toNat] else [] } ∧ stops (.call id g) {} ∧ stops (.ret id g) {} ∧
       stops (.endRun id g) {}) ∧
     ∀ g : JFields, stops (.out id g) { regs := [g.wa.toNat, g.wb.toNat] } ∧ stops (.lsp id g) { regs := [g.wa.toNat, g.wb.toNat] } ∧
       stops (.lbank id g) { regs := [g.wa.toNat, g.wb.toNat] } ∧ stops (.event id g) { regs := [g.wa.toNat] }) ∧
    (id.exists = true → ¬InTime {} c → ∃ t, exec (.watchdogAbort id) s = .next t ∧ RunEnded id c (watchdogLimit c.k) true s t) ∧
    (id.exists = true → InTime {} c → exec (.watchdogAbort id) s = .next s)

/-- R119 rule 2, R127: OUT, LSP, LBANK and EVENT write entry `WA` + `IDX` of their list in the journal buffer; one past the
list changes nothing and counts. Completes out, lsp, lbank and event. -/
def Obligations.GolupJournalInstructionsComplete : Prop :=
  ∀ (s : State) (id : EngId) (f : JFields) (c : Ctx), OnEngine s id c → id.exists = true →
    (let i := (c.e.reg f.wa.toNat).toNat + f.idx.toNat
     let v : W32 := (c.e.reg f.wb.toNat).setWidth 32
     let kept (e : Engine) : Prop := RegsKept [] c.e e ∧ CondsKept [] c.e e ∧ e.pc = c.e.pc + 8 ∧ e.stack = c.e.stack ∧ e.scr = c.e.scr ∧
       EngineRestKept c.e e ∧ OverlayKept c.e e
     let counts (e : Engine) (len : Nat) : Prop := e.faults = if i < len then c.e.faults else satInc c.e.faults
     (InTime { regs := [f.wa.toNat, f.wb.toNat] } c →
       ∃ t, exec (.out id f) s = .next t ∧ GolupFrame id s t ∧
         (let e := engineOf (t.region id.er) id.n
          kept e ∧ counts e c.k.outs.length ∧ e.sps = c.e.sps ∧ e.banks = c.e.banks ∧ e.evs = c.e.evs ∧
          ∀ j, look none e.outs j = if j = i ∧ i < c.k.outs.length then
            some (if typeOf (s.region id.er) (c.k.outs.getD i 0).toNat = tyBool then v &&& 1 else v) else look none c.e.outs j)) ∧
     (InTime { regs := [f.wa.toNat, f.wb.toNat] } c →
       ∃ t, exec (.lsp id f) s = .next t ∧ GolupFrame id s t ∧
         (let e := engineOf (t.region id.er) id.n
          kept e ∧ counts e c.k.loops.length ∧ e.outs = c.e.outs ∧ e.banks = c.e.banks ∧ e.evs = c.e.evs ∧
          ∀ j, look none e.sps j = if j = i ∧ i < c.k.loops.length then some v else look none c.e.sps j)) ∧
     (InTime { regs := [f.wa.toNat, f.wb.toNat] } c →
       ∃ t, exec (.lbank id f) s = .next t ∧ GolupFrame id s t ∧
         (let e := engineOf (t.region id.er) id.n
          kept e ∧ counts e c.k.loops.length ∧ e.outs = c.e.outs ∧ e.sps = c.e.sps ∧ e.evs = c.e.evs ∧
          ∀ j, look none e.banks j = if j = i ∧ i < c.k.loops.length then some (v &&& 1) else look none c.e.banks j)) ∧
     (InTime { regs := [f.wa.toNat] } c →
       ∃ t, exec (.event id f) s = .next t ∧ GolupFrame id s t ∧
         (let e := engineOf (t.region id.er) id.n
          kept e ∧ counts e c.k.events.length ∧ e.outs = c.e.outs ∧ e.sps = c.e.sps ∧ e.banks = c.e.banks ∧
          ∀ j, look 0 e.evs j = if j = i ∧ i < c.k.events.length then satInc (look 0 c.e.evs j) else look 0 c.e.evs j)))

/-- R119 rule 3, R129 to R134: a function block on a valid instance scans it, writes its 32 bytes back but for forced ones
(R157), and writes `WD`, C(`CQ`) and, for CTUD, the next bit; on an invalid one it writes zeros, stores nothing and counts.
Completes the 11 of `blockRows`: ton, tof, tp, ctu, ctd, ctud, rtrig, ftrig, sr, rs and ramp. -/
def Obligations.GolupFunctionBlocksComplete : Prop :=
  ∀ row ∈ blockRows, ∀ (s : State) (id : EngId) (f : FFields) (c : Ctx), (row.instr id f).wf = true → OnEngine s id c →
    InTime (row.need f c) c →
    ∃ t, exec (row.instr id f) s = .next t ∧ GolupStoreFrame id c s t ∧
      (let e := engineOf (t.region id.er) id.n
       let a := (c.e.reg f.wa.toNat).toNat + f.off.toNat
       let ok := a < 2 ^ 64 ∧ a % 32 = 0 ∧ a + 32 ≤ c.k.vsize ∧ (Mem.read c.vars (a + 3)).toNat = row.kind
       let o := row.value f c (fbIn c f) (fbRead c a)
       let two := row.kind = 0x86
       (∀ b, Mem.read (seenVars (t.region id.er) id.n c) b =
         if ok ∧ a ≤ b ∧ b < a + 32 ∧ touchesForced c.x.forced b 1 = false then
           (wordBytes [o.inst.w0, o.inst.v, o.inst.last, o.inst.pvl]).getD (b - a) 0 else Mem.read c.vars b) ∧
       RegsKept [f.wd.toNat] c.e e ∧ (f.wd ≠ 0 → e.reg f.wd.toNat = if ok then o.wd else 0) ∧
       CondsKept (f.cq.toNat :: if two then [(f.cq.toNat + 1) % 8] else []) c.e e ∧
       e.cond f.cq.toNat = decide (ok ∧ o.q = true) ∧ (two → e.cond (f.cq.toNat + 1) = decide (ok ∧ o.q2 = true)) ∧
       e.faults = (if ok then c.e.faults else satInc c.e.faults) ∧
       e.pc = c.e.pc + 8 ∧ e.stack = c.e.stack ∧ e.scr = c.e.scr ∧ JournalKept c.e e ∧ EngineRestKept c.e e ∧
       (ok → OverlaySigned c.e e (seenVars (t.region id.er) id.n c) a 32) ∧ (¬ok → OverlayKept c.e e))

/-- R131: the timers TON, TOF and TP after their first scan (the first one follows R130): elapsed time and Q as the rule computes
them, what the instance keeps, and a preset that falls to or below an elapsed time already reached. On a valid instance the
three instructions read IN from C(`CI`) and the preset from `WB`, and write Q to C(`CQ`) and ET to `WD`. -/
def Obligations.TimersFollowTheirRules : Prop :=
  (∀ (i : FbIn) (x : FbInst), bit x.w0 fInit = true →
    (let pt : Int := max 0 i.b.toInt
     let dt : Int := if bit x.w0 fLastv then i.xtime.toInt - x.last.toInt else 0
     let et : Int := x.v.toInt
     let pin := bit x.w0 fPin
     let q := bit x.w0 fQ
     let on := timerScan tonRule i x
     let off := timerScan tofRule i x
     let pulse := timerScan tpRule i x
     let later := BitVec.ofInt 64 (min pt (et + dt))
     (∀ o ∈ [on, off, pulse], bit o.inst.w0 fPin = i.ci ∧ bit o.inst.w0 fQ = o.q ∧ bit o.inst.w0 fLastv = true ∧
       bit o.inst.w0 fInit = true ∧ o.inst.last = i.xtime ∧ o.inst.pvl.toInt = pt ∧ o.inst.v = o.wd) ∧
     (i.ci = true → pin = true → on.wd = later ∧ on.q = decide (pt ≤ et + dt)) ∧
     (i.ci = true → pin = false → on.wd = 0 ∧ on.q = decide (i.b.toInt ≤ 0)) ∧
     (i.ci = false → on.wd = 0 ∧ on.q = false) ∧
     (i.ci = true → off.wd = 0 ∧ off.q = true) ∧
     (i.ci = false → pin = true → off.wd = 0 ∧ off.q = decide (0 < i.b.toInt)) ∧
     (i.ci = false → pin = false → q = true → off.wd = later ∧ off.q = decide (et + dt < pt)) ∧
     (i.ci = false → pin = false → q = false → off.wd = x.v ∧ off.q = false) ∧
     (q = true → pulse.wd = later ∧ pulse.q = decide (et + dt < pt)) ∧
     (q = false → i.ci = true → pin = false → pulse.wd = 0 ∧ pulse.q = decide (0 < i.b.toInt)) ∧
     (q = false → i.ci = false → pulse.wd = 0 ∧ pulse.q = false) ∧
     (q = false → i.ci = true → pin = true → pulse.wd = x.v ∧ pulse.q = false) ∧
     (pt ≤ et → 0 ≤ dt → (i.ci = true → pin = true → on.q = true) ∧ (i.ci = false → pin = false → off.q = false) ∧
       (q = true → pulse.q = false)))) ∧
  (∀ k ∈ [(0x80, Instr.ton, tonRule), (0x81, Instr.tof, tofRule), (0x82, Instr.tp, tpRule)],
    ∀ (s : State) (id : EngId) (f : FFields) (c : Ctx), (k.2.1 id f).wf = true → OnEngine s id c →
    InTime (needBlock (fun f => [f.wb.toNat]) (fun f => [f.ci.toNat]) f c) c →
    (let a := (c.e.reg f.wa.toNat).toNat + f.off.toNat
     a < 2 ^ 64 → a % 32 = 0 → a + 32 ≤ c.k.vsize → (Mem.read c.vars (a + 3)).toNat = k.1 →
     ∃ t, exec (k.2.1 id f) s = .next t ∧
       ∃ i : FbIn, i.ci = c.e.cond f.ci.toNat ∧ i.b = c.e.reg f.wb.toNat ∧ i.xtime = c.x.header.getD 1 0 ∧
         (let o := timerScan k.2.2 i (fbRead c a)
          let e := engineOf (t.region id.er) id.n
          e.cond f.cq.toNat = o.q ∧ (f.wd ≠ 0 → e.reg f.wd.toNat = o.wd))))

/-- R115, R118: every Golup instruction keeps the tables of the region it works on canonical. -/
def Obligations.GolupKeepsCanonicalTables : Prop :=
  ∀ (i : Instr) (id : EngId) (s t : State), golupEngine i = some id → GolupWf (s.region id.er) → exec i s = .next t →
    GolupWf (t.region id.er)
/-! ### Fixing: comparison, referee, releases, local I/O (R72 to R82, R93, R173 to R202) -/

/-- R93, R99, R100, R188 to R190: in DUPLEX, a run whose two closed journals are alike is fixed: each region's fixer releases
each of its entries in journal order, through its own region's force and clamp, and sends its notices; an aborted one releases
nothing and is fixed as aborted. Two different journals start a referee and release nothing. The fixer that decides alone (in
SIMPLEX; which region it is for inherited work, R187, R220) needs no partner. R191: a region whose journal is late is taken out
of service, and its partner is ACTIVE. Completes fixComparison and journalTimeout. -/
def Obligations.ComparisonDecidesTheRun : Prop :=
  (∀ (s : State) (slot : BitVec 9) (no : W32) (x : Run), s.dev.dstate = .run → openRun (s.region s.lead) slot no = some x →
     findRun (s.region s.lead) slot no = some x →
     (let w := WorkRef.run slot no
      let rels (er : Er) := (journalBody x.journal).filterMap (entryRelease (s.region er) w x.tick)
      let evs := ((journalBody x.journal).filter (fun e => entryKind e == 4)).map (fun e => (BitVec.ofNat 9 (entryTarget e), (e.setWidth 16 : BitVec 16)))
      let closed := if x.closedSent ∨ w ∈ s.pair.mirror then [] else [Notice.closed slot no]
      (∀ y, s.duplex = true → inheritedWork s w = false → openRun (s.region (otherEr s.lead)) slot no = some y →
        findRun (s.region (otherEr s.lead)) slot no = some y →
        (x.journal = y.journal → journalAbort x.journal = false →
          ∃ t, exec (.fixComparison slot no) s = .next t ∧ (∀ er, t.rel er = s.rel er ++ rels er) ∧
            (∀ er, t.notices er = s.notices er ++ closed ++ [.fixed slot no .fixed evs]) ∧ t.pair = s.pair ∧ t.fab = s.fab ∧ t.time = s.time) ∧
        (x.journal = y.journal → journalAbort x.journal = true →
          ∃ t, exec (.fixComparison slot no) s = .next t ∧ (∀ er, t.rel er = s.rel er) ∧
            (∀ er, t.notices er = s.notices er ++ closed ++ [.fixed slot no .aborted []]) ∧ t.pair = s.pair ∧ t.fab = s.fab) ∧
        (x.journal ≠ y.journal →
          ∃ t, exec (.fixComparison slot no) s = .next t ∧ (∀ er, t.rel er = s.rel er) ∧
            (∀ er, t.notices er = s.notices er ++ closed) ∧ t.pair = { s.pair with refs := s.pair.refs ++ [{ work := w }] })) ∧
      (s.duplex = false → journalAbort x.journal = false →
        ∃ t, exec (.fixComparison slot no) s = .next t ∧ t.rel s.lead = s.rel s.lead ++ rels s.lead ∧
          t.notices s.lead = s.notices s.lead ++ closed ++ [.fixed slot no .fixed evs] ∧
          t.rel (otherEr s.lead) = s.rel (otherEr s.lead) ∧ t.pair = s.pair))) ∧
  (∀ (s : State) (late : Er) (w : WorkRef), s.dev.dstate = .run → s.duplex = true → inheritedWork s w = false →
     closedIn (s.region (otherEr late)) w = true → closedIn (s.region late) w = false →
     ∃ t, exec (.journalTimeout late w) s = .next t ∧ t.serving late = false ∧ t.pair.active = otherEr late)

/-- R173, R180, R181, R190: a free lane in service evaluates the next sample by the loop law, stores its journal entry and writes
the loop's state back; a sample that was settled before an item changed its loop goes on from what it read then, and leaves the
loop as it is (the model's choice, log entry 99); in DUPLEX two alike entries release the output, two different ones start a referee. Completes loopSample and
loopSampleCompare. -/
def Obligations.LoopSamplesAreEvaluatedAndCompared : Prop :=
  (∀ (s : State) (er : Er) (lane : Nat) (x : Sample), s.dev.dstate = .run → lane < 9 → s.serving er = true → laneServes s er lane = true →
    nextSample s er = some x → findSample (s.region er) x.slot x.tick = some x → tableWf ({} : Loop) (s.region er).loops = true →
    ∃ t, exec (.loopSample er lane) s = .next t ∧ t.region (otherEr er) = s.region (otherEr er) ∧ t.ir = s.ir ∧ t.fab = s.fab ∧
      (let l := loopOf (s.region er) x.slot.toNat
       let y := x.read l
       findSample (t.region er) x.slot x.tick = some { y with entry := (loopLaw y).entry, lane := lane, evaluated := true } ∧
       loopOf (t.region er) x.slot.toNat = (if x.settled then l else writeBack l (loopLaw y)) ∧
       ∀ n, n ≠ x.slot.toNat → loopOf (t.region er) n = loopOf (s.region er) n)) ∧
  (∀ (s : State) (slot : BitVec 13) (tick : W64) (x y : Sample), s.dev.dstate = .run → s.duplex = true →
    inheritedWork s (.sample slot tick) = false → openSample (s.region s.lead) slot tick = some x →
    openSample (s.region (otherEr s.lead)) slot tick = some y →
    (x.entry = y.entry → ∃ t, exec (.loopSampleCompare slot tick) s = .next t ∧
      (∀ er, t.rel er = s.rel er ++ [fixerValue (s.region er) (.sample slot tick) (bits (look 0 x.words 2) 19 0) ((x.entry.getD 0 0).setWidth 32) tick]) ∧
      t.pair = s.pair) ∧
    (x.entry ≠ y.entry → ∃ t, exec (.loopSampleCompare slot tick) s = .next t ∧ (∀ er, t.rel er = s.rel er) ∧
      t.pair = { s.pair with refs := s.pair.refs ++ [{ work := .sample slot tick }] }))

/-- R198, R202: the engine that is handed a run executes it a second time, from the task's entry on the view that the pre-images
give, beside the first execution; a lane evaluates a sample a second time at once. A free SPARE engine and a lane UNDER TEST come
first. R199: in DUPLEX the two executions of each region give the case: both agree (1), one region's differ (2 in ER-A, 3 in ER-B), both
differ (4), not refereeable (5). The result is the ACTIVE region's in case 1, the agreeing region's in 2 and 3; R200: in time, the
fixers that stay release it and send its notice, and any other work is sent as discarded and counted. The STANDBY region is out in
cases 1, 4 and 5, the differing region in 2 and 3 unless it was transient; it and both in case 4 test the first blocks. R201: a lone
decision releases the result of two executions that agree (6) and discards any other (7; 5 for one that is not refereeable, the
model's choice, log entry 116), and no region leaves. REFEREE_DECIDED is recorded with case and outcome. At the deadline DTIME has
reached it (the model's choice, log entry 1), and the work is sent as discarded. Completes refereeHandover, refereeDecided and
refereeDeadline. -/
def Obligations.RefereeCasesAreDecided : Prop :=
  ((∀ (s : State) (er : Er) (slot : BitVec 9) (no : W32) (unit : Nat) (c : Referee) (x : Run) (k : Task), unit < 34 → s.powered = true →
     refereeIn s er (.run slot no) = true → refOf s (.run slot no) = some c → findRun (s.region er) slot no = some x → taskOf (s.region er) slot = some k →
     x.second = [] → x.refereeable = true →
     (s.region er).engines.all (fun e => !(e.2.running && e.2.redo && e.2.slot == slot && e.2.run == no)) = true →
     ((s.block (blockId (erNum er) 1 unit)).state = .spare ∧ (engineOf (s.region er) unit).running = false ∧ x.engine ≠ unit) ∨
       takesRedo s er 1 x.engine unit (fun n => (engineOf (s.region er) n).running) = true →
     ∃ t, exec (.refereeHandover er (.run slot no) unit) s = .next t ∧
       (let e := engineOf (t.region er) unit
        e.running = true ∧ e.redo = true ∧ e.slot = slot ∧ e.run = no ∧ e.pc = k.entry ∧ e.view = redoView (s.region er) x ∧
        (∀ n, e.reg n = 0) ∧ (∀ n, e.cond n = false) ∧ (∀ m, m ≠ unit → engineOf (t.region er) m = engineOf (s.region er) m)) ∧
       (t.region er).vars = (s.region er).vars ∧ (t.region er).runs = (s.region er).runs ∧ t.region (otherEr er) = s.region (otherEr er) ∧
       t.pair = s.pair ∧ t.ir = s.ir) ∧
   (∀ (s : State) (er : Er) (slot : BitVec 13) (tick : W64) (unit : Nat) (c : Referee) (x : Sample), unit < 9 → s.powered = true →
     refereeIn s er (.sample slot tick) = true → refOf s (.sample slot tick) = some c → findSample (s.region er) slot tick = some x → x.second = [] →
     ((s.block (blockId (erNum er) 2 unit)).state = .underTest ∧ x.lane ≠ unit) ∨ takesRedo s er 2 x.lane unit (fun _ => false) = true →
     ∃ t, exec (.refereeHandover er (.sample slot tick) unit) s = .next t ∧
       findSample (t.region er) slot tick = some { x with second := (loopLaw x).entry } ∧
       t.region (otherEr er) = s.region (otherEr er) ∧ t.pair = s.pair ∧ t.ir = s.ir)) ∧
  ((∀ (s : State) (w : WorkRef) (c : Referee) (a b : Execs), s.dev.dstate = .run → s.duplex = true → inheritedWork s w = false →
      s.img.update = none → s.pair.rejoin = none → refOf s w = some c → c.expired = false → undecided s w = true →
      execsOf s .A w = some a → execsOf s .B w = some b → tableWf ({} : Block) s.health.blocks = true →
     (let act := s.pair.active
      let inTime := decide (s.time.dtime.toNat < workDeadline s w * 10000)
      let of (er : Er) : Execs := match er with | .A => a | .B => b
      let closed (n : Nat) (released : Bool) (t : State) : Prop :=
        t.pair.referees = satInc s.pair.referees ∧ (∀ x ∈ t.pair.refs, x.work ≠ w) ∧
        t.pair.refdisc = (if released then s.pair.refdisc else satInc s.pair.refdisc) ∧
        Submitted s t (erNum act) 0x2103 (workParams w).1 (n + released.toNat * 256) (workParams w).2
      let done := a.ok = true ∧ b.ok = true ∧ a.second ≠ [] ∧ b.second ≠ []
      (done → a.agree = true → b.agree = true →
        ∃ t, exec (.refereeDecided w) s = .next t ∧ closed 1 inTime t ∧ ResultTaken inTime s t act w (of act).first ∧
          t.serving act = true ∧ t.serving (otherEr act) = false) ∧
      (∀ er, done → (of er).agree = false → (of (otherEr er)).agree = true →
        let good := of (otherEr er)
        let n := match er with | .A => 2 | .B => 3
        ((of er).second = good.first ∧ (of er).sig2 = good.sig1 ∧ (of er).sig1 = good.sig1 → TestReady s er (of er).block →
          ∃ t, exec (.refereeDecided w) s = .next t ∧ closed n inTime t ∧ (∀ e, ResultTaken inTime s t e w good.first) ∧
            (∀ e, t.serving e = true) ∧ TakesTest t (of er).block) ∧
        (¬((of er).second = good.first ∧ (of er).sig2 = good.sig1 ∧ (of er).sig1 = good.sig1) →
          ∃ t, exec (.refereeDecided w) s = .next t ∧ closed n inTime t ∧ ResultTaken inTime s t (otherEr er) w good.first ∧
            t.serving (otherEr er) = true ∧ t.serving er = false)) ∧
      (done → a.agree = false → b.agree = false → TestReady s .A a.block → TestReady s .B b.block →
        ∃ t, exec (.refereeDecided w) s = .next t ∧ closed 4 false t ∧ ResultDiscarded s t act w ∧
          t.serving act = true ∧ t.serving (otherEr act) = false ∧ TakesTest t a.block ∧ TakesTest t b.block) ∧
      (a.ok = false ∨ b.ok = false →
        ∃ t, exec (.refereeDecided w) s = .next t ∧ closed 5 false t ∧ ResultDiscarded s t act w ∧
          t.serving act = true ∧ t.serving (otherEr act) = false))) ∧
   (∀ (s : State) (w : WorkRef) (c : Referee) (x : Execs), s.dev.dstate = .run → lone s w = true → s.serving s.lead = true → s.img.update = none →
      refOf s w = some c → c.expired = false → undecided s w = true → execsOf s s.lead w = some x →
      (x.ok = false ∨ x.second ≠ []) →
      (let inTime := decide (s.time.dtime.toNat < workDeadline s w * 10000)
       let n := if x.ok = false then 5 else if x.agree then 6 else 7
       let released := x.ok && x.agree && inTime
       ∃ t, exec (.refereeDecided w) s = .next t ∧ ResultTaken released s t s.lead w x.first ∧ (∀ er, t.serving er = s.serving er) ∧
         t.pair.referees = satInc s.pair.referees ∧ (∀ y ∈ t.pair.refs, y.work ≠ w) ∧
         t.pair.refdisc = (if released then s.pair.refdisc else satInc s.pair.refdisc) ∧
         Submitted s t (erNum s.pair.active) 0x2103 (workParams w).1 (n + released.toNat * 256) (workParams w).2)) ∧
   (∀ (s : State) (w : WorkRef) (c : Referee), s.dev.dstate = .run → refOf s w = some c → c.expired = false →
     workDeadline s w * 10000 < 2 ^ 64 →
     ∃ t, exec (.refereeDeadline w) s = .next t ∧ workDeadline s w * 10000 ≤ t.time.dtime.toNat ∧ (∀ er, t.rel er = s.rel er) ∧
       t.pair.refs = s.pair.refs.map (fun x => if x.work = w then { x with expired := true } else x) ∧
       (∀ er ∈ senders s w, s.serving er = true → undecided s w = true → ResultDiscarded s t er w)))

/-- R72: a fixer clamps an integer value, a forced one too, to the range at `CIDX`. R41, R69, R189, R193: the release cell of a point
takes the value that both fixers release alike; a point without rate limit shows it as released, and every other cell stays. R73,
R74: the cell of a rate-limited integer output takes it within v_p + rise * n and v_p - fall * n, saturated to the type, n being the
ticks since t_p, at most 65,535; `CLAMPED` says that it was cut, and the value and the later tick are the new rate state. An entry of work that one fixer decides alone needs no partner. Two
different values for one entry are a chip-level error: both regions are out, and HALT. R93, R181: IR forwards the oldest notice that
is ready, with what the run's cells collected before it, as one group of its own, and takes it from the fixers. Completes
releaseAccepted and runNoticeAccepted. -/
def Obligations.ReleasesAndNoticesAreTaken : Prop :=
  (∀ (r : Region) (w : WorkRef) (i : Nat) (v : W32) (tick : W64), i < 2 ^ 20 → cidxOf (attrOf r i) ≠ 0 → typeOf r i = tyInt ∨ typeOf r i = tyUint →
    (let ty := typeOf r i
     let range := limitOf r (cidxOf (attrOf r i))
     let given := ((forceOn r i).map (forcedValue r)).getD v
     let lo := pointNum ty (range.setWidth 32)
     let hi := pointNum ty (BitVec.ofNat 32 (range.toNat / 2 ^ 32))
     lo ≤ hi → ∃ v', fixerValue r w i v tick =
         .value (some w) (BitVec.ofNat 20 i) v' false (decide (pointNum ty given < lo ∨ hi < pointNum ty given)) (forceOn r i).isSome tick ∧
       pointNum ty v' = max lo (min hi (pointNum ty given)))) ∧
  (∀ (s : State), s.dev.dstate = .run →
     (let a := s.lead
      let alone (x : Release) : Bool := !s.duplex || (x.work.map (inheritedWork s)).getD false
      (∀ (w : Option WorkRef) (i : BitVec 20) (v : W32) (cl fo : Bool) (tk : W64),
        nextRelease alone (s.rel (otherEr a)) [] (s.rel a) = some (.value w i v false cl fo tk, some (.value w i v false cl fo tk)) →
        ridxOf (attrOf s.image i.toNat) = 0 →
        ∃ t, exec .releaseAccepted s = .next t ∧
          t.cell i.toNat = { released := true, v := v, good := true, bad := false, clamped := cl, forced := fo, tick := tk,
                             lastGood := if isMemo (modeOf s.image i.toNat) then some v else (s.cell i.toNat).lastGood } ∧
          (∀ j, j ≠ i.toNat → t.cell j = s.cell j) ∧
          (∀ er, t.rel er = (s.rel er).erase (.value w i v false cl fo tk)) ∧ (∀ er, t.region er = s.region er) ∧ t.time = s.time) ∧
      (∀ (w : Option WorkRef) (i : BitVec 20) (v : W32) (cl fo : Bool) (tk : W64),
        nextRelease alone (s.rel (otherEr a)) [] (s.rel a) = some (.value w i v false cl fo tk, none) → ridxOf (attrOf s.image i.toNat) = 0 →
        ∃ t, exec .releaseAccepted s = .next t ∧ (t.cell i.toNat).v = v ∧ (t.cell i.toNat).released = true ∧ (t.cell i.toNat).good = true ∧
          (∀ j, j ≠ i.toNat → t.cell j = s.cell j) ∧ t.rel a = (s.rel a).erase (.value w i v false cl fo tk) ∧
          t.rel (otherEr a) = s.rel (otherEr a) ∧ (∀ er, t.region er = s.region er) ∧ t.time = s.time) ∧
      (∀ (w : Option WorkRef) (i : BitVec 20) (v vp : W32) (cl fo : Bool) (tk tp : W64),
        nextRelease alone (s.rel (otherEr a)) [] (s.rel a) = some (.value w i v false cl fo tk, some (.value w i v false cl fo tk)) →
        ridxOf (attrOf s.image i.toNat) ≠ 0 → isMemo (modeOf s.image i.toNat) = false → look none s.ir.rates i.toNat = some { vp := vp, tp := tp } →
        typeOf s.image i.toNat = tyInt ∨ typeOf s.image i.toNat = tyUint →
        (let ty := typeOf s.image i.toNat
         let lim := limitOf s.image (ridxOf (attrOf s.image i.toNat))
         let n := if tk.toNat ≤ tp.toNat then 0 else min 65535 (tk.toNat - tp.toNat)
         let hi := min (mostNum ty) (pointNum ty vp + (lim.toNat % 2 ^ 32 * n : Nat))
         let lo := max (leastNum ty) (pointNum ty vp - (lim.toNat / 2 ^ 32 * n : Nat))
         ∃ t, exec .releaseAccepted s = .next t ∧ pointNum ty (t.cell i.toNat).v = max lo (min hi (pointNum ty v)) ∧
           (t.cell i.toNat).clamped = (cl || decide (pointNum ty v < lo ∨ hi < pointNum ty v)) ∧ (t.cell i.toNat).good = true ∧
           look none t.ir.rates i.toNat = some { vp := (t.cell i.toNat).v, tp := if tp.toNat < tk.toNat then tk else tp } ∧
           (∀ j, j ≠ i.toNat → t.cell j = s.cell j))) ∧
      (∀ x y, x ≠ y → nextRelease alone (s.rel (otherEr a)) [] (s.rel a) = some (x, some y) →
        ∃ t, exec .releaseAccepted s = .next t ∧ t.dev.dstate = .halt ∧ (∀ er, t.rel er = []) ∧ (∀ i, (t.cell i).good = false) ∧
          ∀ er, t.serving er = false))) ∧
  (∀ (s : State) (n : Notice), s.dev.dstate = .run →
     (s.notices s.lead).find? (fun n => noticeReady s n && (!s.duplex || noticeInherited s n || (s.notices (otherEr s.lead)).contains n)) = some n →
     ∃ t, exec .runNoticeAccepted s = .next t ∧ (∀ er, t.notices er = (s.notices er).erase n) ∧ (∀ er, t.rel er = s.rel er) ∧
       (let items := match n with
          | .closed slot no => [Item.closed slot no]
          | .fixed slot no out evs => collected s (.run slot no) ++ [.fixed slot no out evs]
          | .loopsFixed tk => (s.ir.accum.filter (fun e => match e.1 with | .sample _ u => u == tk | _ => false)).map Prod.snd ++ [.loopsFixed tk]
        t.fab = (submitGroup s .ir items).fab) ∧
       t.ir.cells = s.ir.cells ∧ (∀ er, t.region er = s.region er))

/-- R82: a new level of an input or capture pin is taken, its selected edge counted, and its updates sent as one group unless an
earlier one still waits, which they then replace. R76 to R78: where that edge makes an enabled equation's `TRIP` 1, its latch sets,
each output pin in `FORCE` drives its safe level, the pins' `INTERLOCKED` updates and the trip state leave as one group, and
INTERLOCK_TRIP is recorded. A PWM pin that nothing forces takes its new high time at its period start; in HALT, and before a first
release, it is that of the value the point shows (in HALT the model's choice, log entry 71). Completes lioLevelChange and
pwmPeriodStart. -/
def Obligations.LocalPinsFollowTheirEvents : Prop :=
  (∀ (s : State) (pin : Nat) (level : Bool), pin < 48 → s.powered = true → (s.pin pin).mode = 1 ∨ (s.pin pin).mode = 4 →
    (s.pin pin).sync ≠ level →
    ∃ t, exec (.lioLevelChange pin level) s = .next t ∧ (t.pin pin).sync = level ∧ (t.pin pin).land = level ∧
      (t.pin pin).edges = (s.pin pin).edges + (if bit (s.pin pin).cfg (if level then 10 else 11) then 1 else 0) ∧
      ((s.pin pin).mode = 4 → bit (s.pin pin).cfg (if level then 10 else 11) = true → (t.pin pin).capture = some s.time.dtime) ∧
      (pinWaits (s.queue (sourceQueue .ir)) pin = false →
        (let selected := bit (s.pin pin).cfg (if level then 10 else 11)
         let count := localInput (0xE0 + pin) (t.pin pin).edges
         ((s.pin pin).mode = 1 → SentFrom s t .ir (localInput pin (if level then 1 else 0) :: if selected then [count] else [])) ∧
         ((s.pin pin).mode = 4 → selected = true → SentFrom s t .ir [localInput pin (s.time.dtime.setWidth 32),
           localInput (0xB0 + pin) (BitVec.ofNat 32 (s.time.dtime.toNat / 2 ^ 32)), count]))) ∧
      (∀ er, t.region er = s.region er) ∧ t.time = s.time) ∧
  (∀ (s : State) (pin eq : Nat) (level : Bool) (r : List W64), pin < 48 → eq < 64 → s.powered = true → (s.pin pin).mode = 1 →
    (s.pin pin).sync ≠ level → eqCopy s eq false = some r → eqCopy s eq true = some r → bit (eqWord r 10) 63 = true →
    bit s.ir.latches eq = false → (∀ m b x, m < 64 → m ≠ eq → eqCopy s m b = some x → bit (eqWord x 10) 63 = false) →
    (let i := eqIndex (modPin s pin (fun x => { x with sync := level })) r
     let forced := (List.range 48).filter (fun n => bit (eqWord r 9) n && (s.pin n).isOut)
     let task : Option (BitVec 9) := if bit (eqWord r 10) 62 then some (BitVec.ofNat 9 (bits (eqWord r 10) 52 44)) else none
     tableBit r 0 i = true →
     ∃ t, exec (.lioLevelChange pin level) s = .next t ∧ bit t.ir.latches eq = true ∧
       (∀ n ∈ forced, pinForced t n = true ∧ (t.pin n).drive = (s.pin n).safe ∧ ((s.pin n).held = false → (t.pin n).land = (s.pin n).safe)) ∧
       SentFrom s t .ir (forced.map (fun n => Item.interlocked (BitVec.ofNat 20 n) (safeValue (s.pin n)) true) ++
         [.tripState (BitVec.ofNat 6 eq) true task]) ∧
       (s.recd.inq.length < 992 → Submitted s t 4 0x1201 eq (i + 256 + 512) s.tick32.toNat))) ∧
  (∀ (s : State) (pin : Nat), pin < 48 → s.powered = true → (s.pin pin).mode = 3 → pinForced s pin = false →
    ∃ t, exec (.pwmPeriodStart pin) s = .next t ∧
      (t.pin pin).high = (if (s.cell pin).released = true ∧ s.dev.dstate ≠ .halt then (s.pin pin).highNext else cellValue s pin) ∧
      (∀ er, t.region er = s.region er) ∧ t.time = s.time)

/-- R147 to R151, R153, R161: MIGRATION builds the new variable areas beside the running ones: each task's is the new image's VINIT
(with the identities of its function blocks), under what the migration entries convert from the old areas, under the carried
instances, whose 32 bytes are copied with INIT and then take their IID and KIND; where neither writes, the area is VINIT. FLIP makes
the waiting program the partition's program with a report of result 0; its tasks take the areas that were built, and those of the old
image's other tasks are freed. CHANGE_ABANDONED discards it with a report of result 2. Other partitions' programs stay. That a new
instance keeps an INIT that VINIT sets, and which instances the report lists, is the model's choice (log entry 96). Completes
migration, flip and changeAbandoned. -/
def Obligations.OnLineChangesMigrateFlipOrEnd : Prop :=
  ∀ (s : State) (er : Er) (p : BitVec 7) (c : Change), s.powered = true → look none (s.region er).changes p.toNat = some c →
    tableWf (none : Option Change) (s.region er).changes = true → tableWf (none : Option Program) (s.region er).waiting = true →
    (∀ new, look none (s.region er).waiting p.toNat = some new → c.phase = .migrating → c.migrated = false →
      ∃ t, exec (.migration er p) s = .next t ∧ OnlyRegion er s t ∧
        (let r := s.region er
         let r' := t.region er
         let old := oldProgram r p.toNat
         let area (slot : BitVec 9) : Mem := look [] r'.newVars slot.toNat
         let entries := new.migr.filter (fun e => old.tasks.any (fun k => k.slot == e.oslot))
         (tableWf ([] : Mem) r.newVars = true →
           (∀ k ∈ new.tasks, area k.slot = look [] (migrated r old new) k.slot.toNat) ∧
           (∀ slot : BitVec 9, (∀ k ∈ new.tasks, k.slot ≠ slot) → area slot = look [] r.newVars slot.toNat) ∧
           (∀ k ∈ new.tasks, ∀ bs, new.vinit.filter (fun v => v.1 == k.slot) = [(k.slot, bs)] →
             (∀ e ∈ entries, e.nslot ≠ k.slot) → (∀ x ∈ carried old new, x.2.slot ≠ k.slot) → (area k.slot).readBytes 0 bs.length = bs) ∧
           (∀ k ∈ new.tasks, ∀ o n, carried old new = [(o, n)] → n.slot = k.slot →
             (area k.slot).readBytes (n.voff + 8) 24 = Mem.readBytes (look [] r.vars o.slot.toNat) (o.voff + 8) 24 ∧
             (area k.slot).readBytes n.voff 8 = Mem.readBytes (look [] r.vars o.slot.toNat) o.voff 3 ++ n.kind :: leBytes 4 n.iid.toNat)) ∧
         { r' with newVars := r.newVars, changes := r.changes } = r ∧ look none r'.changes p.toNat = some { c with migrated := true } ∧
         ∀ q, q ≠ p.toNat → look none r'.changes q = look none r.changes q)) ∧
    (∀ new, look none (s.region er).waiting p.toNat = some new → c.phase = .migrating → c.migrated = true →
      c.tf.toNat ≤ (s.region er).tick.toNat →
      ∃ t, exec (.flip er p) s = .next t ∧
        (let r := s.region er
         let r' := t.region er
         look none r'.programs p.toNat = some new ∧ look none r'.waiting p.toNat = none ∧ look none r'.changes p.toNat = none ∧
         (∃ rep, look none r'.reports p.toNat = some rep ∧ rep.result = 0 ∧ rep.tc = c.tc ∧ rep.tend = r.tick) ∧
         (tableWf ([] : Mem) r.vars = true → tableWf ([] : Mem) r.newVars = true → (new.tasks.map Task.slot).Nodup →
           (∀ k ∈ new.tasks, look [] r'.vars k.slot.toNat = look [] r.newVars k.slot.toNat ∧ look [] r'.newVars k.slot.toNat = []) ∧
           (∀ k ∈ (oldProgram r p.toNat).tasks, (∀ m ∈ new.tasks, m.slot ≠ k.slot) → look [] r'.vars k.slot.toNat = []) ∧
           (∀ slot : BitVec 9, (∀ k ∈ new.tasks ++ (oldProgram r p.toNat).tasks, k.slot ≠ slot) →
             look [] r'.vars slot.toNat = look [] r.vars slot.toNat)) ∧
         (∀ q, q ≠ p.toNat → look none r'.programs q = look none r.programs q) ∧ r'.image = r.image) ∧
        t.region (otherEr er) = s.region (otherEr er)) ∧
    (c.phase = .draining → c.tc.toNat + c.budget ≤ (s.region er).tick.toNat + c.m →
      ∃ t, exec (.changeAbandoned er p) s = .next t ∧
        (let r := s.region er
         let r' := t.region er
         r'.programs = r.programs ∧ look none r'.waiting p.toNat = none ∧ look none r'.changes p.toNat = none ∧
         (∃ rep, look none r'.reports p.toNat = some rep ∧ rep.result = 2 ∧ rep.tc = c.tc ∧ rep.tend = r.tick) ∧ r'.image = r.image) ∧
        t.region (otherEr er) = s.region (otherEr er))

/-! ### Faults, blocks, contact sheet and rejoin (R26, R36, R184 to R221) -/

/-- R26, R36, R192, R193, R204: what the level table does with an error. A corrected error counts; an engine in service
is replaced by a spare and put under test; a region that flags itself in DUPLEX leaves and its partner is ACTIVE; a chip-level
error halts the device, and where both regions flag, both are out; a queue of a shared producer freezes and its entries are lost; SR's
failure turns secrets off, HR's stops HR, AR's leaves control going on, and each of the three is recorded, with a code that the spec
leaves open (log entry 73). Completes blockFault. -/
def Obligations.BlockFaultsFollowTheLevelTable : Prop :=
  ∀ s : State, s.powered = true →
    (∀ b : BitVec 16, tableWf ({} : Block) s.health.blocks = true →
      ∃ t, exec (.blockFault (.corrected b)) s = .next t ∧ { t with health := s.health } = s ∧
        (let n := blockOf b.toNat
         t.block n = { s.block n with corr := satInc (s.block n).corr } ∧ ∀ j, j ≠ n → t.block j = s.block j)) ∧
    (∀ (er : Er) (n m : Nat), n < 34 → m < 34 → (s.block (blockId (erNum er) 1 n)).state = .inService →
      spareOf s (erNum er) 1 = some (blockId (erNum er) 1 m) → m ≠ n → tableWf ({} : Block) s.health.blocks = true →
      ∃ t, exec (.blockFault (.block (BitVec.ofNat 16 (blockId (erNum er) 1 n)) false false 0)) s = .next t ∧
        (t.block (blockId (erNum er) 1 n)).state = .underTest ∧ (t.block (blockId (erNum er) 1 n)).targeted = true ∧
        (t.block (blockId (erNum er) 1 m)).state = .inService ∧ (t.block (blockId (erNum er) 1 m)).targeted = false ∧
        (∀ j, j ≠ blockId (erNum er) 1 n → j ≠ blockId (erNum er) 1 m → t.block j = s.block j) ∧
        t.region (otherEr er) = s.region (otherEr er) ∧ t.pair = s.pair) ∧
    (∀ (er : Er) (cause : Nat) (b : BitVec 16), s.duplex = true →
      ∃ t, exec (.blockFault (.selfFlag er cause b false)) s = .next t ∧ t.serving er = false ∧ t.pair.active = otherEr er) ∧
    (∀ (cA cB : Nat) (bA bB : BitVec 16),
      ∃ t, exec (.blockFault (.bothFlags cA bA cB bB)) s = .next t ∧ t.dev.dstate = .halt ∧ ∀ er, t.serving er = false) ∧
    (∀ f : FaultEvent, (f = .lockstep ∨ f = .bothPlls ∨ f = .chip ∨ (∃ qid, f = .linkPattern qid true) ∨
        (∃ er cause b, f = .selfFlag er cause b true) ∨ ∃ u, f = .shared 4 u) →
      ∃ t, exec (.blockFault f) s = .next t ∧ t.dev.dstate = .halt) ∧
    (∀ (qid : BitVec 16) (kind check : Nat), 2 ≤ qid.toNat / 8192 → s.img.update = none →
      ∃ t, exec (.blockFault (.ledger kind qid check)) s = .next t ∧ (t.queue qid.toNat).frozen = true ∧ (t.queue qid.toNat).occ = 0 ∧
        ∀ j, j ≠ qid.toNat → t.queue j = s.queue j) ∧
    (∀ u, ∃ t, exec (.blockFault (.shared 5 u)) s = .next t ∧ t.sec.secretsOn = false ∧ t.sec.secOff = true ∧ Raised t 623 ∧
      SubmittedOpen s t 5) ∧
    (∀ u, ∃ t, exec (.blockFault (.shared 6 u)) s = .next t ∧ { t with hr := s.hr, recd := s.recd, evc := s.evc, free := s.free } = s ∧
      t.hr = { s.hr with running := false, linkUp := false } ∧ SubmittedOpen s t 6) ∧
    (∀ u, ∃ t, exec (.blockFault (.shared 7 u)) s = .next t ∧ { t with recd := s.recd, evc := s.evc, free := s.free } = s ∧
      SubmittedOpen s t 7)

/-- R206: a scan engine or a control-engine lane that fails while it is not in service is retired. The region takes no further
action: beside the block's own record nothing changes but what the recorder and the interrupt targets are told. -/
def Obligations.BlocksOutOfServiceAreRetired : Prop :=
  ∀ (s : State) (b : BitVec 16) (flagged : Bool) (cause : Nat), s.powered = true → blkRegion b.toNat < 2 →
    blkKind b.toNat = 1 ∨ blkKind b.toNat = 2 → (s.block b.toNat).state = .spare ∨ (s.block b.toNat).state = .underTest →
    ∃ t, exec (.blockFault (.block b false flagged cause)) s = .next t ∧ (t.block b.toNat).state = .retired ∧
      (∀ j, j ≠ b.toNat → t.block j = s.block j) ∧
      { t with health := s.health, recd := s.recd, evc := s.evc } = s

/-- R205: a block whose targeted self-test passes becomes SPARE and its TRANS counts; one that fails is RETIRED, its LASTING
counts, and no test brings it back; a segment of a bank or of the code store that passes is a spare again. R210, R212, R213: a scrub
pass counts each corrected error of its block and spares a segment whose error recurs; a fixer's known-answer test that passes moves
that fixer on to its next bit; the health records are written to MRAM as they stand. Completes selfTestComplete, scrubPass, fixerKat
and healthRecordWrite. -/
def Obligations.BlockTestsAndScrubbingDecideTheBlock : Prop :=
  ((∀ (s : State) (block : BitVec 16) (us : W32), s.powered = true → blkKind block.toNat = 1 ∨ blkKind block.toNat = 2 →
     (s.block block.toNat).state = .underTest → (s.block block.toNat).targeted = true →
     ∃ t, exec (.selfTestComplete block 0 us) s = .next t ∧
       (let x := s.block block.toNat
        t.block block.toNat = { x with state := .spare, last := 0, trans := satInc x.trans, targeted := false, tests := x.tests + 1,
                                       ttime := s.time.dtime }) ∧
       (∀ j, j ≠ block.toNat → t.block j = s.block j) ∧ t.pair = s.pair ∧ (∀ er, t.region er = s.region er)) ∧
   (∀ (s : State) (block : BitVec 16) (step : Nat) (us : W32), s.powered = true → blkKind block.toNat = 1 ∨ blkKind block.toNat = 2 →
     (s.block block.toNat).state = .underTest → step ≠ 0 →
     ∃ t, exec (.selfTestComplete block step us) s = .next t ∧ (t.block block.toNat).state = .retired ∧ (t.block block.toNat).last = 1 ∧
       (t.block block.toNat).lasting = satInc (s.block block.toNat).lasting ∧ (∀ j, j ≠ block.toNat → t.block j = s.block j) ∧
       t.pair = s.pair) ∧
   (∀ (s : State) (block : BitVec 16) (us : W32), s.powered = true →
     (let b := blockOf block.toNat
      let part := block.toNat % 256
      (s.block b).segments ≠ 0 → blkKind block.toNat = 3 ∨ (blkKind block.toNat = 9 ∧ look 4 (s.block b).parts part < 4) →
      tableWf 4 (s.block b).parts = true → tableWf ({} : Block) s.health.blocks = true →
      ∃ t, exec (.selfTestComplete block 0 us) s = .next t ∧ (t.block b).segments = (s.block b).segments - 1 ∧
        (t.block b).spares = (s.block b).spares + 1 ∧ (t.block b).trans = satInc (s.block b).trans ∧
        (blkKind block.toNat = 9 → look 4 (t.block b).parts part = look 4 (s.block b).parts part + 1) ∧
        (∀ j, j ≠ b → t.block j = s.block j) ∧ t.pair = s.pair)) ∧
   ∀ (s t : State) (block : BitVec 16) (step : Nat) (us : W32), (s.block (blockOf block.toNat)).state = .retired →
     (s.block (blockOf block.toNat)).segments = 0 →
     exec (.selfTestComplete block step us) s = .next t → t = s) ∧
  (∀ (s : State) (er : Er), s.powered = true → tableWf ({} : Block) s.health.blocks = true →
     (∀ corrected : List (BitVec 16),
       ∃ t, exec (.scrubPass er corrected []) s = .next t ∧ { t with health := s.health } = s ∧
         ∀ b : Nat, t.block b = { s.block b with corr := satAdd (s.block b).corr ((corrected.map (fun c => blockOf c.toNat)).count b) }) ∧
     (∀ b : BitVec 16, s.serving er = true → blkKind b.toNat = 3 → (s.block b.toNat).spares ≠ 0 →
       ∃ t, exec (.scrubPass er [] [b]) s = .next t ∧
         t.block b.toNat = { s.block b.toNat with spares := (s.block b.toNat).spares - 1, segments := (s.block b.toNat).segments + 1 } ∧
         (∀ j, j ≠ b.toNat → t.block j = s.block j) ∧ t.pair = s.pair) ∧
     (∃ t, exec (.fixerKat er none) s = .next t ∧ { t with health := s.health } = s ∧ katBit t.health er = (katBit s.health er + 1) % 64 ∧
       katBit t.health (otherEr er) = katBit s.health (otherEr er) ∧
       t.health.blocks = s.health.blocks) ∧
     (s.dev.cutoff = true → exec .healthRecordWrite s = .next s) ∧
     (s.dev.cutoff = false → ∃ t, exec .healthRecordWrite s = .next t ∧ { t with health := s.health } = s ∧ t.health.mram = s.health.blocks ∧
       t.health.blocks = s.health.blocks))

/-- R208, R209: a rotation puts the engines that have passed their tests among the spares and the first spare in the place of the
next one in service, which is tested at once or, while it runs, leaves at the end of its run, unless it has left service before; with no spare beside it the tested
engine takes that place, and a test that has not passed is waited for; the tested lane enters service and the next lane is tested.
Completes engineRotation, engineLeavesService and laneRotation. -/
def Obligations.RotationsMoveTheBlockUnderTest : Prop :=
  (∀ (s : State) (er : Er) (b n : Nat) (tests rest : List Nat), s.dev.dstate = .run → s.serving er = true →
    (inState s (erNum er) 1 .underTest).filter (fun b => !(s.block b).targeted) = tests →
    inState s (erNum er) 1 .spare ++ tests = n :: rest → nextInService s (erNum er) 1 (tests.head?.getD (rotation s er)) = some b →
    tableWf ({} : Block) s.health.blocks = true →
    (tests.any (fun u => !(s.block u).passed) = true → exec (.engineRotation er) s = .next s) ∧
    ((∀ u ∈ tests, (s.block u).passed = true) →
    ∃ t, exec (.engineRotation er) s = .next t ∧ (t.block n).state = .inService ∧ (∀ u ∈ tests, u ≠ n → (t.block u).state = .spare) ∧
      rotation t er = b ∧ (∀ j, j ∉ tests → j ≠ b → j ≠ n → t.block j = s.block j) ∧ t.pair = s.pair ∧ t.region (otherEr er) = s.region (otherEr er) ∧
      ((engineOf (s.region er) (b % 256)).running = false → (t.block b).state = .underTest ∧ t.region er = s.region er) ∧
      ((engineOf (s.region er) (b % 256)).running = true → t.block b = s.block b ∧ (engineOf (t.region er) (b % 256)).leaving = true))) ∧
  (∀ (s : State) (er : Er), s.powered = true → tableWf ({} : Engine) (s.region er).engines = true →
    ∃ t, exec (.engineLeavesService er) s = .next t ∧ t.pair = s.pair ∧ t.region (otherEr er) = s.region (otherEr er) ∧
      ∀ n, (engineOf (s.region er) n).leaving = true → (engineOf (s.region er) n).running = false →
        (engineOf (t.region er) n).leaving = false ∧
        ((s.block (blockId (erNum er) 1 n)).state = .inService → (t.block (blockId (erNum er) 1 n)).state = .underTest) ∧
        ((s.block (blockId (erNum er) 1 n)).state ≠ .inService → t.block (blockId (erNum er) 1 n) = s.block (blockId (erNum er) 1 n))) ∧
  (∀ (s : State) (er : Er) (u b : Nat) (rest : List Nat), s.dev.dstate = .run → s.serving er = true →
    (inState s (erNum er) 2 .underTest).filter (fun b => !(s.block b).targeted && (s.block b).passed) ++ inState s (erNum er) 2 .spare = u :: rest →
    nextInService s (erNum er) 2 u = some b → tableWf ({} : Block) s.health.blocks = true →
    ∃ t, exec (.laneRotation er) s = .next t ∧ { t with health := s.health } = s ∧ (t.block u).state = .inService ∧
      (t.block b).state = .underTest ∧ ∀ j, j ≠ u → j ≠ b → t.block j = s.block j)

/-- R217 to R221: a rejoin starts in phase 1 with the region TESTING, is JOINING once its tests pass, copies until its final pass,
and joins as STANDBY with the ACTIVE region's copy of everything that decides an output (outside an update); while a block has still
to take its targeted test, phase 1 goes on. That the join tick is the one after the ACTIVE region's last applied tick is read from
R219 (log entry 45). Completes rejoinStarted, rejoinTestingComplete, rejoinCopyPassComplete, rejoinJoin and
mirrorAck. -/
def Obligations.RejoinRunsItsPhases : Prop :=
  ∀ (s : State) (er : Er),
    (s.regState er = .out → s.pair.autoRejoin = true → mayRejoin s er = true →
      ∃ t, exec (.rejoinStarted er) s = .next t ∧ t.regState er = .testing ∧ t.regState (otherEr er) = s.regState (otherEr er) ∧
        t.pair.rejoin = some { er := er, phase := 1, pass := 0 } ∧ t.pair.active = s.pair.active ∧ (∀ r, t.region r = s.region r)) ∧
    (∀ j, s.powered = true → s.pair.rejoin = some j → j.er = er → j.phase = 1 → enoughBlocks s (erNum er) = true →
      (testsDue s (erNum er) = true → exec (.rejoinTestingComplete er false) s = .next s) ∧
      (testsDue s (erNum er) = false → ∃ t, exec (.rejoinTestingComplete er false) s = .next t ∧ t.regState er = .joining ∧
        t.pair.rejoin = some { j with phase := 2 } ∧ (∀ r, t.region r = s.region r))) ∧
    (∀ j n, s.powered = true → s.pair.rejoin = some j → j.er = er → 2 ≤ j.phase → j.phase ≤ 4 →
      ∃ t, exec (.rejoinCopyPassComplete er n) s = .next t ∧ { t with pair := s.pair } = s ∧
        t.pair.rejoin = some { j with phase := (if j.phase = 4 then 5 else if n ≤ 64 ∨ 4 ≤ j.pass + 1 then 4 else 3), pass := j.pass + 1,
                                      tj := s.fab.nextTick }) ∧
    (∀ j, s.dev.dstate = .run → s.pair.rejoin = some j → j.er = er → j.phase = 5 →
      j.tj.toNat ≤ ((s.region (otherEr er)).tick + 1).toNat → s.img.update = none → s.img.reload = [] →
      ∃ t, exec (.rejoinJoin er) s = .next t ∧ t.regState er = .standby ∧ t.pair.rejoin = none ∧
        t.pair.tj = (s.region (otherEr er)).tick + 1 ∧ t.pair.lead = otherEr er ∧ t.pair.rejoins = satInc s.pair.rejoins ∧
        t.region (otherEr er) = s.region (otherEr er) ∧
        (let a := s.region (otherEr er)
         let m := t.region er
         m.image = a.image ∧ m.stamps = a.stamps ∧ m.attr = a.attr ∧ m.limits = a.limits ∧ m.grants = a.grants ∧ m.slots = a.slots ∧
         m.causes = a.causes ∧ m.programs = a.programs ∧ m.waiting = a.waiting ∧ m.changes = a.changes ∧ m.vars = a.vars ∧
         m.forces = a.forces ∧ m.loops = a.loops ∧ m.staging = a.staging ∧ m.tick = a.tick)) ∧
    (∀ (slot : BitVec 9) (no : W32) (x : Run), s.powered = true → s.duplex = true → WorkRef.run slot no ∈ s.pair.mirror →
      findRun (s.region s.lead) slot no = some x → x.phase = .closed → x.decided = false →
      tableWf ([] : Mem) (s.region (otherEr s.lead)).vars = true →
      ∃ t, exec (.mirrorAck (.run slot no)) s = .next t ∧ t.pair = { s.pair with mirror := s.pair.mirror.erase (.run slot no) } ∧
        t.region s.lead = s.region s.lead ∧
        look [] (t.region (otherEr s.lead)).vars slot.toNat = look [] (s.region s.lead).vars slot.toNat ∧
        ∀ k, k ≠ slot.toNat → look [] (t.region (otherEr s.lead)).vars k = look [] (s.region (otherEr s.lead)).vars k)

/-! ### Mailbox pages and registers (R15 to R19, R462 to R482) -/

/-- R470, R471, R474 to R476, R481: a doorbell on a busy page only sets `DBERR`; on a free one it latches the sequence and leaves
the page busy for its command (an object of at most 64 KiB; the model's choice beyond: log entry 107), with the doorbell bit and
an interrupt request at each region in service, or the request is turned away at once: an unknown code, a wrong length, a segment
out of order, a DMA without a host link or outside the window. R474 to R476, R478, R482: a DMA that is complete answers the page
with its object written to the host, or gives the command its data; one that fails acts on nothing. A segment that does not come
within its time ends the object; a copy no longer read expires. HR's restart answers every open request UNAVAILABLE. Completes
mbxDoorbell, bulkDmaComplete, segmentTimeout, objectCopyExpiry, hrRestartComplete. -/
def Obligations.PagesFollowTheirRequests : Prop :=
  (∀ (s : State) (p : BitVec 7) (n : BitVec 16), s.powered = true →
     (let x := s.page p
      let q := bits x.req 10 0
      let taken : Page := { x with busy := true, rung := true, valid := false, seqNo := n, moved := false }
      let turned (st : Stat) : Page := { x with rung := false, gathered := [], gatherCmd := none, moved := false, seqNo := n, resp := leBytes 4 0, stat := st.code, rlen := 4, valid := true }
      (x.busy = true → ∃ t, exec (.mbxDoorbell p n) s = .next t ∧ OnlyPage p s t ∧ t.page p = { x with dberr := true } ∧
        t.hr.doorbells = s.hr.doorbells) ∧
      (x.busy = false → s.hr.running = false → x.object = none →
        ∃ t, exec (.mbxDoorbell p n) s = .next t ∧ OnlyPage p s t ∧ t.page p = turned .unavailable) ∧
      (x.busy = false → MbxOpen s → x.object = none → x.gatherCmd = none → x.timedOut = false →
        (requestLen x.cmd = none →
          ∃ t, exec (.mbxDoorbell p n) s = .next t ∧ OnlyPage p s t ∧ t.page p = turned .unknownCommand ∧ Pending t .host (32 + p.toNat) = true) ∧
        (∀ fixed tail, requestLen x.cmd = some (fixed, tail) →
          (fixed ≤ q → q ≤ 1984 → (fixed < q → tail = true) → x.bulk = true → x.toHost = true ∨ tail = true → p ≠ 0 → ownerOnly x.cmd = true →
            ∃ t, exec (.mbxDoorbell p n) s = .next t ∧ OnlyPage p s t ∧ t.page p = turned .denied) ∧
          (q < fixed ∨ 1984 < q ∨ (fixed < q ∧ tail = false) →
            ∃ t, exec (.mbxDoorbell p n) s = .next t ∧ OnlyPage p s t ∧ t.page p = turned .badLength ∧ Pending t .host (32 + p.toNat) = true) ∧
          (fixed ≤ q → q ≤ 1984 → (fixed < q → tail = true) → takesContainer x.cmd = false → x.blen.toNat ≤ 65536 → x.bulk = false ∨ p = 0 ∨ ownerOnly x.cmd = false →
            (x.bulk = false →
              ∃ t, exec (.mbxDoorbell p n) s = .next t ∧ OnlyPage p s t ∧ t.page p = taken ∧ t.hr.doorbells = s.hr.doorbells ++ [p] ∧
                (s.serving .A = true → p ∈ t.evc.a0.bells ∧ t.evc.a0.request = true) ∧ (s.serving .B = true → p ∈ t.evc.b0.bells ∧ t.evc.b0.request = true)) ∧
            (x.bulk = true → x.toHost = false → tail = true → x.segm = false →
              (s.hr.pcie = false → ∃ t, exec (.mbxDoorbell p n) s = .next t ∧ OnlyPage p s t ∧ t.page p = turned .noDma) ∧
              (s.hr.pcie = true → dmaInWindow s p x.blen.toNat = false →
                ∃ t, exec (.mbxDoorbell p n) s = .next t ∧ OnlyPage p s t ∧ t.page p = turned .windowFault) ∧
              (s.hr.pcie = true → dmaInWindow s p x.blen.toNat = true →
                ∃ t, exec (.mbxDoorbell p n) s = .next t ∧ OnlyPage p s t ∧ t.page p = { taken with bdone := 0 })) ∧
            (x.bulk = true → x.toHost = false → tail = true → x.segm = true →
              (let data := (requestParts x fixed).2
               (x.boff ≠ 0 ∨ x.blen.toNat < data.length ∨ (bit x.bctrl 28 = true ∧ data.length ≠ x.blen.toNat) →
                 ∃ t, exec (.mbxDoorbell p n) s = .next t ∧ OnlyPage p s t ∧ t.page p = turned .segmentError) ∧
               (x.boff = 0 → data.length ≤ x.blen.toNat → bit x.bctrl 28 = false →
                 ∃ t, exec (.mbxDoorbell p n) s = .next t ∧ OnlyPage p s t ∧
                   t.page p = { x with
                     rung := false, moved := false, seqNo := n, resp := [], stat := Stat.segmentOk.code, rlen := 0, valid := true,
                     gatherCmd := some (x.cmd, x.blen.toNat, (requestParts x fixed).1), bdone := BitVec.ofNat 32 data.length,
                     gathered := data }))) ∧
            (x.bulk = true → x.toHost = true → x.segm = true → x.boff ≠ 0 →
              ∃ t, exec (.mbxDoorbell p n) s = .next t ∧ OnlyPage p s t ∧ t.page p = turned .segmentError)))))) ∧
  (∀ (s : State) (p : BitVec 7), s.powered = true → tableWf ({} : Page) s.hr.pages = true →
     (let x := s.page p
      let others (t : State) : Prop := ∀ q, q ≠ p → t.page q = s.page q
      (∀ data : Bytes, s.hr.running = true → x.busy = true → x.bulk = true → x.segm = false → x.moved = false → x.gatherCmd = none →
        (∃ t, exec (.bulkDmaComplete p false data) s = .next t ∧ OnlyPage p s t ∧
          (t.page p).stat = Stat.dmaFailed.code ∧ (t.page p).busy = false ∧ (t.page p).valid = true ∧ (t.page p).object = none) ∧
        (∀ o, x.toHost = true → x.object = some o →
          ∃ t, exec (.bulkDmaComplete p true data) s = .next t ∧ { t with hr := s.hr, evc := s.evc } = s ∧ others t ∧
            t.hr.hostWrites = s.hr.hostWrites ++ [(x.baddr, o)] ∧ Pending t .host (32 + p.toNat) = true ∧
            t.page p = { x with
              gatherCmd := some (x.cmd, 0, []), bdone := BitVec.ofNat 32 o.length, resp := x.objFields.take 2048, stat := Stat.ok.code,
              rlen := min x.objFields.length 2048, busy := false, rung := false, valid := true }) ∧
        (x.toHost = false → takesContainer x.cmd = false → data.length = x.blen.toNat →
          ∃ t, exec (.bulkDmaComplete p true data) s = .next t ∧ OnlyPage p s t ∧
            t.page p = { x with bdone := BitVec.ofNat 32 data.length, moved := true, gathered := data })) ∧
      (∀ g, x.busy = false → x.gatherCmd = some g → x.object = none → takesContainer g.1 = false →
        ∃ t, exec (.segmentTimeout p) s = .next t ∧ OnlyPage p s t ∧
          t.page p = { x with gathered := [], gatherCmd := none, timedOut := true }) ∧
      (∀ o, x.busy = false → x.object = some o →
        ∃ t, exec (.objectCopyExpiry p) s = .next t ∧ OnlyPage p s t ∧ t.page p = { x with object := none, objFields := [], gatherCmd := none }) ∧
      (s.hr.running = false → (∀ e ∈ s.hr.pages, e.1 < 128) →
        ∃ t, exec .hrRestartComplete s = .next t ∧ { t with hr := s.hr, evc := s.evc, recd := s.recd } = s ∧ t.hr.running = true ∧
          t.hr.doorbells = [] ∧
          ∀ q, ((s.page q).busy = true → (t.page q).busy = false ∧ (t.page q).valid = true ∧ (t.page q).stat = Stat.unavailable.code) ∧
            ((s.page q).busy = false → t.page q = s.page q))))

/-- R15, R17 to R19, R309, R378 to R381, R465, R468, R470: a register write reaches its word: a page's request words while it is
not busy (then they set `WRERR` instead), a target's own registers, the route table (R376) and the time unit for the ACTIVE
region alone; the status block ignores it. A serial frame writes while no PCI Express host is present, and a write with a partial
word is discarded, a read with one answered by Unsupported Request (R462 to R464); a read frame over a wide register copies its
upper word between the two (R15). While HR's port is held in reset nothing of it acts (R26). A read of the word shows what was written, as far as the word holds it; a write-only word reads
zero (R17, R19, R286). A read of a lower word holds the upper one for its requester, whose next read of the upper word returns it
(R15, R305); the upper word of a 32-bit counter reads zero. Completes registerWrite, counterLowerWordRead. -/
def Obligations.RegisterWritesReachTheirUnit : Prop :=
  ∀ s : State, s.powered = true →
    (∀ (p : BitVec 7) (k : Nat) (v : W64) (y : Page), tableWf ({} : Page) s.hr.pages = true → s.hr.running = true →
      (let x := s.page p
       let w : W32 := v.setWidth 32
       let open_ : Prop := x.busy = false ∧
         ((k = 0x18 ∧ y = { x with req := w &&& 0xFFFF07FF }) ∨ (k = 0x1C ∧ y = { x with bctrl := w &&& 0xF0000000 }) ∨
          (k = 0x20 ∧ y = { x with boff := w }) ∨ (k = 0x24 ∧ y = { x with blen := w }) ∨
          (k = 0x28 ∧ y = { x with baddr := setBits x.baddr 31 0 w.toNat }) ∨ (k = 0x2C ∧ y = { x with baddr := setBits x.baddr 63 32 w.toNat }) ∨
          (0x40 ≤ k ∧ k < 0x800 ∧ k % 4 = 0 ∧ y = { x with reqBuf := x.reqBuf.writeBytes k (leBytes 4 w.toNat) }))
       let closed : Prop := x.busy = true ∧ k % 4 = 0 ∧ ((0x18 ≤ k ∧ k < 0x30) ∨ (0x40 ≤ k ∧ k < 0x800)) ∧ y = { x with wrerr := true }
       open_ ∨ closed →
        ∃ t, exec (.registerWrite .bar0 (0x10000 + p.toNat * 0x1000 + k) v) s = .next t ∧ { t with hr := s.hr } = s ∧
          { t.hr with pages := s.hr.pages } = s.hr ∧ t.page p = y ∧ (∀ q, q ≠ p → t.page q = s.page q) ∧
          ∀ who, (open_ → k ≠ 0x18 → k ≠ 0x1C → (0x40 ≤ k → Mem.wf x.reqBuf = true) →
              readBar0 t who (0x10000 + p.toNat * 0x1000 + k) = w) ∧
            (open_ → k = 0x18 → readBar0 t who (0x10018 + p.toNat * 0x1000) = w &&& 0xFFFF07FF) ∧
            (open_ → k = 0x1C → readBar0 t who (0x1001C + p.toNat * 0x1000) = w &&& 0xF0000000) ∧
            (closed → bit (readBar0 t who (0x10000 + p.toNat * 0x1000)) 28 = true))) ∧
    (∀ (p : BitVec 7) (who : Requester), readBar0 s who (0x10014 + p.toNat * 0x1000) = 0 ∧ readBar0 s who (0x10030 + p.toNat * 0x1000) = 0 ∧
      readTimeUnit s 0x10 = 0) ∧
    (∀ (tg : Target) (g : Nat) (v : W64), g < 32 → tg ≠ .host ∨ s.hr.running = true →
      (∃ t, exec (.registerWrite (.evcCore tg) (0x100 + 4 * g) v) s = .next t ∧ { t with evc := s.evc } = s ∧
        t.target tg = { s.target tg with mask := put 0xFFFFFFFF (s.target tg).mask g (v.setWidth 32) } ∧
        (∀ u, u ≠ tg → t.target u = s.target u) ∧
        (tableWf 0xFFFFFFFF (s.target tg).mask = true → readEvc t tg (0x100 + 4 * g) = v.setWidth 32)) ∧
      (∃ t, exec (.registerWrite (.evcCore tg) (0x200 + 4 * g) v) s = .next t ∧ { t with evc := s.evc } = s ∧
        t.target tg = { s.target tg with hold := put 0 (s.target tg).hold g (v.setWidth 32 &&& 0xFFFF) } ∧
        (∀ u, u ≠ tg → t.target u = s.target u) ∧
        (tableWf 0 (s.target tg).hold = true → readEvc t tg (0x200 + 4 * g) = v.setWidth 32 &&& 0xFFFF))) ∧
    (∀ (off : Nat) (v : W64) (l : List (BitVec 4 × W32)),
      (s.hr.pcie = true → exec (.registerWrite .serial off v) s = .next s) ∧
      (s.hr.pcie = false → off < 2 ^ 22 → exec (.registerWrite (.frame (0x38 :: BitVec.ofNat 8 (off / 65536) :: BitVec.ofNat 8 (off / 256) ::
        BitVec.ofNat 8 off :: leBytes 4 (v.setWidth 32 : W32).toNat)) 0 0) s = exec (.registerWrite .bar0 off v) s) ∧
      ((∃ e ∈ l, e.1 ≠ 0xF) → exec (.registerWrite (.words l) off v) s = .next s) ∧
      exec (.registerWrite (.words [(0xF, v.setWidth 32)]) off 0) s = exec (.registerWrite .bar0 off v) s) ∧
    (∀ (n : Nat) (v : W64), n < 1024 → ¬ (32 ≤ n ∧ n ≤ 287) →
      exec (.registerWrite (.routeTable true) n v) s = .next { s with evc := { s.evc with toCores := put 0xF s.evc.toCores n (v.setWidth 4) } }) ∧
    (∀ (off : Nat) (v : W64), exec (.registerWrite (.timeUnit false) off v) s = .next s ∧ exec (.registerWrite (.routeTable false) off v) s = .next s ∧
      (off < 0x2000 → exec (.registerWrite .bar0 off v) s = .next s)) ∧
    (∀ v : W64,
      (let t : State := { s with time := { s.time with rate := BitVec.ofNat 32 (bits v 63 32), slewMax := BitVec.ofNat 27 (bits v 26 0) } }
       exec (.registerWrite (.timeUnit true) 0 v) s = .next t ∧ readTimeUnit t 0 = v &&& 0xFFFFFFFF07FFFFFF) ∧
      (let t : State := { s with time := { s.time with slewRem := (BitVec.ofNat 48 (bits v 47 0)).toInt * 2 ^ 40 } }
       exec (.registerWrite (.timeUnit true) 8 v) s = .next t ∧ readTimeUnit t 8 = v &&& 0x0000FFFFFFFFFFFF)) ∧
    (∀ (off : Nat) (v : W64), s.hr.running = false → isDoorbell off = false →
      exec (.registerWrite .bar0 off v) s = .next s ∧ ∀ reg, exec (.counterLowerWordRead .hostPort reg) s = .next s) ∧
    (∀ (bar2 : Bool) (off : Nat) (l : List (BitVec 4)), (∃ e ∈ l, e ≠ 0xF) → readRequest s bar2 off l = (none, s)) ∧
    (∀ (off : Nat), s.hr.pcie = false → s.hr.running = true → off = 0x30 ∨ off = 0x38 → tableWf 0 s.hr.holds = true →
      (readFrame s [0xEB, 0, 0, BitVec.ofNat 8 off] 2).1 =
        [BitVec.ofNat 32 (if off = 0x30 then s.time.dtime.toNat else s.nowTick), BitVec.ofNat 32 ((if off = 0x30 then s.time.dtime.toNat else s.nowTick) / 2 ^ 32)]) ∧
    (∀ (who : Requester) (reg : WideReg), tableWf 0 s.hr.holds = true → who ≠ .hostPort ∧ who ≠ .core .host ∨ s.hr.running = true →
      ∃ t, exec (.counterLowerWordRead who reg) s = .next t ∧ { t with hr := s.hr } = s ∧ { t.hr with holds := s.hr.holds } = s.hr ∧
        look 0 t.hr.holds (holdNo who) = BitVec.ofNat 32 (wideValue s reg / 2 ^ 32) ∧
        (∀ k, k ≠ holdNo who → look 0 t.hr.holds k = look 0 s.hr.holds k) ∧
        (let upper : W32 := BitVec.ofNat 32 (wideValue s reg / 2 ^ 32)
         readBar0 t who 0x34 = upper ∧ (∀ p : BitVec 7, readBar0 t who (0x1000C + p.toNat * 0x1000) = upper) ∧
         ∀ off w v, statSlot s off = some (w, v) → off % 8 = 4 → readBar2 t who off = if w = 48 then upper else 0))
/-! ### Monitoring reads (R53 to R64, R105 to R107, R142, R154 to R166, R213, R262, R304, R337, R357, R398, R467) -/

/-- R53, R61, R105, R107, R142, R154, R160, R161, R166: reads of the process image, the programs and the loops answer what the
ACTIVE region's image holds, with `READ_TICK` and FIXED_TICK where the read has them; nothing else changes. R15, R55, R213, R214,
R262, R263, R304, R314, R337, R357, R398, R467: reads of the units' state, counters and records answer what they hold; nothing
else changes. Completes pointRead, varRead, taskCounters, grantRead, attrRead, changeReport, programInfo, forceList, loopRead,
deviceInfo, queueCounters, lostAtReset, interlockRead, channelCounters, stationState, vstationCounters, contactSheet, recRead,
ptpRead. -/
def Obligations.ReadsAnswerWhatTheStateHolds : Prop :=
  (∀ (s : State) (p : BitVec 7), MbxOpen s →
     (let r := s.image
      let times : Bytes := leBytes 8 r.tick.toNat ++ leBytes 8 (s.fixedTick p.toNat)
      (∀ (first count : W32), 1 ≤ count.toNat → count.toNat ≤ 65536 → first.toNat + count.toNat ≤ 2 ^ 20 →
        Asked s (.pointRead p first count) → ∃ t, exec (.pointRead p first count) s = .next t ∧
          ObjectAnswered s t p times (wordBytes ((List.range count.toNat).map (fun k =>
            if mayRead r p.toNat (first.toNat + k) then copyOut r (BitVec.ofNat 64 s.nowTick) (first.toNat + k) else deniedWord)))) ∧
      (∀ (iid off len : W32) (g : Program) (b : Inst), programOf r p.toNat = some g →
        g.insts.find? (fun x => x.iid == iid && x.kind == 1) = some b → off.toNat + len.toNat ≤ b.len →
        Asked s (.varRead p iid off len) → ∃ t, exec (.varRead p iid off len) s = .next t ∧
          ObjectAnswered s t p times ((applyForced (forcedWords r g b.slot) (look [] r.vars b.slot.toNat)).readBytes (b.voff + off.toNat) len.toNat)) ∧
      (∀ (slot : W32) (k : Task), slot.toNat < 512 → taskOf r (slot.setWidth 9) = some k → k.part = p →
        Asked s (.taskCounters p slot) → ∃ t, exec (.taskCounters p slot) s = .next t ∧
          (let x := slotOf r (slot.setWidth 9)
           ReadAnswered s t p (words4 [x.runs, x.overrun, x.triggers, x.retractedOut, x.retractedEv, x.aborts] ++ leBytes 8 x.lastDuration.toNat))) ∧
      (∀ entry : W32, entry.toNat < 8192 → p = 0 ∨ bits (look 0 r.grants entry.toNat) 62 56 = p.toNat →
        Asked s (.grantRead p entry) →
        ∃ t, exec (.grantRead p entry) s = .next t ∧ ReadAnswered s t p (leBytes 8 (look 0 r.grants entry.toNat).toNat)) ∧
      (∀ point : W32, p = 0 → point.toNat < 2 ^ 20 →
        Asked s (.attrRead p point) → ∃ t, exec (.attrRead p point) s = .next t ∧
          ReadAnswered s t p (leBytes 4 (typeOf r point.toNat) ++ leBytes 4 0 ++ leBytes 8 (attrOf r point.toNat).toNat)) ∧
      (∀ x, look none r.reports p.toNat = some x →
        Asked s (.changeReport p) → ∃ t, exec (.changeReport p) s = .next t ∧ ObjectAnswered s t p [] (reportBytes x)) ∧
      (∀ g, programOf r p.toNat = some g →
        Asked s (.programInfo p) → ∃ t, exec (.programInfo p) s = .next t ∧
          ReadAnswered s t p (leBytes 8 g.build.toNat ++ leBytes 8 g.bodyLen ++ leBytes 4 (look none r.waiting p.toNat).isSome.toNat)) ∧
      (Asked s (.forceList p) → ∃ t, exec (.forceList p) s = .next t ∧
        (let fs := r.forces.filter (fun f => f.part == p)
         ObjectAnswered s t p (leBytes 4 fs.length ++ leBytes 4 0) (wordBytes (fs.flatMap forceWords)))) ∧
      (∀ slot : W32, slot.toNat < 8192 → (loopOf r slot.toNat).owner = p → (loopOf r slot.toNat).valid = true →
        Asked s (.loopRead p slot) → ∃ t, exec (.loopRead p slot) s = .next t ∧
          ReadAnswered s t p (times ++ wordBytes ((List.range 32).map (fun k => (loopOf r slot.toNat).word k)))))) ∧
  (∀ (s : State) (p : BitVec 7), MbxOpen s →
     (Asked s (.deviceInfo p) → ∃ t, exec (.deviceInfo p) s = .next t ∧ ReadAnswered s t p (statusBlock s)) ∧
     (∀ q : W32, q.toNat = p.toNat →
       Asked s (.queueCounters p q) → ∃ t, exec (.queueCounters p q) s = .next t ∧
         ReadAnswered s t p ((List.range 12).flatMap (fun i => leBytes 8 (look 0 (s.nq p.toNat).counters i)))) ∧
     (p = 0 →
       (∀ q : W32, q.toNat < 65536 →
         Asked s (.lostAtReset p q) →
         ∃ t, exec (.lostAtReset p q) s = .next t ∧ ReadAnswered s t p (leBytes 4 (s.queue q.toNat).lostAtReset.toNat)) ∧
       (∀ eq : W32, eq.toNat < 64 →
         Asked s (.interlockRead p eq) → ∃ t, exec (.interlockRead p eq) s = .next t ∧
           ReadAnswered s t p (leBytes 4 (bit s.ir.latches eq.toNat).toNat ++ leBytes 4 (look 0 s.ir.disagree eq.toNat).toNat
             ++ wordBytes ((List.range 12).map (fun k => (eqRecord s eq.toNat).getD k 0)))) ∧
       (∀ c idx : W32, c.toNat < 32 →
         (let ch := s.chan c.toNat
          (idx.toNat < 256 → Asked s (.channelCounters p c 0 idx) → ∃ t, exec (.channelCounters p c 0 idx) s = .next t ∧
            (let x := ch.rxb idx.toNat
             ReadAnswered s t p (words4 [x.received, x.delivered, x.overwritten]))) ∧
          (idx.toNat < 64 → Asked s (.channelCounters p c 1 idx) → ∃ t, exec (.channelCounters p c 1 idx) s = .next t ∧
            (let x := ch.txb idx.toNat
             ReadAnswered s t p (words4 [x.built, x.sent, x.cancelled, x.failed, x.discarded, x.superseded]))) ∧
          (1 ≤ idx.toNat → idx.toNat < 128 →
            (Asked s (.channelCounters p c 2 idx) → ∃ t, exec (.channelCounters p c 2 idx) s = .next t ∧
              (let x := ch.st idx.toNat
               ReadAnswered s t p (words4 [x.missedTotal, x.dropOuts, x.discardedOut]))) ∧
            ∀ st : W32, st.toNat = 128 * c.toNat + idx.toNat →
              Asked s (.stationState p st) → ∃ t, exec (.stationState p st) s = .next t ∧
                ReadAnswered s t p (leBytes 4 (ch.st idx.toNat).state.code ++ leBytes 4 (ch.st idx.toNat).missed)))) ∧
       (∀ n : W32, n.toNat < 4096 →
         (Asked s (.vstationCounters p n) → ∃ t, exec (.vstationCounters p n) s = .next t ∧
           ReadAnswered s t p ((List.range 15).flatMap (fun i => leBytes 4 (look 0 (s.vst n.toNat).counters i)))) ∧
         ∀ st : W32, st.toNat = 0x1000 + n.toNat →
           Asked s (.stationState p st) → ∃ t, exec (.stationState p st) s = .next t ∧
             ReadAnswered s t p (leBytes 4 (s.vst n.toNat).state.code ++ leBytes 4 (s.vst n.toNat).missed)) ∧
       (Asked s (.contactSheet p) → ∃ t, exec (.contactSheet p) s = .next t ∧ ObjectAnswered s t p [] (contactSheet s)) ∧
       (∀ (slot count : W32), slot.toNat < 2 ^ 19 → 1 ≤ count.toNat → count.toNat ≤ 2 ^ 19 →
         Asked s (.recRead p slot count) → ∃ t, exec (.recRead p slot count) s = .next t ∧
           ObjectAnswered s t p (leBytes 4 ((slot.toNat + count.toNat) % 2 ^ 19) ++ leBytes 4 s.recd.head.toNat)
             ((List.range count.toNat).flatMap (fun k => words4 (recordWords (s.recd.slot (slot.toNat + k)))))) ∧
       (Asked s (.ptpRead p 0) → ∃ t, exec (.ptpRead p 0) s = .next t ∧ ReadAnswered s t p (fitBytes 20 s.net.defaultDs)) ∧
       (Asked s (.ptpRead p 1) → ∃ t, exec (.ptpRead p 1) s = .next t ∧ ReadAnswered s t p (fitBytes 4 s.net.timeDs)) ∧
       (Asked s (.ptpRead p 2) → ∃ t, exec (.ptpRead p 2) s = .next t ∧ ReadAnswered s t p (fitBytes 26 (livePort (s.port .np0)))) ∧
       (Asked s (.ptpRead p 3) → ∃ t, exec (.ptpRead p 3) s = .next t ∧ ReadAnswered s t p (fitBytes 26 (livePort (s.port .np1))))))
/-! ### Configuration and requests of field channels (R226 to R263) -/

/-- R226 to R231, R233, R236, R242, R247, R248, R251, R254, R256, R452: an accepted record of a channel takes its place between
two frames, with no buffer locked by the mapping unit, and waits until then (R228); it is logged. A channel record that changes the
bus stops the channel first; a station starts waiting; a buffer whose `VALID` is cleared gives up its waiting frame, and a receive
buffer is locked while the node it is given is RETURNING (R259). Mapping and window are checked against the configuration with the writes that wait. Which record words change the bus, and that any CHANNEL_WRITE
lets a stopped time master send again, is read from the rules (log entry 69); that a write is answered before it takes effect is the
model's choice (log entry 77). What is logged is the request as R479 lays it out. Recovery, the time master's restart and raw frames act
at once. Completes channelWrite, filterWrite, rxbufConfig, mappingWrite, txbufWrite, emergencyWrite, stationWrite, channelRecover,
tmRestart, rawFrameRead, rawFrameSend. -/
def Obligations.FieldRequestsTakeEffect : Prop :=
  (∀ (c first buf w num node : W32) (x t0 t1 : W64) (r : List W64) (es : List (W64 × W64)) (data : Bytes),
    Req.channelWrite c r = (0x0501, leBytes 4 c.toNat ++ (if r = [] then [] else [0, 0, 0, 0]) ++ wordBytes r) ∧
    Req.filterWrite c first es = (0x0502, leBytes 4 c.toNat ++ leBytes 4 first.toNat ++ leBytes 4 es.length ++ (if es = [] then [] else [0, 0, 0, 0]) ++
      wordBytes (es.flatMap (fun e => [e.1, e.2]))) ∧
    Req.rxbufConfig c buf w = (0x0503, leBytes 4 c.toNat ++ leBytes 4 buf.toNat ++ leBytes 4 w.toNat) ∧
    Req.txbufWrite c buf x t0 t1 data = (0x0505, leBytes 4 c.toNat ++ leBytes 4 buf.toNat ++ wordBytes [x, t0, t1] ++ data) ∧
    Req.emergencyWrite c num x t0 t1 data = (0x0506, leBytes 4 c.toNat ++ leBytes 4 num.toNat ++ wordBytes [x, t0, t1] ++ data) ∧
    Req.stationWrite c node x = (0x0507, leBytes 4 c.toNat ++ leBytes 4 node.toNat ++ leBytes 8 x.toNat)) ∧
  ∀ (s : State) (c : W32), MbxOpen s → OneFormat s → c.toNat < 32 → ChannelReady s c.toNat →
    (let n := c.toNat
     let ch := s.chan n
     let answered (t : State) (data : Bytes) : Prop :=
       Answered s t 0 .ok data ∧ { t with chans := s.chans, evc := s.evc, hr := s.hr } = s ∧ ∀ m, m ≠ n → t.chan m = s.chan m
     (∀ r : List W64, r.length = 8 → recordClean r = true → recordOk r = true →
       Asked s (.channelWrite 0 c r) → ∃ t, exec (.channelWrite 0 c r) s = .next t ∧ Accepted s t 0 (Req.channelWrite c r) ∧
         (ch.state = .stopped → NoWrites ch →
           ChannelAccepted n (Req.channelWrite c r) s t ∧ t.chan n = { ch with
             foreign := false, record := r, nextRecord := none, err := .active, tec := 0, rxErr := 0, refDue := false,
             state := if bit (r.getD 0 0) 63 then .integrating else .stopped }) ∧
         (ch.state = .isolated → ChannelAccepted n (Req.channelWrite c r) s t ∧ t.chan n = { ch with foreign := false, record := r }) ∧
         (ch.state = .stopping → NoWrites ch →
           ChannelAccepted n (Req.channelWrite c r) s t ∧ t.chan n = { ch with foreign := false, nextRecord := some r }) ∧
         (ch.state ≠ .stopped → ch.state ≠ .isolated → ch.state ≠ .stopping →
           (busWords r = busWords ch.record → WriteTaken n (Req.channelWrite c r) (.record r) s t ∧
             (ActsAtOnce ch → ChannelAccepted n (Req.channelWrite c r) s t ∧ t.chan n = { ch with foreign := false, record := r })) ∧
           (busWords r ≠ busWords ch.record → ChannelAccepted n (Req.channelWrite c r) s t ∧ (t.chan n).state = .stopping ∧ (t.chan n).nextRecord = some r ∧
             (t.chan n).record = ch.record ∧ (t.chan n).stopCause = if bit (r.getD 0 0) 63 then 2 else 1))) ∧
     (∀ (first : W32) (fs : List (W64 × W64)), first.toNat + fs.length ≤ 128 → fs.all filterClean = true → fs.all filterOk = true →
       Asked s (.filterWrite 0 c first fs) →
       ∃ t, exec (.filterWrite 0 c first fs) s = .next t ∧ WriteTaken n (Req.filterWrite c first fs) (.filters first.toNat fs) s t ∧
         (ActsAtOnce ch → ChannelAccepted n (Req.filterWrite c first fs) s t ∧ t.chan n = { ch with filters := putAll (0, 0) ch.filters first.toNat fs })) ∧
     (∀ (buf w : W32), buf.toNat < 256 → zeroBits w 29 7 = true →
       Asked s (.rxbufConfig 0 c buf w) →
       ∃ t, exec (.rxbufConfig 0 c buf w) s = .next t ∧ WriteTaken n (Req.rxbufConfig c buf w) (.rxbuf buf.toNat w) s t ∧
         (let held := bits w 6 0 != 0 && (ch.st (bits w 6 0)).state == .returning
          ActsAtOnce ch → (ch.rxb buf.toNat).supLock = false ∨ held = true →
           ChannelAccepted n (Req.rxbufConfig c buf w) s t ∧ { t.chan n with rx := ch.rx } = ch ∧
           (t.chan n).rxb buf.toNat = { ch.rxb buf.toNat with cfg := w, supLock := held } ∧ ∀ b, b ≠ buf.toNat → (t.chan n).rxb b = ch.rxb b)) ∧
     (∀ (first : W32) (es : List (W64 × W64)), first.toNat + es.length ≤ 4096 → es.all mappingClean = true →
       (∀ e ∈ es, bit e.1 63 = true → mappingOk (planned s n) n e = true) →
       tableOk ((applyWrite (planned s n) n (.map first.toNat es)).chan n) = true →
       Asked s (.mappingWrite 0 c first es) →
       ∃ t, exec (.mappingWrite 0 c first es) s = .next t ∧ WriteTaken n (Req.mappingWrite c first es) (.map first.toNat es) s t ∧
         (ActsAtOnce ch → ChannelAccepted n (Req.mappingWrite c first es) s t ∧ t.chan n = { ch with map := putAll (0, 0) ch.map first.toNat es })) ∧
     (∀ (buf : W32) (w t0 t1 : W64) (data : Bytes), buf.toNat < 64 → data.length = (frameOf 0 t0 t1 data).len → zeroBits w 19 0 = true →
       bits w 62 61 ≠ 3 → templateClean t0 t1 = true → lengthOk (frameOf 0 t0 t1 data) (txCapacity buf.toNat) = true → windowOk ((planned s n).chan n) w = true →
       Asked s (.txbufWrite 0 c buf w t0 t1 data) →
       ∃ t, exec (.txbufWrite 0 c buf w t0 t1 data) s = .next t ∧ WriteTaken n (Req.txbufWrite c buf w t0 t1 data) (.tx buf.toNat w (frameOf 0 t0 t1 data)) s t ∧
         (ActsAtOnce ch → ChannelAccepted n (Req.txbufWrite c buf w t0 t1 data) s t ∧ { t.chan n with tx := ch.tx } = ch ∧
         (let x := ch.txb buf.toNat
          let drop := bit w 63 = false ∧ x.waiting.isSome = true
          (t.chan n).txb buf.toNat = { x with
            ctrl := w, template := some (frameOf 0 t0 t1 data), waiting := if drop then none else x.waiting,
            discarded := if drop then x.discarded + 1 else x.discarded }) ∧
         ∀ b, b ≠ buf.toNat → (t.chan n).txb b = ch.txb b)) ∧
     (∀ (num : W32) (h1 h2 : W64) (data : Bytes), num.toNat < 8 → data.length = (frameOf 0 h1 h2 data).len → templateClean h1 h2 = true →
       lengthOk (frameOf 0 h1 h2 data) 64 = true →
       Asked s (.emergencyWrite 0 c num 0 h1 h2 data) →
       ∃ t, exec (.emergencyWrite 0 c num 0 h1 h2 data) s = .next t ∧ WriteTaken n (Req.emergencyWrite c num 0 h1 h2 data) (.emerg num.toNat (frameOf 0 h1 h2 data)) s t ∧
         (ActsAtOnce ch → ChannelAccepted n (Req.emergencyWrite c num 0 h1 h2 data) s t ∧
           t.chan n = { ch with emerg := put none ch.emerg num.toNat (some (frameOf 0 h1 h2 data)) })) ∧
     (∀ (node : W32) (w : W64), 1 ≤ node.toNat → node.toNat ≤ 127 → zeroBits w 62 56 = true →
       (bit w 63 = true → 1 ≤ bits w 55 48 ∧ 5 ≤ bits w 47 24 ∧ bits w 23 0 < bits w 47 24) →
       Asked s (.stationWrite 0 c node w) →
       ∃ t, exec (.stationWrite 0 c node w) s = .next t ∧ WriteTaken n (Req.stationWrite c node w) (.station node.toNat w) s t ∧
         (ActsAtOnce ch → (∀ b, (ch.rxb b).supLock = false) →
         ChannelAccepted n (Req.stationWrite c node w) s t ∧ { t.chan n with stations := ch.stations } = ch ∧
         (t.chan n).st node.toNat = { ch.st node.toNat with
           word := w, state := if bit w 63 then .waiting else .unconfigured, heard := false, missed := 0, toSend := [] } ∧
         ∀ k, k ≠ node.toNat → (t.chan n).st k = ch.st k)) ∧
     (ch.err = .busOff →
       Asked s (.channelRecover 0 c) →
       ∃ t, exec (.channelRecover 0 c) s = .next t ∧ answered t [] ∧ t.chan n = { ch with err := .recovering, recoverBy := 1 }) ∧
     (Asked s (.tmRestart 0 c) → ∃ t, exec (.tmRestart 0 c) s = .next t ∧ answered t [] ∧ t.chan n = { ch with foreign := false }) ∧
     (∀ (buf : W32) (f : Frame), buf.toNat < 256 → bit (ch.rxb buf.toNat).cfg 30 = true → (ch.rxb buf.toNat).buf = some f →
       (ch.rxb buf.toNat).supLock = false →
       Asked s (.rawFrameRead 0 c buf) →
       ∃ t, exec (.rawFrameRead 0 c buf) s = .next t ∧ answered t (frameBytes f) ∧ { t.chan n with rx := ch.rx } = ch ∧
         (let x := ch.rxb buf.toNat
          (t.chan n).rxb buf.toNat = { x with delivered := x.delivered + 1, buf := x.shadow, shadow := none, mapLock := false }) ∧
         ∀ b, b ≠ buf.toNat → (t.chan n).rxb b = ch.rxb b) ∧
     (∀ (buf len : W32) (data : Bytes) (f : Frame), buf.toNat < 64 → data.length = len.toNat → bit (ch.txb buf.toNat).ctrl 63 = true →
       bits (ch.txb buf.toNat).ctrl 62 61 = 2 → (ch.txb buf.toNat).template = some f →
       lengthOk { f with len := len.toNat } (txCapacity buf.toNat) = true → (ch.txb buf.toNat).waiting = none →
       (ch.txb buf.toNat).committed = none → allDown s n buf.toNat = false →
       Asked s (.rawFrameSend 0 c buf len data) → ∃ t, exec (.rawFrameSend 0 c buf len data) s = .next t ∧ answered t [] ∧
         (let x := ch.txb buf.toNat
          let raws := (txRaws s n buf.toNat).1
          (t.chan n).txb buf.toNat = { x with
            lastRaw := some raws, builds := x.builds + 1, built := x.built + 1, waitingNo := x.builds + 1,
            waiting := some { f with
              len := len.toNat,
              data := ((entriesOf ch true buf.toNat).zip raws).foldl (fun d p => writeField d (entryBits p.1.1) p.2) (fitBytes len.toNat data) } }) ∧
         ∀ b, b ≠ buf.toNat → (t.chan n).txb b = ch.txb b))
/-! ### Configuration and requests of the network (R267 to R337) -/

/-- R267, R268, R282, R285, R300, R312, R314, R327, R332, R333, R452: an accepted record of a port, the filter, a queue, Vellek or
network time takes its place, and is logged. A port record that renegotiates takes a link that is up down, and starts the
negotiation at the record's rates. That a queue record keeps the rings' indexes, and that their checks look at enabled directions
alone, is read from the rules (log entry 56), as is what clearing PPSEN does to PPS_OUT (log entry 82). What is logged is the request as
R479 lays it out. Completes queueWrite, portWrite, pairWrite, nfilterWrite, vellekWrite, vstationWrite, vblockWrite,
timeWrite, ptpWrite, latencyWrite, macsecConfig. -/
def Obligations.NetworkConfigurationTakesEffect : Prop :=
  (∀ (n q options window slot prio len lmode ingress egress : W32) (r : List W64) (st ckn : Bytes) (r0 r1 : W64), st.length = 64 →
    Req.queueWrite q r = (0x0704, leBytes 4 q.toNat ++ (if r = [] then [] else [0, 0, 0, 0]) ++ wordBytes r) ∧
    Req.portWrite n r = (0x0701, leBytes 4 n.toNat ++ (if r = [] then [] else [0, 0, 0, 0]) ++ wordBytes r) ∧
    Req.pairWrite r r = (0x0702, wordBytes (r ++ r)) ∧ Req.timeWrite r0 r1 = (0x070B, wordBytes [r0, r1]) ∧
    Req.vstationWrite q st = (0x050E, leBytes 4 q.toNat ++ [0, 0, 0, 0] ++ st) ∧ Req.vellekWrite st = (0x050D, st) ∧
    Req.latencyWrite n lmode ingress egress = (0x070E, [n, lmode, ingress, egress].flatMap (fun v => leBytes 4 v.toNat)) ∧
    Req.macsecConfig n options window slot prio len ckn =
      (0x070F, [n, options, window, slot, prio, len].flatMap (fun v => leBytes 4 v.toNat) ++ ckn)) ∧
  ∀ (s : State) (p : BitVec 7), MbxOpen s → s.img.update = none → tableWf ({} : NQueue) s.net.queues = true →
    tableWf ({} : VStation) s.net.vstations = true →
    (∀ (q : W32) (r : List W64), q.toNat = p.toNat ∨ (p = 0 ∧ q.toNat < 128) → r.length = 8 → queueClean r = true →
      (q.toNat = p.toNat → ownerRanges s r = true) → (q.toNat ≠ p.toNat → ownerFields r = ownerFields (s.nq q.toNat).record) →
      (p = 0 → zeroRanges s q.toNat r = true) → (p ≠ 0 → zeroFields r = zeroFields (s.nq q.toNat).record) → ringsInside s r = true →
      poolFits (modNq s q.toNat (fun x => { x with record := r, stopped := x.stopped && !bit (r.getD 0 0) 62 })) = true →
      Asked s (.queueWrite p q r) →
      ∃ t, exec (.queueWrite p q r) s = .next t ∧ NetAccepted p (Req.queueWrite q r) s t ∧ { t.net with queues := s.net.queues } = s.net ∧
        t.nq q.toNat = { s.nq q.toNat with record := r, stopped := (s.nq q.toNat).stopped && !bit (r.getD 0 0) 62 } ∧ ∀ k, k ≠ q.toNat → t.nq k = s.nq k) ∧
    (p = 0 →
      (∀ (n : W32) (r : List W64), n.toNat < 2 → r.length = 4 → portClean r = true → portRanges r = true →
        portOk r (s.port (otherPort (portOf n))).record = true →
        (let q := portOf n
         let x := s.port q
         Asked s (.portWrite p n r) →
         ∃ t, exec (.portWrite p n r) s = .next t ∧ Accepted s t p (Req.portWrite n r) ∧ (t.port q).record = r ∧
           (t.port (otherPort q)).record = (s.port (otherPort q)).record ∧
           (x.isolated = false → renegotiates x.record r = true → (t.port q).link = false) ∧
           (x.link = false → x.isolated = false → x.step = .full → NetAccepted p (Req.portWrite n r) s t ∧
             (let y : PortS := { x with record := r, hold := 0, lpi := x.lpi && bit (r.getD 0 0) 54 }
              t.port q = if renegotiates x.record r then { y with rate := y.lmode, advertised := y.adv, negotiating := true } else y) ∧
             t.port (otherPort q) = s.port (otherPort q)))) ∧
      (∀ (r0 r1 : List W64), r0.length = 4 → r1.length = 4 → portClean r0 = true → portClean r1 = true → portRanges r0 = true →
        portRanges r1 = true → portOk r0 r1 = true → portOk r1 r0 = true →
        ¬(bits (r0.getD 0 0) 52 51 = 2 ∧ timeSource s = 1) →
        Asked s (.pairWrite p r0 r1) →
        ∃ t, exec (.pairWrite p r0 r1) s = .next t ∧ Accepted s t p (Req.pairWrite r0 r1) ∧ (t.port .np0).record = r0 ∧ (t.port .np1).record = r1) ∧
      (∀ (first : W32) (es : List (W64 × W64)), first.toNat + es.length ≤ 512 → es.all nfilterClean = true →
        (∀ e ∈ es, bits e.1 55 44 ≤ bits e.1 43 32) →
        Asked s (.nfilterWrite p first es) →
        ∃ t, exec (.nfilterWrite p first es) s = .next t ∧ NetAccepted p (Req.nfilterWrite first es) s t ∧
          t.net = { s.net with filters := putAll (0, 0) s.net.filters first.toNat es }) ∧
      (∀ r : Bytes, r.length = 64 → zeroBits (recWord r 0) 46 32 = true → zeroBytes ((r.drop 8).take 4) = true → zeroBytes (r.drop 32) = true →
        1024 ≤ bits (recWord r 0) 31 16 →
        Asked s (.vellekWrite p r) →
        ∃ t, exec (.vellekWrite p r) s = .next t ∧ NetAccepted p (Req.vellekWrite r) s t ∧ t.net = { s.net with vellek := r }) ∧
      (∀ (st : W32) (r : Bytes), r.length = 64 → st.toNat < 4096 →
        (let x : VStation := { record := r }
         let y := s.vst st.toNat
         vstClean x = true → vstRanges s x = true → vstOk s st.toNat x = true → y.holding = false →
         waitingFrames s st.toNat = [] →
         Asked s (.vstationWrite p st r) →
         ∃ t, exec (.vstationWrite p st r) s = .next t ∧ NetAccepted p (Req.vstationWrite st r) s t ∧ { t.net with vstations := s.net.vstations } = s.net ∧
           t.vst st.toNat = { y with
             record := r, heard := false, missed := 0, held := [], holding := false, heldOver := 0,
             state := if x.valid then .waiting else .unconfigured } ∧
           ∀ k, k ≠ st.toNat → t.vst k = s.vst k)) ∧
      (∀ (first : W32) (es : List W64), first.toNat + es.length ≤ 8192 →
        (∀ w ∈ es, zeroBits w 61 52 = true ∧ zeroBits w 31 16 = true ∧ 1 ≤ bits w 15 0 ∧ bits w 15 0 ≤ 2048 ∧ entryOk s w = true) →
        (let u := s.setNet { s.net with vblocks := putAll 0 s.net.vblocks first.toNat es }
         disjointBlocks (allBlocks u) = true → (∀ e ∈ s.net.vstations, e.2.valid = true → vstOk u e.1 e.2 = true) →
         Asked s (.vblockWrite p first es) →
         ∃ t, exec (.vblockWrite p first es) s = .next t ∧ NetAccepted p (Req.vblockWrite first es) s t ∧ t.net = u.net)) ∧
      (∀ (r0 r1 : W64), zeroBits r0 51 32 = true → zeroBits r1 31 0 = true → bits r0 63 62 ≠ 3 → 1 ≤ bits r0 60 52 → bits r0 60 52 ≤ 500 →
        -500000000 ≤ (BitVec.ofNat 32 (bits r0 31 0)).toInt → (BitVec.ofNat 32 (bits r0 31 0)).toInt ≤ 499999999 → bits r1 63 32 ≤ 1000000 →
        (bits r0 63 62 = 1 → pairMode s ≠ 2) →
        Asked s (.timeWrite p r0 r1) →
        ∃ t, exec (.timeWrite p r0 r1) s = .next t ∧ Accepted s t p (Req.timeWrite r0 r1) ∧ t.time.rec0 = r0 ∧ t.time.rec1 = r1 ∧
          t.time.dtime = s.time.dtime ∧ t.time.rate = s.time.rate ∧ t.net = s.net ∧
          (bits r0 63 62 = timeSource s →
            t.time = { s.time with rec0 := r0, rec1 := r1, ppsOut := s.time.ppsOut && bit r0 61 }) ∧
          (bits r0 63 62 ≠ timeSource s → t.time.tstate = (if bits r0 63 62 = 0 then 0 else 1) ∧ t.time.lockRun = 0 ∧ t.time.srcPort = s.time.srcPort)) ∧
      (∀ data : Bytes,
        (data.length = 20 → (data.getD 18 0).toNat ≤ 127 →
          Asked s (.ptpWrite p 0 data) →
          ∃ t, exec (.ptpWrite p 0 data) s = .next t ∧ NetAccepted p (Req.ptpWrite 0 data) s t ∧ t.net = { s.net with defaultDs := data }) ∧
        (data.length = 4 → Asked s (.ptpWrite p 1 data) →
          ∃ t, exec (.ptpWrite p 1 data) s = .next t ∧ NetAccepted p (Req.ptpWrite 1 data) s t ∧ t.net = { s.net with timeDs := data }) ∧
        (data.length = 26 → ptpOk 2 data = true →
          (Asked s (.ptpWrite p 2 data) → ∃ t, exec (.ptpWrite p 2 data) s = .next t ∧ NetAccepted p (Req.ptpWrite 2 data) s t ∧
            t.net = { s.net with port0 := { s.net.port0 with portDs := data } }) ∧
          (Asked s (.ptpWrite p 3 data) → ∃ t, exec (.ptpWrite p 3 data) s = .next t ∧ NetAccepted p (Req.ptpWrite 3 data) s t ∧
            t.net = { s.net with port1 := { s.net.port1 with portDs := data } }))) ∧
      (∀ (n lmode ingress egress : W32), n.toNat < 2 → lmode.toNat < 4 →
        (let q := portOf n
         Asked s (.latencyWrite p n lmode ingress egress) →
         ∃ t, exec (.latencyWrite p n lmode ingress egress) s = .next t ∧ NetAccepted p (Req.latencyWrite n lmode ingress egress) s t ∧
           t.port q = { s.port q with latency := put (0, 0) (s.port q).latency lmode.toNat (ingress, egress) } ∧
           t.port (otherPort q) = s.port (otherPort q))) ∧
      (∀ (n options window slot prio len : W32) (ckn : Bytes), n.toNat < 2 → slot.toNat < 256 → prio.toNat < 256 → 1 ≤ len.toNat →
        len.toNat ≤ 32 → ckn.length = 32 → zeroBits options 31 14 = true → zeroBits options 11 10 = true → zeroBits options 7 6 = true →
        bits options 9 8 ≠ 3 → bits options 13 12 ≠ 3 →
        (bit options 0 = true → s.sec.secretsOn = true → usable416 (s.kslot slot.toNat) 0 0 = true) →
        (let q := portOf n
         Asked s (.macsecConfig p n options window slot prio len ckn) →
         ∃ t, exec (.macsecConfig p n options window slot prio len ckn) s = .next t ∧ NetAccepted p (Req.macsecConfig n options window slot prio len ckn) s t ∧
           (t.port q).macsec = options ∧ (t.port q).macWindow = window ∧ (t.port q).cakSlot = slot.setWidth 8 ∧
           (t.port q).macPrio = prio.setWidth 8 ∧ (t.port q).ckn = ckn.take len.toNat ∧ (t.port q).record = (s.port q).record)))

/-- R269, R284, R285, R290, R291: a partition reads, returns and sends the frames of its own queue in the packet buffer; MDIO reads
and writes reach the PHY's registers. Completes frameRead, frameReturn, frameSend, phyRead, phyWrite. -/
def Obligations.FrameAndPhyRequestsAct : Prop :=
  ∀ (s : State) (p : BitVec 7) (q : W32), MbxOpen s → NetReady s → q.toNat = p.toNat → NoFlowControl s →
    (let n := p.toNat
     let x := s.nq n
     (∀ f rest, inBuffer s n = true → x.frames = f :: rest →
       (Asked s (.frameRead p q) → ∃ t, exec (.frameRead p q) s = .next t ∧
         ObjectAnswered (modNq s n (fun y => { y with frames := { f with read := true } :: rest })) t p (leBytes 8 f.word.toNat) f.bytes) ∧
       (f.read = true →
         Asked s (.frameReturn p q) →
         ∃ t, exec (.frameReturn p q) s = .next t ∧ Answered s t p .ok [] ∧ { t with net := s.net, evc := s.evc, hr := s.hr } = s ∧
           { t.net with queues := s.net.queues } = s.net ∧ t.nq n = { x with frames := rest } ∧ ∀ k, k ≠ n → t.nq k = s.nq k)) ∧
     (∀ (pcp : W32) (data : Bytes), pcp.toNat < 8 → 1 ≤ data.length → data.length ≤ 16384 → inBuffer s n = true → x.txen = true →
       queuePorts s n ≠ [] → txFits s n data pcp.toNat = true →
       Asked s (.frameSend p q pcp data) →
       ∃ t, exec (.frameSend p q pcp data) s = .next t ∧ Answered s t p .ok [] ∧ { t with net := s.net, evc := s.evc, hr := s.hr } = s ∧
         look 0 (t.nq n).counters 5 = countedNq x 5 1 ∧ look 0 (t.nq n).counters 7 = countedNq x 7 data.length ∧
         (tagFrame x data pcp.toNat = none → look 0 (t.nq n).counters 8 = countedNq x 8 1 ∧ (∀ k, (t.port k).copies = (s.port k).copies)) ∧
         (∀ bs c, tagFrame x data pcp.toNat = some (bs, c) →
           (let f : TxFrame :=
             { src := n, cls := BitVec.ofNat 3 c, bytes := bs, id := s.net.nextId, seqNo := if redundant s n then some s.net.seqNo else none }
            (∃ k ∈ queuePorts s n, (s.port k).maxlen < wireBytes s k f) →
              look 0 (t.nq n).counters 9 = countedNq x 9 1 ∧ (∀ k, (t.port k).copies = (s.port k).copies)) ∧
           (let f : TxFrame :=
             { src := n, cls := BitVec.ofNat 3 c, bytes := bs, id := s.net.nextId, seqNo := if redundant s n then some s.net.seqNo else none }
            (∀ k ∈ queuePorts s n, wireBytes s k f ≤ (s.port k).maxlen ∧ canSend (s.port k) f = true) →
              (t.nq n).pendingTx = x.pendingTx + 1 ∧ (t.nq n).txCells = x.txCells + cellsOf bs.length ∧
              ∀ k, (t.port k).copies = if (queuePorts s n).contains k then (s.port k).copies ++ [f] else (s.port k).copies))) ∧
     (p = 0 → ∀ (port mmd reg : W32), port.toNat < 2 → mmd.toNat < 32 → reg.toNat < 65536 →
       (∀ v : BitVec 16,
         Asked s (.phyRead p port mmd reg v) → ∃ t, exec (.phyRead p port mmd reg v) s = .next t ∧ Answered s t p .ok (leBytes 4 v.toNat) ∧
           { t with net := { t.net with phy := s.net.phy }, evc := s.evc, hr := s.hr } = s) ∧
       (∀ v : W32, v.toNat < 65536 →
         (managedPhy mmd reg = true →
           Asked s (.phyWrite p port mmd reg v) →
           ∃ t, exec (.phyWrite p port mmd reg v) s = .next t ∧ Answered s t p .refused (leBytes 4 0) ∧ { t with evc := s.evc, hr := s.hr } = s) ∧
         (managedPhy mmd reg = false →
           Asked s (.phyWrite p port mmd reg v) → ∃ t, exec (.phyWrite p port mmd reg v) s = .next t ∧ Answered s t p .ok [] ∧
             t.net = { s.net with phy := put 0 s.net.phy (phyKey port.toNat mmd.toNat reg.toNat) (v.setWidth 16) } ∧
             { t with net := s.net, evc := s.evc, hr := s.hr } = s))))
/-! ### Requests that the sequencer or the firmware carries out (R53 to R64, R75 to R82, R142 to R168, R179, R182 to R187, R474) -/

/-- R142, R154, R155, R158, R179, R187, R77 rules 4 and 6: a request over programs, forces, loops, roles or a trip latch that
passes its checks presents its group to the sequencer, and its page stays busy until the group is applied. An acknowledge is
accepted or refused by IR when its group reaches it (R186): one whose condition does not hold changes nothing there, one that
holds clears the latch; a record stands in both evaluators then, unless its equation is latched. Completes roleSwap, change,
changeCancel, forceSet, forceRemove, loopSetpoint, loopBank, interlockAck. -/
def Obligations.RequestsPresentTheirGroup : Prop :=
  ∀ (s : State) (p : BitVec 7), MbxOpen s →
    (let r := s.image
     (p = 0 → s.duplex = true → Asked s (.roleSwap p) → ∃ t, exec (.roleSwap p) s = .next t ∧ GroupPresented s t p [.roleSwap]) ∧
     ((look none r.waiting p.toNat).isSome = true →
       (∀ tc : W64, look none r.changes p.toNat = none → Asked s (.change p tc) →
         ∃ t, exec (.change p tc) s = .next t ∧ GroupPresented s t p [.change p tc (look 0 s.pair.budgets p.toNat)]) ∧
       (Asked s (.changeCancel p) → ∃ t, exec (.changeCancel p) s = .next t ∧ GroupPresented s t p [.changeCancel p])) ∧
     (∀ w0 w1 w2 : W64,
       (let f := forceOf p w0 w1 w2 0
        bit w0 63 = true → zeroBits w0 58 52 = true → zeroBits w1 63 32 = true →
        (if f.vkey then f.ty < 6 ∧ f.point = 0 ∧ f.voff % forceWidth f.ty = 0 ∧ Passes (varForceChecks r p f)
         else f.ty = 0 ∧ f.iid = 0 ∧ f.voff = 0 ∧ zeroBits w2 63 32 = true ∧ Passes (pointForceChecks r p f)) →
        holdsForce r f = true ∨ ((r.forces.filter (fun g => g.part == p)).length < 1024 ∧ r.forces.length < 16384) →
        Asked s (.forceSet p w0 w1 w2) → ∃ t, exec (.forceSet p w0 w1 w2) s = .next t ∧ GroupPresented s t p [.forceSet p w0 w1 w2])) ∧
     (∀ w0 w1 : W64, zeroBits w0 58 52 = true → zeroBits w1 63 32 = true → holdsForce r (forceOf p w0 w1 0 0) = true →
       Asked s (.forceRemove p w0 w1) → ∃ t, exec (.forceRemove p w0 w1) s = .next t ∧ GroupPresented s t p [.forceRemove p w0 w1]) ∧
     (∀ slot v : W32, slot.toNat < 8192 → (loopOf r slot.toNat).owner = p → (loopOf r slot.toNat).valid = true →
       (Asked s (.loopSetpoint p slot v) →
         ∃ t, exec (.loopSetpoint p slot v) s = .next t ∧ GroupPresented s t p [.setpoint (slot.setWidth 13) v]) ∧
       (v.toNat < 2 → Asked s (.loopBank p slot v) →
         ∃ t, exec (.loopBank p slot v) s = .next t ∧ GroupPresented s t p [.bank (slot.setWidth 13) (v == 1)])) ∧
     (∀ eq : W32, p = 0 → eq.toNat < 64 →
       Asked s (.interlockAck p eq) →
       ∃ t, exec (.interlockAck p eq) s = .next t ∧ GroupPresented s t p [.eqAck (BitVec.ofNat 6 eq.toNat) p]) ∧
     (∀ (er : Er) (tick : W64) (n : Nat) (page : Option (BitVec 7 × BitVec 16)), n < 64 →
       (let acked := runEff er tick true s (.eqAck n p page)
        (ackOk s n = false → acked.ir = s.ir) ∧
        (ackOk s n = true → bit s.ir.latches n = true →
          (∀ two rec_, eqCopy s n two = some rec_ → ∀ k, k < 8 → 0x30 ≤ bits (eqWord rec_ 8) (8 * k + 6) (8 * k)) →
          bit acked.ir.latches n = false ∧ Raised acked 8 ∧ ∀ k, acked.region k = s.region k) ∧
        ∀ rec_ : List W64,
          (let set := runEff er tick true s (.eqWrite n rec_ page)
           (eqLocked s n = true → set.ir = s.ir) ∧
           (eqLocked s n = false → eqCopy set n false = some rec_ ∧ eqCopy set n true = some rec_ ∧
             (∀ k, k ≠ n → eqCopy set k false = eqCopy s k false ∧ eqCopy set k true = eqCopy s k true) ∧
             ∀ k, set.region k = s.region k)))))

/-- R53, R58, R61, R62, R64, R75, R79, R81, R163, R167, R182, R186, R452: a configuration request that passes its checks is
logged, with its code and its bytes as R479 lays them out, and presents its group; a record for a latched equation is refused. While an update runs across configuration formats, a
request that one of them cannot carry is refused (R453). Completes grantWrite, limitWrite, attrWrite, pointOwner, loopAssign,
lioConfig, interlockWrite, loopWrite, loopRun, loopRemove. -/
def Obligations.ConfigurationRequestsPresentTheirGroup : Prop :=
  (∀ (a b c : W32) (w : W64) (r : List W64),
    (let pad : Bytes := if r = [] then [] else [0, 0, 0, 0]
     Req.grantWrite a w = (0x0201, leBytes 4 a.toNat ++ [0, 0, 0, 0] ++ leBytes 8 w.toNat) ∧
     Req.limitWrite a w = (0x0405, leBytes 4 a.toNat ++ [0, 0, 0, 0] ++ leBytes 8 w.toNat) ∧
     Req.attrWrite a b w = (0x0403, leBytes 4 a.toNat ++ leBytes 4 b.toNat ++ leBytes 8 w.toNat) ∧
     Req.pointOwner a b = (0x0206, leBytes 4 a.toNat ++ leBytes 4 b.toNat) ∧
     Req.loopAssign a b c = (0x0205, leBytes 4 a.toNat ++ leBytes 4 b.toNat ++ leBytes 4 c.toNat) ∧
     Req.lioConfig a w = (0x040C, leBytes 4 a.toNat ++ [0, 0, 0, 0] ++ leBytes 8 w.toNat) ∧
     Req.interlockWrite a r = (0x0409, leBytes 4 a.toNat ++ pad ++ wordBytes r) ∧
     Req.loopWrite a r = (0x0601, leBytes 4 a.toNat ++ pad ++ wordBytes r) ∧
     Req.loopRun a b = (0x0603, leBytes 4 a.toNat ++ leBytes 4 b.toNat) ∧ Req.loopRemove a = (0x0606, leBytes 4 a.toNat))) ∧
  (∀ (s : State) (entry : W32) (w : W64), MbxOpen s → entry.toNat < 8192 → zeroBits w 55 52 = true → zeroBits w 31 20 = true →
    bits w 19 0 ≤ bits w 51 32 → carriable s (Req.grantWrite entry w).1 (Req.grantWrite entry w).2 = false →
    Asked s (.grantWrite 0 entry w) →
    ∃ t, exec (.grantWrite 0 entry w) s = .next t ∧ Answered s t 0 .refused (leBytes 4 0) ∧ { t with hr := s.hr, evc := s.evc } = s) ∧
  ∀ (s : State) (p : BitVec 7), MbxOpen s → OneFormat s →
    (let r := s.image
     (p = 0 →
       (∀ (entry : W32) (w : W64), entry.toNat < 8192 → zeroBits w 55 52 = true → zeroBits w 31 20 = true → bits w 19 0 ≤ bits w 51 32 →
         Asked s (.grantWrite p entry w) →
         ∃ t, exec (.grantWrite p entry w) s = .next t ∧ ConfigPresented s t p (Req.grantWrite entry w) [.grant (entry.setWidth 13) w]) ∧
       (∀ (i : W32) (w : W64), 1 ≤ i.toNat → i.toNat < 65536 → limitKeeps r i.toNat w = true →
         Asked s (.limitWrite p i w) →
         ∃ t, exec (.limitWrite p i w) s = .next t ∧ ConfigPresented s t p (Req.limitWrite i w) [.limit (i.setWidth 16) w]) ∧
       (∀ (i ty : W32) (w : W64), Passes (attrChecks s i.toNat ty.toNat w) →
         Asked s (.attrWrite p i ty w) →
         ∃ t, exec (.attrWrite p i ty w) s = .next t ∧ ConfigPresented s t p (Req.attrWrite i ty w) [.attr (i.setWidth 20) (ty.setWidth 8) w]) ∧
       (∀ i owner : W32, i.toNat < 2 ^ 20 → owner.toNat < 128 → (i.toNat < 0x30 ∨ 0x200 ≤ i.toNat) → typeOf r i.toNat ≠ tyCount2 →
         (∀ k ∈ ownerGroup r i.toNat, referencedBy r (ownerOf r i.toNat) k = false ∧ referencedBy r owner.toNat k = false) →
         Asked s (.pointOwner p i owner) →
         ∃ t, exec (.pointOwner p i owner) s = .next t ∧ ConfigPresented s t p (Req.pointOwner i owner) [.owner (i.setWidth 20) (owner.setWidth 7)]) ∧
       (∀ first count part : W32, first.toNat + count.toNat ≤ 8192 → part.toNat < 128 → admitted r.loops = true →
         (∀ e ∈ r.loops, first.toNat ≤ e.1 → e.1 < first.toNat + count.toNat → e.2.valid = true → e.2.owner.toNat = part.toNat) →
         Asked s (.loopAssign p first count part) → ∃ t, exec (.loopAssign p first count part) s = .next t ∧
           ConfigPresented s t p (Req.loopAssign first count part) [.loopAssign first.toNat count.toNat (part.setWidth 7)]) ∧
       (∀ (pin : W32) (w : W64), pin.toNat < 48 → zeroBits w 39 12 = true → zeroBits w 8 3 = true → bits w 2 0 ≤ 4 →
         (bits w 2 0 = 3 → 125 ≤ bits w 63 40) →
         (typeOf r pin.toNat = (pinPoint w).1 ∧ direction (modeOf r pin.toNat) = direction (pinPoint w).2) ∨ referenced r pin.toNat = false →
         Asked s (.lioConfig p pin w) →
         ∃ t, exec (.lioConfig p pin w) s = .next t ∧ ConfigPresented s t p (Req.lioConfig pin w) [.lio pin.toNat w]) ∧
       (∀ (eq : W32) (rec_ : List W64), rec_.length = 12 → eq.toNat < 64 → eqClean rec_ = true →
         (eqLocked s eq.toNat = false →
           Asked s (.interlockWrite p eq rec_) →
           ∃ t, exec (.interlockWrite p eq rec_) s = .next t ∧ ConfigPresented s t p (Req.interlockWrite eq rec_) [.eqWrite (BitVec.ofNat 6 eq.toNat) rec_]) ∧
         (eqLocked s eq.toNat = true →
           Asked s (.interlockWrite p eq rec_) →
           ∃ t, exec (.interlockWrite p eq rec_) s = .next t ∧ Answered s t p .conflict (leBytes 4 0) ∧ { t with hr := s.hr, evc := s.evc } = s))) ∧
     (∀ slot : W32, slot.toNat < 8192 → (loopOf r slot.toNat).owner = p →
       (∀ rec_ : List W64, rec_.length = 24 → loopRecordOk r p slot.toNat rec_ = true →
         admitted (put {} r.loops slot.toNat (writeLoop (loopOf r slot.toNat) rec_)) = true →
         Asked s (.loopWrite p slot rec_) →
         ∃ t, exec (.loopWrite p slot rec_) s = .next t ∧ ConfigPresented s t p (Req.loopWrite slot rec_) [.loopWrite (slot.setWidth 13) p rec_]) ∧
       ((loopOf r slot.toNat).valid = true →
         (∀ run : W32, run.toNat < 2 → admitted r.loops = true →
           Asked s (.loopRun p slot run) →
           ∃ t, exec (.loopRun p slot run) s = .next t ∧ ConfigPresented s t p (Req.loopRun slot run) [.loopRun (slot.setWidth 13) (run == 1)]) ∧
         ((∀ g, programOf r p.toNat = some g ∨ look none r.waiting p.toNat = some g → ∀ k ∈ g.tasks, ∀ x ∈ k.loops, x.toNat ≠ slot.toNat) →
           Asked s (.loopRemove p slot) →
           ∃ t, exec (.loopRemove p slot) s = .next t ∧ ConfigPresented s t p (Req.loopRemove slot) [.loopRemove (slot.setWidth 13)]))))

/-- R143, R187, R192, R213, R217, R376, R399, R474: partition 0's requests that act at once: a partition's budget and DMA window, a
source's route, the health counters, the recorder's freeze, the rejoin of a region and its removal from service. Completes
partitionSet, dmaWindow, route, healthClear, recFreeze, recThaw, autoRejoin, rejoin, regionOut. -/
def Obligations.DeviceRequestsActAtOnce : Prop :=
  (∀ (a b : W32) (x y : W64),
    Req.partitionSet a b = (0x0203, leBytes 4 a.toNat ++ leBytes 4 b.toNat) ∧ Req.route a b = (0x0108, leBytes 4 a.toNat ++ leBytes 4 b.toNat) ∧
    Req.dmaWindow a x y = (0x0204, leBytes 4 a.toNat ++ [0, 0, 0, 0] ++ leBytes 8 x.toNat ++ leBytes 8 y.toNat)) ∧
  ∀ s : State, MbxOpen s → OneFormat s →
    (∀ part v : W32, part.toNat < 128 →
      Asked s (.partitionSet 0 part v) → ∃ t, exec (.partitionSet 0 part v) s = .next t ∧ Accepted s t 0 (Req.partitionSet part v) ∧
        t.pair = { s.pair with budgets := put 0 s.pair.budgets part.toNat v } ∧
        { t with pair := s.pair, img := s.img, evc := s.evc, hr := s.hr } = s) ∧
    (∀ (part : W32) (base len : W64), part.toNat < 128 → base.toNat % 4096 = 0 → len.toNat % 4096 = 0 → base.toNat + len.toNat ≤ 2 ^ 64 →
      Asked s (.dmaWindow 0 part base len) →
      ∃ t, exec (.dmaWindow 0 part base len) s = .next t ∧ Accepted s t 0 (Req.dmaWindow part base len) ∧
        t.hr.windows = put (0, 0) s.hr.windows part.toNat (base, len) ∧ { t with img := s.img, evc := s.evc, hr := s.hr } = s) ∧
    (∀ source v : W32, source.toNat < 672 → source.toNat < 32 ∨ 287 < source.toNat → v.toNat < 2 →
      Asked s (.route 0 source v) → ∃ t, exec (.route 0 source v) s = .next t ∧ Accepted s t 0 (Req.route source v) ∧
        t.evc.toHost = put false s.evc.toHost source.toNat (v == 1) ∧ { t with img := s.img, evc := s.evc, hr := s.hr } = s) ∧
    (tableWf ({} : Block) s.health.blocks = true →
      Asked s (.healthClear 0) → ∃ t, exec (.healthClear 0) s = .next t ∧ Answered s t 0 .ok [] ∧ t.health.mram = s.health.mram ∧
        { t with health := s.health, evc := s.evc, hr := s.hr } = s ∧
        ∀ b, t.block b = { s.block b with corr := 0, trans := 0 }) ∧
    (s.recd.frozen = false → s.recd.draining = false →
      Asked s (.recFreeze 0) →
      ∃ t, exec (.recFreeze 0) s = .next t ∧ Answered s t 0 .ok [] ∧ t.recd.frozen = true ∧ t.recd.freeze = true ∧ Raised t 610 ∧
        t.recd.freezeStart = s.time.dtime ∧ t.recd.inq = [] ∧ { t with recd := s.recd, evc := s.evc, hr := s.hr } = s) ∧
    (s.recd.frozen = true →
      Asked s (.recThaw 0) → ∃ t, exec (.recThaw 0) s = .next t ∧ Answered s t 0 .ok [] ∧ Raised t 611 ∧
        t.recd = { s.recd with freeze := false, frozen := false, draining := true, drainCause := 2 } ∧
        { t with recd := s.recd, evc := s.evc, hr := s.hr } = s) ∧
    (∀ v : W32, v.toNat < 2 →
      Asked s (.autoRejoin 0 v) →
      ∃ t, exec (.autoRejoin 0 v) s = .next t ∧ Answered s t 0 .ok [] ∧ t.pair = { s.pair with autoRejoin := v == 1 } ∧
        { t with pair := s.pair, evc := s.evc, hr := s.hr } = s) ∧
    (∀ v : W32, v.toNat < 2 →
      (let er := regionArg v
       (s.regState er = .out ∨ s.regState er = .held → mayRejoin s er = true →
         Asked s (.rejoin 0 v) → ∃ t, exec (.rejoin 0 v) s = .next t ∧ Answered s t 0 .ok [] ∧ t.regState er = .testing ∧
           t.pair.rejoin = some { er := er, phase := 1, pass := 0 } ∧ t.pair.active = s.pair.active ∧ ∀ k, t.region k = s.region k) ∧
       (s.duplex = true →
         Asked s (.regionOut 0 v) → ∃ t, exec (.regionOut 0 v) s = .next t ∧ t.serving er = false ∧ t.pair.active = otherEr er ∧
           (t.page 0).stat = Stat.ok.code ∧ (t.page 0).busy = false ∧ (t.page 0).valid = true) ∧
       (s.duplex = false →
         Asked s (.regionOut 0 v) →
         ∃ t, exec (.regionOut 0 v) s = .next t ∧ Answered s t 0 .conflict (leBytes 4 0) ∧ { t with evc := s.evc, hr := s.hr } = s)))

/-- R479: a request that only partition 0 may issue, from the page of another partition, is answered DENIED and changes nothing
else. -/
def Obligations.TenantsAreDeniedDeviceRequests : Prop :=
  ∀ (s : State) (p : BitVec 7) (c : Instr), MbxOpen s → p ≠ 0 → zeroOnly c = some p → Asked s c →
    ∃ t, exec c s = .next t ∧ Answered s t p .denied (leBytes 4 0) ∧ { t with evc := s.evc, hr := s.hr } = s
/-! ### An invariant of every step -/

/-- Every step, whichever command is at the front of the queue or none, keeps these tables in their canonical form, so that equal
contents are equal data: the fabric's queues; the contact sheet and its copy in MRAM; the mailbox pages and the counter holds; the
transfers; the channels, with each channel's buffers, stations and counters; the network queues, stations and ports, with their
counters; and of each region the image and its stamps, the variable areas, the loops, the engines, the changes and the programs that
wait. The state's other tables are not spoken of here. -/
def Obligations.StepKeepsCanonicalTables : Prop :=
  ∀ s t : State, Canonical s → step s = .next t → Canonical t
end

