-- ==== Sys2Proof/Laws/Fabric.lean ====
section
/-! SUPPORT. What the operations on a fabric queue leave of its ledger (R34): what a write, a credit, a removal and a waiting
producer do. -/

namespace Sys2Proof.Machine

/-- No check of R35 fails exactly when the three equations of the ledger hold. -/
theorem FQueue.violation_eq_zero (q : FQueue) : q.violation = 0 ↔
    q.avail + q.flight = q.cap ∧ q.occ ≤ q.flight ∧ q.removed - q.returned = BitVec.ofNat 16 (q.flight - q.occ) := by
  unfold FQueue.violation
  constructor
  · intro h
    split at h
    · cases h
    · split at h
      · cases h
      · split at h
        · cases h
        · rename_i h1 h2 h3
          exact ⟨by omega, by omega, by simpa using h3⟩
  · rintro ⟨h1, h2, h3⟩
    rw [if_neg (by omega), if_neg (by omega), if_neg (by simpa using h3)]

/-- A producer writes no more entries than it holds credits for, and the ledger holds on. -/
theorem FQueue.write_violation {q : FQueue} {n : Nat} (h : q.violation = 0) (hn : n ≤ q.avail) : (q.write n).violation = 0 := by
  rw [violation_eq_zero] at h ⊢
  obtain ⟨h1, h2, h3⟩ := h
  refine ⟨?_, ?_, ?_⟩
  · show q.avail - n + (q.flight + n) = q.cap
    omega
  · show q.occ + n ≤ q.flight + n
    omega
  · show q.removed - q.returned = BitVec.ofNat 16 (q.flight + n - (q.occ + n))
    rw [h3, Nat.add_sub_add_right]

/-- Credits of entries that have been removed return, and the ledger holds on. -/
theorem FQueue.credit_violation {q : FQueue} {n : Nat} (h : q.violation = 0) (hn : n ≤ q.flight - q.occ) :
    (q.credit n).violation = 0 := by
  rw [violation_eq_zero] at h ⊢
  obtain ⟨h1, h2, h3⟩ := h
  refine ⟨?_, ?_, ?_⟩
  · show q.avail + n + (q.flight - n) = q.cap
    omega
  · show q.occ ≤ q.flight - n
    omega
  · show q.removed - (q.returned + BitVec.ofNat 16 n) = BitVec.ofNat 16 (q.flight - n - q.occ)
    have e : q.flight - q.occ = (q.flight - n - q.occ) + n := by omega
    rw [e, BitVec.ofNat_add] at h3
    have e' : BitVec.ofNat 16 (q.flight - n - q.occ) = q.removed - q.returned - BitVec.ofNat 16 n := by rw [h3]; bv_omega
    rw [e']; bv_omega

/-- The consumer removes entries that are there, and the ledger holds on, whether or not their credits wait. -/
theorem FQueue.remove_violation {q : FQueue} {n : Nat} (h : q.violation = 0) (hn : n ≤ q.occ) : (q.remove n).violation = 0 := by
  have hs : FQueue.violation { q with occ := q.occ - n, removed := q.removed + BitVec.ofNat 16 n } = 0 := by
    rw [violation_eq_zero] at h ⊢
    obtain ⟨h1, h2, h3⟩ := h
    refine ⟨h1, ?_, ?_⟩
    · show q.occ - n ≤ q.flight
      omega
    · show q.removed + BitVec.ofNat 16 n - q.returned = BitVec.ofNat 16 (q.flight - (q.occ - n))
      have e : q.flight - (q.occ - n) = (q.flight - q.occ) + n := by omega
      rw [e, BitVec.ofNat_add, ← h3]
      bv_omega
  unfold FQueue.remove
  simp only
  split
  · refine credit_violation hs ?_
    rw [violation_eq_zero] at h
    show n ≤ q.flight - (q.occ - n)
    omega
  · exact hs

/-- An emptied queue holds its ledger. -/
theorem FQueue.clear_violation (q : FQueue) : q.clear.violation = 0 := by
  rw [violation_eq_zero]
  exact ⟨Nat.add_zero _, Nat.le_refl _, BitVec.sub_self _⟩

/-- What a producer that runs ahead leaves alone: the queue's kind, what its consumer has counted, and every group that already
stood in it. -/
theorem FQueue.pump_frame (now : W64) (q : FQueue) (gs : List Group) :
    (q.pump now gs).cap = q.cap ∧ (q.pump now gs).removed = q.removed ∧ (q.pump now gs).returned = q.returned ∧
    (q.pump now gs).frozen = q.frozen ∧ (q.pump now gs).dead = q.dead ∧ (q.pump now gs).armed = q.armed ∧
    ∃ l, (q.pump now gs).held = q.held ++ l := by
  induction gs generalizing q with
  | nil => exact ⟨rfl, rfl, rfl, rfl, rfl, rfl, [], (List.append_nil _).symm⟩
  | cons g gs ih =>
    unfold FQueue.pump
    split
    · simp only
      split
      · obtain ⟨a, b, c, d, e, f, l, hl⟩ := ih _
        exact ⟨a, b, c, d, e, f, _ :: l, hl.trans (List.append_assoc _ _ _)⟩
      · exact ⟨rfl, rfl, rfl, rfl, rfl, rfl, [], (List.append_nil _).symm⟩
    · exact ⟨rfl, rfl, rfl, rfl, rfl, rfl, [], (List.append_nil _).symm⟩

/-- A producer that runs ahead keeps its ledger. -/
theorem FQueue.pump_violation (now : W64) {q : FQueue} (gs : List Group) (h : q.violation = 0) : (q.pump now gs).violation = 0 := by
  induction gs generalizing q with
  | nil => exact h
  | cons g gs ih =>
    unfold FQueue.pump
    split
    · simp only
      have hw : (q.write (min q.avail (g.size - q.part))).violation = 0 := write_violation h (Nat.min_le_left _ _)
      split
      · exact ih hw
      · exact hw
    · exact h

/-- A group presented to a queue keeps its ledger. -/
theorem FQueue.submit_violation (now : W64) {q : FQueue} (g : Group) (h : q.violation = 0) : (q.submit now g).violation = 0 := by
  unfold FQueue.submit
  split
  · exact h
  · exact pump_violation now _ h

end Sys2Proof.Machine
end

