-- ==== Sys2Proof/Laws/State.lean ====
section
/-! SUPPORT. What each setter of the state leaves: one lemma per field per update, and the same for the derived reads. -/

namespace Sys2Proof.Machine

/-! `setTime` -/

@[simp] theorem State.setTime_pending (s : State) (v : Time) : (s.setTime v).pending = s.pending := rfl
@[simp] theorem State.setTime_free (s : State) (v : Time) : (s.setTime v).free = s.free := rfl
@[simp] theorem State.setTime_time (s : State) (v : Time) : (s.setTime v).time = v := rfl
@[simp] theorem State.setTime_dev (s : State) (v : Time) : (s.setTime v).dev = s.dev := rfl
@[simp] theorem State.setTime_fab (s : State) (v : Time) : (s.setTime v).fab = s.fab := rfl
@[simp] theorem State.setTime_erA (s : State) (v : Time) : (s.setTime v).erA = s.erA := rfl
@[simp] theorem State.setTime_erB (s : State) (v : Time) : (s.setTime v).erB = s.erB := rfl
@[simp] theorem State.setTime_pair (s : State) (v : Time) : (s.setTime v).pair = s.pair := rfl
@[simp] theorem State.setTime_health (s : State) (v : Time) : (s.setTime v).health = s.health := rfl
@[simp] theorem State.setTime_ir (s : State) (v : Time) : (s.setTime v).ir = s.ir := rfl
@[simp] theorem State.setTime_chans (s : State) (v : Time) : (s.setTime v).chans = s.chans := rfl
@[simp] theorem State.setTime_net (s : State) (v : Time) : (s.setTime v).net = s.net := rfl
@[simp] theorem State.setTime_evc (s : State) (v : Time) : (s.setTime v).evc = s.evc := rfl
@[simp] theorem State.setTime_recd (s : State) (v : Time) : (s.setTime v).recd = s.recd := rfl
@[simp] theorem State.setTime_sec (s : State) (v : Time) : (s.setTime v).sec = s.sec := rfl
@[simp] theorem State.setTime_img (s : State) (v : Time) : (s.setTime v).img = s.img := rfl
@[simp] theorem State.setTime_hr (s : State) (v : Time) : (s.setTime v).hr = s.hr := rfl
@[simp] theorem State.setTime_region (s : State) (v : Time) (er : Er) : (s.setTime v).region er = s.region er := rfl
@[simp] theorem State.setTime_chan (s : State) (v : Time) (c : Nat) : (s.setTime v).chan c = s.chan c := rfl
@[simp] theorem State.setTime_port (s : State) (v : Time) (p : Port) : (s.setTime v).port p = s.port p := rfl
@[simp] theorem State.setTime_page (s : State) (v : Time) (p : BitVec 7) : (s.setTime v).page p = s.page p := rfl
@[simp] theorem State.setTime_block (s : State) (v : Time) (b : Nat) : (s.setTime v).block b = s.block b := rfl
@[simp] theorem State.setTime_target (s : State) (v : Time) (t : Target) : (s.setTime v).target t = s.target t := rfl
@[simp] theorem State.setTime_regState (s : State) (v : Time) (er : Er) : (s.setTime v).regState er = s.regState er := rfl
@[simp] theorem State.setTime_serving (s : State) (v : Time) (er : Er) : (s.setTime v).serving er = s.serving er := rfl
@[simp] theorem State.setTime_duplex (s : State) (v : Time) : (s.setTime v).duplex = s.duplex := rfl
@[simp] theorem State.setTime_powered (s : State) (v : Time) : (s.setTime v).powered = s.powered := rfl

/-! `setDev` -/

@[simp] theorem State.setDev_pending (s : State) (v : Dev) : (s.setDev v).pending = s.pending := rfl
@[simp] theorem State.setDev_free (s : State) (v : Dev) : (s.setDev v).free = s.free := rfl
@[simp] theorem State.setDev_time (s : State) (v : Dev) : (s.setDev v).time = s.time := rfl
@[simp] theorem State.setDev_dev (s : State) (v : Dev) : (s.setDev v).dev = v := rfl
@[simp] theorem State.setDev_fab (s : State) (v : Dev) : (s.setDev v).fab = s.fab := rfl
@[simp] theorem State.setDev_erA (s : State) (v : Dev) : (s.setDev v).erA = s.erA := rfl
@[simp] theorem State.setDev_erB (s : State) (v : Dev) : (s.setDev v).erB = s.erB := rfl
@[simp] theorem State.setDev_pair (s : State) (v : Dev) : (s.setDev v).pair = s.pair := rfl
@[simp] theorem State.setDev_health (s : State) (v : Dev) : (s.setDev v).health = s.health := rfl
@[simp] theorem State.setDev_ir (s : State) (v : Dev) : (s.setDev v).ir = s.ir := rfl
@[simp] theorem State.setDev_chans (s : State) (v : Dev) : (s.setDev v).chans = s.chans := rfl
@[simp] theorem State.setDev_net (s : State) (v : Dev) : (s.setDev v).net = s.net := rfl
@[simp] theorem State.setDev_evc (s : State) (v : Dev) : (s.setDev v).evc = s.evc := rfl
@[simp] theorem State.setDev_recd (s : State) (v : Dev) : (s.setDev v).recd = s.recd := rfl
@[simp] theorem State.setDev_sec (s : State) (v : Dev) : (s.setDev v).sec = s.sec := rfl
@[simp] theorem State.setDev_img (s : State) (v : Dev) : (s.setDev v).img = s.img := rfl
@[simp] theorem State.setDev_hr (s : State) (v : Dev) : (s.setDev v).hr = s.hr := rfl
@[simp] theorem State.setDev_region (s : State) (v : Dev) (er : Er) : (s.setDev v).region er = s.region er := rfl
@[simp] theorem State.setDev_chan (s : State) (v : Dev) (c : Nat) : (s.setDev v).chan c = s.chan c := rfl
@[simp] theorem State.setDev_port (s : State) (v : Dev) (p : Port) : (s.setDev v).port p = s.port p := rfl
@[simp] theorem State.setDev_page (s : State) (v : Dev) (p : BitVec 7) : (s.setDev v).page p = s.page p := rfl
@[simp] theorem State.setDev_block (s : State) (v : Dev) (b : Nat) : (s.setDev v).block b = s.block b := rfl
@[simp] theorem State.setDev_target (s : State) (v : Dev) (t : Target) : (s.setDev v).target t = s.target t := rfl
@[simp] theorem State.setDev_regState (s : State) (v : Dev) (er : Er) : (s.setDev v).regState er = s.regState er := rfl
@[simp] theorem State.setDev_serving (s : State) (v : Dev) (er : Er) : (s.setDev v).serving er = s.serving er := rfl
@[simp] theorem State.setDev_duplex (s : State) (v : Dev) : (s.setDev v).duplex = s.duplex := rfl
@[simp] theorem State.setDev_nowTick (s : State) (v : Dev) : (s.setDev v).nowTick = s.nowTick := rfl
@[simp] theorem State.setDev_tick32 (s : State) (v : Dev) : (s.setDev v).tick32 = s.tick32 := rfl

/-! `setFab` -/

@[simp] theorem State.setFab_pending (s : State) (v : Fabric) : (s.setFab v).pending = s.pending := rfl
@[simp] theorem State.setFab_free (s : State) (v : Fabric) : (s.setFab v).free = s.free := rfl
@[simp] theorem State.setFab_time (s : State) (v : Fabric) : (s.setFab v).time = s.time := rfl
@[simp] theorem State.setFab_dev (s : State) (v : Fabric) : (s.setFab v).dev = s.dev := rfl
@[simp] theorem State.setFab_fab (s : State) (v : Fabric) : (s.setFab v).fab = v := rfl
@[simp] theorem State.setFab_erA (s : State) (v : Fabric) : (s.setFab v).erA = s.erA := rfl
@[simp] theorem State.setFab_erB (s : State) (v : Fabric) : (s.setFab v).erB = s.erB := rfl
@[simp] theorem State.setFab_pair (s : State) (v : Fabric) : (s.setFab v).pair = s.pair := rfl
@[simp] theorem State.setFab_health (s : State) (v : Fabric) : (s.setFab v).health = s.health := rfl
@[simp] theorem State.setFab_ir (s : State) (v : Fabric) : (s.setFab v).ir = s.ir := rfl
@[simp] theorem State.setFab_chans (s : State) (v : Fabric) : (s.setFab v).chans = s.chans := rfl
@[simp] theorem State.setFab_net (s : State) (v : Fabric) : (s.setFab v).net = s.net := rfl
@[simp] theorem State.setFab_evc (s : State) (v : Fabric) : (s.setFab v).evc = s.evc := rfl
@[simp] theorem State.setFab_recd (s : State) (v : Fabric) : (s.setFab v).recd = s.recd := rfl
@[simp] theorem State.setFab_sec (s : State) (v : Fabric) : (s.setFab v).sec = s.sec := rfl
@[simp] theorem State.setFab_img (s : State) (v : Fabric) : (s.setFab v).img = s.img := rfl
@[simp] theorem State.setFab_hr (s : State) (v : Fabric) : (s.setFab v).hr = s.hr := rfl
@[simp] theorem State.setFab_region (s : State) (v : Fabric) (er : Er) : (s.setFab v).region er = s.region er := rfl
@[simp] theorem State.setFab_chan (s : State) (v : Fabric) (c : Nat) : (s.setFab v).chan c = s.chan c := rfl
@[simp] theorem State.setFab_port (s : State) (v : Fabric) (p : Port) : (s.setFab v).port p = s.port p := rfl
@[simp] theorem State.setFab_page (s : State) (v : Fabric) (p : BitVec 7) : (s.setFab v).page p = s.page p := rfl
@[simp] theorem State.setFab_block (s : State) (v : Fabric) (b : Nat) : (s.setFab v).block b = s.block b := rfl
@[simp] theorem State.setFab_target (s : State) (v : Fabric) (t : Target) : (s.setFab v).target t = s.target t := rfl
@[simp] theorem State.setFab_regState (s : State) (v : Fabric) (er : Er) : (s.setFab v).regState er = s.regState er := rfl
@[simp] theorem State.setFab_serving (s : State) (v : Fabric) (er : Er) : (s.setFab v).serving er = s.serving er := rfl
@[simp] theorem State.setFab_duplex (s : State) (v : Fabric) : (s.setFab v).duplex = s.duplex := rfl
@[simp] theorem State.setFab_powered (s : State) (v : Fabric) : (s.setFab v).powered = s.powered := rfl
@[simp] theorem State.setFab_nowTick (s : State) (v : Fabric) : (s.setFab v).nowTick = s.nowTick := rfl
@[simp] theorem State.setFab_tick32 (s : State) (v : Fabric) : (s.setFab v).tick32 = s.tick32 := rfl

/-! `setPair` -/

@[simp] theorem State.setPair_pending (s : State) (v : Pair) : (s.setPair v).pending = s.pending := rfl
@[simp] theorem State.setPair_free (s : State) (v : Pair) : (s.setPair v).free = s.free := rfl
@[simp] theorem State.setPair_time (s : State) (v : Pair) : (s.setPair v).time = s.time := rfl
@[simp] theorem State.setPair_dev (s : State) (v : Pair) : (s.setPair v).dev = s.dev := rfl
@[simp] theorem State.setPair_fab (s : State) (v : Pair) : (s.setPair v).fab = s.fab := rfl
@[simp] theorem State.setPair_erA (s : State) (v : Pair) : (s.setPair v).erA = s.erA := rfl
@[simp] theorem State.setPair_erB (s : State) (v : Pair) : (s.setPair v).erB = s.erB := rfl
@[simp] theorem State.setPair_pair (s : State) (v : Pair) : (s.setPair v).pair = v := rfl
@[simp] theorem State.setPair_health (s : State) (v : Pair) : (s.setPair v).health = s.health := rfl
@[simp] theorem State.setPair_ir (s : State) (v : Pair) : (s.setPair v).ir = s.ir := rfl
@[simp] theorem State.setPair_chans (s : State) (v : Pair) : (s.setPair v).chans = s.chans := rfl
@[simp] theorem State.setPair_net (s : State) (v : Pair) : (s.setPair v).net = s.net := rfl
@[simp] theorem State.setPair_evc (s : State) (v : Pair) : (s.setPair v).evc = s.evc := rfl
@[simp] theorem State.setPair_recd (s : State) (v : Pair) : (s.setPair v).recd = s.recd := rfl
@[simp] theorem State.setPair_sec (s : State) (v : Pair) : (s.setPair v).sec = s.sec := rfl
@[simp] theorem State.setPair_img (s : State) (v : Pair) : (s.setPair v).img = s.img := rfl
@[simp] theorem State.setPair_hr (s : State) (v : Pair) : (s.setPair v).hr = s.hr := rfl
@[simp] theorem State.setPair_region (s : State) (v : Pair) (er : Er) : (s.setPair v).region er = s.region er := rfl
@[simp] theorem State.setPair_chan (s : State) (v : Pair) (c : Nat) : (s.setPair v).chan c = s.chan c := rfl
@[simp] theorem State.setPair_port (s : State) (v : Pair) (p : Port) : (s.setPair v).port p = s.port p := rfl
@[simp] theorem State.setPair_page (s : State) (v : Pair) (p : BitVec 7) : (s.setPair v).page p = s.page p := rfl
@[simp] theorem State.setPair_block (s : State) (v : Pair) (b : Nat) : (s.setPair v).block b = s.block b := rfl
@[simp] theorem State.setPair_target (s : State) (v : Pair) (t : Target) : (s.setPair v).target t = s.target t := rfl
@[simp] theorem State.setPair_powered (s : State) (v : Pair) : (s.setPair v).powered = s.powered := rfl
@[simp] theorem State.setPair_nowTick (s : State) (v : Pair) : (s.setPair v).nowTick = s.nowTick := rfl
@[simp] theorem State.setPair_tick32 (s : State) (v : Pair) : (s.setPair v).tick32 = s.tick32 := rfl

/-! `setHealth` -/

@[simp] theorem State.setHealth_pending (s : State) (v : Health) : (s.setHealth v).pending = s.pending := rfl
@[simp] theorem State.setHealth_free (s : State) (v : Health) : (s.setHealth v).free = s.free := rfl
@[simp] theorem State.setHealth_time (s : State) (v : Health) : (s.setHealth v).time = s.time := rfl
@[simp] theorem State.setHealth_dev (s : State) (v : Health) : (s.setHealth v).dev = s.dev := rfl
@[simp] theorem State.setHealth_fab (s : State) (v : Health) : (s.setHealth v).fab = s.fab := rfl
@[simp] theorem State.setHealth_erA (s : State) (v : Health) : (s.setHealth v).erA = s.erA := rfl
@[simp] theorem State.setHealth_erB (s : State) (v : Health) : (s.setHealth v).erB = s.erB := rfl
@[simp] theorem State.setHealth_pair (s : State) (v : Health) : (s.setHealth v).pair = s.pair := rfl
@[simp] theorem State.setHealth_health (s : State) (v : Health) : (s.setHealth v).health = v := rfl
@[simp] theorem State.setHealth_ir (s : State) (v : Health) : (s.setHealth v).ir = s.ir := rfl
@[simp] theorem State.setHealth_chans (s : State) (v : Health) : (s.setHealth v).chans = s.chans := rfl
@[simp] theorem State.setHealth_net (s : State) (v : Health) : (s.setHealth v).net = s.net := rfl
@[simp] theorem State.setHealth_evc (s : State) (v : Health) : (s.setHealth v).evc = s.evc := rfl
@[simp] theorem State.setHealth_recd (s : State) (v : Health) : (s.setHealth v).recd = s.recd := rfl
@[simp] theorem State.setHealth_sec (s : State) (v : Health) : (s.setHealth v).sec = s.sec := rfl
@[simp] theorem State.setHealth_img (s : State) (v : Health) : (s.setHealth v).img = s.img := rfl
@[simp] theorem State.setHealth_hr (s : State) (v : Health) : (s.setHealth v).hr = s.hr := rfl
@[simp] theorem State.setHealth_region (s : State) (v : Health) (er : Er) : (s.setHealth v).region er = s.region er := rfl
@[simp] theorem State.setHealth_chan (s : State) (v : Health) (c : Nat) : (s.setHealth v).chan c = s.chan c := rfl
@[simp] theorem State.setHealth_port (s : State) (v : Health) (p : Port) : (s.setHealth v).port p = s.port p := rfl
@[simp] theorem State.setHealth_page (s : State) (v : Health) (p : BitVec 7) : (s.setHealth v).page p = s.page p := rfl
@[simp] theorem State.setHealth_target (s : State) (v : Health) (t : Target) : (s.setHealth v).target t = s.target t := rfl
@[simp] theorem State.setHealth_regState (s : State) (v : Health) (er : Er) : (s.setHealth v).regState er = s.regState er := rfl
@[simp] theorem State.setHealth_serving (s : State) (v : Health) (er : Er) : (s.setHealth v).serving er = s.serving er := rfl
@[simp] theorem State.setHealth_duplex (s : State) (v : Health) : (s.setHealth v).duplex = s.duplex := rfl
@[simp] theorem State.setHealth_powered (s : State) (v : Health) : (s.setHealth v).powered = s.powered := rfl
@[simp] theorem State.setHealth_nowTick (s : State) (v : Health) : (s.setHealth v).nowTick = s.nowTick := rfl
@[simp] theorem State.setHealth_tick32 (s : State) (v : Health) : (s.setHealth v).tick32 = s.tick32 := rfl

/-! `setIr` -/

@[simp] theorem State.setIr_pending (s : State) (v : Ir) : (s.setIr v).pending = s.pending := rfl
@[simp] theorem State.setIr_free (s : State) (v : Ir) : (s.setIr v).free = s.free := rfl
@[simp] theorem State.setIr_time (s : State) (v : Ir) : (s.setIr v).time = s.time := rfl
@[simp] theorem State.setIr_dev (s : State) (v : Ir) : (s.setIr v).dev = s.dev := rfl
@[simp] theorem State.setIr_fab (s : State) (v : Ir) : (s.setIr v).fab = s.fab := rfl
@[simp] theorem State.setIr_erA (s : State) (v : Ir) : (s.setIr v).erA = s.erA := rfl
@[simp] theorem State.setIr_erB (s : State) (v : Ir) : (s.setIr v).erB = s.erB := rfl
@[simp] theorem State.setIr_pair (s : State) (v : Ir) : (s.setIr v).pair = s.pair := rfl
@[simp] theorem State.setIr_health (s : State) (v : Ir) : (s.setIr v).health = s.health := rfl
@[simp] theorem State.setIr_ir (s : State) (v : Ir) : (s.setIr v).ir = v := rfl
@[simp] theorem State.setIr_chans (s : State) (v : Ir) : (s.setIr v).chans = s.chans := rfl
@[simp] theorem State.setIr_net (s : State) (v : Ir) : (s.setIr v).net = s.net := rfl
@[simp] theorem State.setIr_evc (s : State) (v : Ir) : (s.setIr v).evc = s.evc := rfl
@[simp] theorem State.setIr_recd (s : State) (v : Ir) : (s.setIr v).recd = s.recd := rfl
@[simp] theorem State.setIr_sec (s : State) (v : Ir) : (s.setIr v).sec = s.sec := rfl
@[simp] theorem State.setIr_img (s : State) (v : Ir) : (s.setIr v).img = s.img := rfl
@[simp] theorem State.setIr_hr (s : State) (v : Ir) : (s.setIr v).hr = s.hr := rfl
@[simp] theorem State.setIr_region (s : State) (v : Ir) (er : Er) : (s.setIr v).region er = s.region er := rfl
@[simp] theorem State.setIr_chan (s : State) (v : Ir) (c : Nat) : (s.setIr v).chan c = s.chan c := rfl
@[simp] theorem State.setIr_port (s : State) (v : Ir) (p : Port) : (s.setIr v).port p = s.port p := rfl
@[simp] theorem State.setIr_page (s : State) (v : Ir) (p : BitVec 7) : (s.setIr v).page p = s.page p := rfl
@[simp] theorem State.setIr_block (s : State) (v : Ir) (b : Nat) : (s.setIr v).block b = s.block b := rfl
@[simp] theorem State.setIr_target (s : State) (v : Ir) (t : Target) : (s.setIr v).target t = s.target t := rfl
@[simp] theorem State.setIr_regState (s : State) (v : Ir) (er : Er) : (s.setIr v).regState er = s.regState er := rfl
@[simp] theorem State.setIr_serving (s : State) (v : Ir) (er : Er) : (s.setIr v).serving er = s.serving er := rfl
@[simp] theorem State.setIr_duplex (s : State) (v : Ir) : (s.setIr v).duplex = s.duplex := rfl
@[simp] theorem State.setIr_powered (s : State) (v : Ir) : (s.setIr v).powered = s.powered := rfl
@[simp] theorem State.setIr_nowTick (s : State) (v : Ir) : (s.setIr v).nowTick = s.nowTick := rfl
@[simp] theorem State.setIr_tick32 (s : State) (v : Ir) : (s.setIr v).tick32 = s.tick32 := rfl

/-! `setNet` -/

@[simp] theorem State.setNet_pending (s : State) (v : Net) : (s.setNet v).pending = s.pending := rfl
@[simp] theorem State.setNet_free (s : State) (v : Net) : (s.setNet v).free = s.free := rfl
@[simp] theorem State.setNet_time (s : State) (v : Net) : (s.setNet v).time = s.time := rfl
@[simp] theorem State.setNet_dev (s : State) (v : Net) : (s.setNet v).dev = s.dev := rfl
@[simp] theorem State.setNet_fab (s : State) (v : Net) : (s.setNet v).fab = s.fab := rfl
@[simp] theorem State.setNet_erA (s : State) (v : Net) : (s.setNet v).erA = s.erA := rfl
@[simp] theorem State.setNet_erB (s : State) (v : Net) : (s.setNet v).erB = s.erB := rfl
@[simp] theorem State.setNet_pair (s : State) (v : Net) : (s.setNet v).pair = s.pair := rfl
@[simp] theorem State.setNet_health (s : State) (v : Net) : (s.setNet v).health = s.health := rfl
@[simp] theorem State.setNet_ir (s : State) (v : Net) : (s.setNet v).ir = s.ir := rfl
@[simp] theorem State.setNet_chans (s : State) (v : Net) : (s.setNet v).chans = s.chans := rfl
@[simp] theorem State.setNet_net (s : State) (v : Net) : (s.setNet v).net = v := rfl
@[simp] theorem State.setNet_evc (s : State) (v : Net) : (s.setNet v).evc = s.evc := rfl
@[simp] theorem State.setNet_recd (s : State) (v : Net) : (s.setNet v).recd = s.recd := rfl
@[simp] theorem State.setNet_sec (s : State) (v : Net) : (s.setNet v).sec = s.sec := rfl
@[simp] theorem State.setNet_img (s : State) (v : Net) : (s.setNet v).img = s.img := rfl
@[simp] theorem State.setNet_hr (s : State) (v : Net) : (s.setNet v).hr = s.hr := rfl
@[simp] theorem State.setNet_region (s : State) (v : Net) (er : Er) : (s.setNet v).region er = s.region er := rfl
@[simp] theorem State.setNet_chan (s : State) (v : Net) (c : Nat) : (s.setNet v).chan c = s.chan c := rfl
@[simp] theorem State.setNet_page (s : State) (v : Net) (p : BitVec 7) : (s.setNet v).page p = s.page p := rfl
@[simp] theorem State.setNet_block (s : State) (v : Net) (b : Nat) : (s.setNet v).block b = s.block b := rfl
@[simp] theorem State.setNet_target (s : State) (v : Net) (t : Target) : (s.setNet v).target t = s.target t := rfl
@[simp] theorem State.setNet_regState (s : State) (v : Net) (er : Er) : (s.setNet v).regState er = s.regState er := rfl
@[simp] theorem State.setNet_serving (s : State) (v : Net) (er : Er) : (s.setNet v).serving er = s.serving er := rfl
@[simp] theorem State.setNet_duplex (s : State) (v : Net) : (s.setNet v).duplex = s.duplex := rfl
@[simp] theorem State.setNet_powered (s : State) (v : Net) : (s.setNet v).powered = s.powered := rfl
@[simp] theorem State.setNet_nowTick (s : State) (v : Net) : (s.setNet v).nowTick = s.nowTick := rfl
@[simp] theorem State.setNet_tick32 (s : State) (v : Net) : (s.setNet v).tick32 = s.tick32 := rfl

/-! `setEvc` -/

@[simp] theorem State.setEvc_pending (s : State) (v : Evcs) : (s.setEvc v).pending = s.pending := rfl
@[simp] theorem State.setEvc_free (s : State) (v : Evcs) : (s.setEvc v).free = s.free := rfl
@[simp] theorem State.setEvc_time (s : State) (v : Evcs) : (s.setEvc v).time = s.time := rfl
@[simp] theorem State.setEvc_dev (s : State) (v : Evcs) : (s.setEvc v).dev = s.dev := rfl
@[simp] theorem State.setEvc_fab (s : State) (v : Evcs) : (s.setEvc v).fab = s.fab := rfl
@[simp] theorem State.setEvc_erA (s : State) (v : Evcs) : (s.setEvc v).erA = s.erA := rfl
@[simp] theorem State.setEvc_erB (s : State) (v : Evcs) : (s.setEvc v).erB = s.erB := rfl
@[simp] theorem State.setEvc_pair (s : State) (v : Evcs) : (s.setEvc v).pair = s.pair := rfl
@[simp] theorem State.setEvc_health (s : State) (v : Evcs) : (s.setEvc v).health = s.health := rfl
@[simp] theorem State.setEvc_ir (s : State) (v : Evcs) : (s.setEvc v).ir = s.ir := rfl
@[simp] theorem State.setEvc_chans (s : State) (v : Evcs) : (s.setEvc v).chans = s.chans := rfl
@[simp] theorem State.setEvc_net (s : State) (v : Evcs) : (s.setEvc v).net = s.net := rfl
@[simp] theorem State.setEvc_evc (s : State) (v : Evcs) : (s.setEvc v).evc = v := rfl
@[simp] theorem State.setEvc_recd (s : State) (v : Evcs) : (s.setEvc v).recd = s.recd := rfl
@[simp] theorem State.setEvc_sec (s : State) (v : Evcs) : (s.setEvc v).sec = s.sec := rfl
@[simp] theorem State.setEvc_img (s : State) (v : Evcs) : (s.setEvc v).img = s.img := rfl
@[simp] theorem State.setEvc_hr (s : State) (v : Evcs) : (s.setEvc v).hr = s.hr := rfl
@[simp] theorem State.setEvc_region (s : State) (v : Evcs) (er : Er) : (s.setEvc v).region er = s.region er := rfl
@[simp] theorem State.setEvc_chan (s : State) (v : Evcs) (c : Nat) : (s.setEvc v).chan c = s.chan c := rfl
@[simp] theorem State.setEvc_port (s : State) (v : Evcs) (p : Port) : (s.setEvc v).port p = s.port p := rfl
@[simp] theorem State.setEvc_page (s : State) (v : Evcs) (p : BitVec 7) : (s.setEvc v).page p = s.page p := rfl
@[simp] theorem State.setEvc_block (s : State) (v : Evcs) (b : Nat) : (s.setEvc v).block b = s.block b := rfl
@[simp] theorem State.setEvc_regState (s : State) (v : Evcs) (er : Er) : (s.setEvc v).regState er = s.regState er := rfl
@[simp] theorem State.setEvc_serving (s : State) (v : Evcs) (er : Er) : (s.setEvc v).serving er = s.serving er := rfl
@[simp] theorem State.setEvc_duplex (s : State) (v : Evcs) : (s.setEvc v).duplex = s.duplex := rfl
@[simp] theorem State.setEvc_powered (s : State) (v : Evcs) : (s.setEvc v).powered = s.powered := rfl
@[simp] theorem State.setEvc_nowTick (s : State) (v : Evcs) : (s.setEvc v).nowTick = s.nowTick := rfl
@[simp] theorem State.setEvc_tick32 (s : State) (v : Evcs) : (s.setEvc v).tick32 = s.tick32 := rfl

/-! `setRecd` -/

@[simp] theorem State.setRecd_pending (s : State) (v : Rec) : (s.setRecd v).pending = s.pending := rfl
@[simp] theorem State.setRecd_free (s : State) (v : Rec) : (s.setRecd v).free = s.free := rfl
@[simp] theorem State.setRecd_time (s : State) (v : Rec) : (s.setRecd v).time = s.time := rfl
@[simp] theorem State.setRecd_dev (s : State) (v : Rec) : (s.setRecd v).dev = s.dev := rfl
@[simp] theorem State.setRecd_fab (s : State) (v : Rec) : (s.setRecd v).fab = s.fab := rfl
@[simp] theorem State.setRecd_erA (s : State) (v : Rec) : (s.setRecd v).erA = s.erA := rfl
@[simp] theorem State.setRecd_erB (s : State) (v : Rec) : (s.setRecd v).erB = s.erB := rfl
@[simp] theorem State.setRecd_pair (s : State) (v : Rec) : (s.setRecd v).pair = s.pair := rfl
@[simp] theorem State.setRecd_health (s : State) (v : Rec) : (s.setRecd v).health = s.health := rfl
@[simp] theorem State.setRecd_ir (s : State) (v : Rec) : (s.setRecd v).ir = s.ir := rfl
@[simp] theorem State.setRecd_chans (s : State) (v : Rec) : (s.setRecd v).chans = s.chans := rfl
@[simp] theorem State.setRecd_net (s : State) (v : Rec) : (s.setRecd v).net = s.net := rfl
@[simp] theorem State.setRecd_evc (s : State) (v : Rec) : (s.setRecd v).evc = s.evc := rfl
@[simp] theorem State.setRecd_recd (s : State) (v : Rec) : (s.setRecd v).recd = v := rfl
@[simp] theorem State.setRecd_sec (s : State) (v : Rec) : (s.setRecd v).sec = s.sec := rfl
@[simp] theorem State.setRecd_img (s : State) (v : Rec) : (s.setRecd v).img = s.img := rfl
@[simp] theorem State.setRecd_hr (s : State) (v : Rec) : (s.setRecd v).hr = s.hr := rfl
@[simp] theorem State.setRecd_region (s : State) (v : Rec) (er : Er) : (s.setRecd v).region er = s.region er := rfl
@[simp] theorem State.setRecd_chan (s : State) (v : Rec) (c : Nat) : (s.setRecd v).chan c = s.chan c := rfl
@[simp] theorem State.setRecd_port (s : State) (v : Rec) (p : Port) : (s.setRecd v).port p = s.port p := rfl
@[simp] theorem State.setRecd_page (s : State) (v : Rec) (p : BitVec 7) : (s.setRecd v).page p = s.page p := rfl
@[simp] theorem State.setRecd_block (s : State) (v : Rec) (b : Nat) : (s.setRecd v).block b = s.block b := rfl
@[simp] theorem State.setRecd_target (s : State) (v : Rec) (t : Target) : (s.setRecd v).target t = s.target t := rfl
@[simp] theorem State.setRecd_regState (s : State) (v : Rec) (er : Er) : (s.setRecd v).regState er = s.regState er := rfl
@[simp] theorem State.setRecd_serving (s : State) (v : Rec) (er : Er) : (s.setRecd v).serving er = s.serving er := rfl
@[simp] theorem State.setRecd_duplex (s : State) (v : Rec) : (s.setRecd v).duplex = s.duplex := rfl
@[simp] theorem State.setRecd_powered (s : State) (v : Rec) : (s.setRecd v).powered = s.powered := rfl
@[simp] theorem State.setRecd_nowTick (s : State) (v : Rec) : (s.setRecd v).nowTick = s.nowTick := rfl
@[simp] theorem State.setRecd_tick32 (s : State) (v : Rec) : (s.setRecd v).tick32 = s.tick32 := rfl

/-! `setSec` -/

@[simp] theorem State.setSec_pending (s : State) (v : Sr) : (s.setSec v).pending = s.pending := rfl
@[simp] theorem State.setSec_free (s : State) (v : Sr) : (s.setSec v).free = s.free := rfl
@[simp] theorem State.setSec_time (s : State) (v : Sr) : (s.setSec v).time = s.time := rfl
@[simp] theorem State.setSec_dev (s : State) (v : Sr) : (s.setSec v).dev = s.dev := rfl
@[simp] theorem State.setSec_fab (s : State) (v : Sr) : (s.setSec v).fab = s.fab := rfl
@[simp] theorem State.setSec_erA (s : State) (v : Sr) : (s.setSec v).erA = s.erA := rfl
@[simp] theorem State.setSec_erB (s : State) (v : Sr) : (s.setSec v).erB = s.erB := rfl
@[simp] theorem State.setSec_pair (s : State) (v : Sr) : (s.setSec v).pair = s.pair := rfl
@[simp] theorem State.setSec_health (s : State) (v : Sr) : (s.setSec v).health = s.health := rfl
@[simp] theorem State.setSec_ir (s : State) (v : Sr) : (s.setSec v).ir = s.ir := rfl
@[simp] theorem State.setSec_chans (s : State) (v : Sr) : (s.setSec v).chans = s.chans := rfl
@[simp] theorem State.setSec_net (s : State) (v : Sr) : (s.setSec v).net = s.net := rfl
@[simp] theorem State.setSec_evc (s : State) (v : Sr) : (s.setSec v).evc = s.evc := rfl
@[simp] theorem State.setSec_recd (s : State) (v : Sr) : (s.setSec v).recd = s.recd := rfl
@[simp] theorem State.setSec_sec (s : State) (v : Sr) : (s.setSec v).sec = v := rfl
@[simp] theorem State.setSec_img (s : State) (v : Sr) : (s.setSec v).img = s.img := rfl
@[simp] theorem State.setSec_hr (s : State) (v : Sr) : (s.setSec v).hr = s.hr := rfl
@[simp] theorem State.setSec_region (s : State) (v : Sr) (er : Er) : (s.setSec v).region er = s.region er := rfl
@[simp] theorem State.setSec_chan (s : State) (v : Sr) (c : Nat) : (s.setSec v).chan c = s.chan c := rfl
@[simp] theorem State.setSec_port (s : State) (v : Sr) (p : Port) : (s.setSec v).port p = s.port p := rfl
@[simp] theorem State.setSec_page (s : State) (v : Sr) (p : BitVec 7) : (s.setSec v).page p = s.page p := rfl
@[simp] theorem State.setSec_block (s : State) (v : Sr) (b : Nat) : (s.setSec v).block b = s.block b := rfl
@[simp] theorem State.setSec_target (s : State) (v : Sr) (t : Target) : (s.setSec v).target t = s.target t := rfl
@[simp] theorem State.setSec_regState (s : State) (v : Sr) (er : Er) : (s.setSec v).regState er = s.regState er := rfl
@[simp] theorem State.setSec_serving (s : State) (v : Sr) (er : Er) : (s.setSec v).serving er = s.serving er := rfl
@[simp] theorem State.setSec_duplex (s : State) (v : Sr) : (s.setSec v).duplex = s.duplex := rfl
@[simp] theorem State.setSec_powered (s : State) (v : Sr) : (s.setSec v).powered = s.powered := rfl
@[simp] theorem State.setSec_nowTick (s : State) (v : Sr) : (s.setSec v).nowTick = s.nowTick := rfl
@[simp] theorem State.setSec_tick32 (s : State) (v : Sr) : (s.setSec v).tick32 = s.tick32 := rfl

/-! `setImg` -/

@[simp] theorem State.setImg_pending (s : State) (v : Img) : (s.setImg v).pending = s.pending := rfl
@[simp] theorem State.setImg_free (s : State) (v : Img) : (s.setImg v).free = s.free := rfl
@[simp] theorem State.setImg_time (s : State) (v : Img) : (s.setImg v).time = s.time := rfl
@[simp] theorem State.setImg_dev (s : State) (v : Img) : (s.setImg v).dev = s.dev := rfl
@[simp] theorem State.setImg_fab (s : State) (v : Img) : (s.setImg v).fab = s.fab := rfl
@[simp] theorem State.setImg_erA (s : State) (v : Img) : (s.setImg v).erA = s.erA := rfl
@[simp] theorem State.setImg_erB (s : State) (v : Img) : (s.setImg v).erB = s.erB := rfl
@[simp] theorem State.setImg_pair (s : State) (v : Img) : (s.setImg v).pair = s.pair := rfl
@[simp] theorem State.setImg_health (s : State) (v : Img) : (s.setImg v).health = s.health := rfl
@[simp] theorem State.setImg_ir (s : State) (v : Img) : (s.setImg v).ir = s.ir := rfl
@[simp] theorem State.setImg_chans (s : State) (v : Img) : (s.setImg v).chans = s.chans := rfl
@[simp] theorem State.setImg_net (s : State) (v : Img) : (s.setImg v).net = s.net := rfl
@[simp] theorem State.setImg_evc (s : State) (v : Img) : (s.setImg v).evc = s.evc := rfl
@[simp] theorem State.setImg_recd (s : State) (v : Img) : (s.setImg v).recd = s.recd := rfl
@[simp] theorem State.setImg_sec (s : State) (v : Img) : (s.setImg v).sec = s.sec := rfl
@[simp] theorem State.setImg_img (s : State) (v : Img) : (s.setImg v).img = v := rfl
@[simp] theorem State.setImg_hr (s : State) (v : Img) : (s.setImg v).hr = s.hr := rfl
@[simp] theorem State.setImg_region (s : State) (v : Img) (er : Er) : (s.setImg v).region er = s.region er := rfl
@[simp] theorem State.setImg_chan (s : State) (v : Img) (c : Nat) : (s.setImg v).chan c = s.chan c := rfl
@[simp] theorem State.setImg_port (s : State) (v : Img) (p : Port) : (s.setImg v).port p = s.port p := rfl
@[simp] theorem State.setImg_page (s : State) (v : Img) (p : BitVec 7) : (s.setImg v).page p = s.page p := rfl
@[simp] theorem State.setImg_block (s : State) (v : Img) (b : Nat) : (s.setImg v).block b = s.block b := rfl
@[simp] theorem State.setImg_target (s : State) (v : Img) (t : Target) : (s.setImg v).target t = s.target t := rfl
@[simp] theorem State.setImg_regState (s : State) (v : Img) (er : Er) : (s.setImg v).regState er = s.regState er := rfl
@[simp] theorem State.setImg_serving (s : State) (v : Img) (er : Er) : (s.setImg v).serving er = s.serving er := rfl
@[simp] theorem State.setImg_duplex (s : State) (v : Img) : (s.setImg v).duplex = s.duplex := rfl
@[simp] theorem State.setImg_powered (s : State) (v : Img) : (s.setImg v).powered = s.powered := rfl
@[simp] theorem State.setImg_nowTick (s : State) (v : Img) : (s.setImg v).nowTick = s.nowTick := rfl
@[simp] theorem State.setImg_tick32 (s : State) (v : Img) : (s.setImg v).tick32 = s.tick32 := rfl

/-! `setHr` -/

@[simp] theorem State.setHr_pending (s : State) (v : Hr) : (s.setHr v).pending = s.pending := rfl
@[simp] theorem State.setHr_free (s : State) (v : Hr) : (s.setHr v).free = s.free := rfl
@[simp] theorem State.setHr_time (s : State) (v : Hr) : (s.setHr v).time = s.time := rfl
@[simp] theorem State.setHr_dev (s : State) (v : Hr) : (s.setHr v).dev = s.dev := rfl
@[simp] theorem State.setHr_fab (s : State) (v : Hr) : (s.setHr v).fab = s.fab := rfl
@[simp] theorem State.setHr_erA (s : State) (v : Hr) : (s.setHr v).erA = s.erA := rfl
@[simp] theorem State.setHr_erB (s : State) (v : Hr) : (s.setHr v).erB = s.erB := rfl
@[simp] theorem State.setHr_pair (s : State) (v : Hr) : (s.setHr v).pair = s.pair := rfl
@[simp] theorem State.setHr_health (s : State) (v : Hr) : (s.setHr v).health = s.health := rfl
@[simp] theorem State.setHr_ir (s : State) (v : Hr) : (s.setHr v).ir = s.ir := rfl
@[simp] theorem State.setHr_chans (s : State) (v : Hr) : (s.setHr v).chans = s.chans := rfl
@[simp] theorem State.setHr_net (s : State) (v : Hr) : (s.setHr v).net = s.net := rfl
@[simp] theorem State.setHr_evc (s : State) (v : Hr) : (s.setHr v).evc = s.evc := rfl
@[simp] theorem State.setHr_recd (s : State) (v : Hr) : (s.setHr v).recd = s.recd := rfl
@[simp] theorem State.setHr_sec (s : State) (v : Hr) : (s.setHr v).sec = s.sec := rfl
@[simp] theorem State.setHr_img (s : State) (v : Hr) : (s.setHr v).img = s.img := rfl
@[simp] theorem State.setHr_hr (s : State) (v : Hr) : (s.setHr v).hr = v := rfl
@[simp] theorem State.setHr_region (s : State) (v : Hr) (er : Er) : (s.setHr v).region er = s.region er := rfl
@[simp] theorem State.setHr_chan (s : State) (v : Hr) (c : Nat) : (s.setHr v).chan c = s.chan c := rfl
@[simp] theorem State.setHr_port (s : State) (v : Hr) (p : Port) : (s.setHr v).port p = s.port p := rfl
@[simp] theorem State.setHr_block (s : State) (v : Hr) (b : Nat) : (s.setHr v).block b = s.block b := rfl
@[simp] theorem State.setHr_target (s : State) (v : Hr) (t : Target) : (s.setHr v).target t = s.target t := rfl
@[simp] theorem State.setHr_regState (s : State) (v : Hr) (er : Er) : (s.setHr v).regState er = s.regState er := rfl
@[simp] theorem State.setHr_serving (s : State) (v : Hr) (er : Er) : (s.setHr v).serving er = s.serving er := rfl
@[simp] theorem State.setHr_duplex (s : State) (v : Hr) : (s.setHr v).duplex = s.duplex := rfl
@[simp] theorem State.setHr_powered (s : State) (v : Hr) : (s.setHr v).powered = s.powered := rfl
@[simp] theorem State.setHr_nowTick (s : State) (v : Hr) : (s.setHr v).nowTick = s.nowTick := rfl
@[simp] theorem State.setHr_tick32 (s : State) (v : Hr) : (s.setHr v).tick32 = s.tick32 := rfl

/-! `setRegion` -/

@[simp] theorem State.setRegion_pending (s : State) (er : Er) (v : Region) : (s.setRegion er v).pending = s.pending := by cases er <;> rfl
@[simp] theorem State.setRegion_free (s : State) (er : Er) (v : Region) : (s.setRegion er v).free = s.free := by cases er <;> rfl
@[simp] theorem State.setRegion_time (s : State) (er : Er) (v : Region) : (s.setRegion er v).time = s.time := by cases er <;> rfl
@[simp] theorem State.setRegion_dev (s : State) (er : Er) (v : Region) : (s.setRegion er v).dev = s.dev := by cases er <;> rfl
@[simp] theorem State.setRegion_fab (s : State) (er : Er) (v : Region) : (s.setRegion er v).fab = s.fab := by cases er <;> rfl
@[simp] theorem State.setRegion_pair (s : State) (er : Er) (v : Region) : (s.setRegion er v).pair = s.pair := by cases er <;> rfl
@[simp] theorem State.setRegion_health (s : State) (er : Er) (v : Region) : (s.setRegion er v).health = s.health := by cases er <;> rfl
@[simp] theorem State.setRegion_ir (s : State) (er : Er) (v : Region) : (s.setRegion er v).ir = s.ir := by cases er <;> rfl
@[simp] theorem State.setRegion_chans (s : State) (er : Er) (v : Region) : (s.setRegion er v).chans = s.chans := by cases er <;> rfl
@[simp] theorem State.setRegion_net (s : State) (er : Er) (v : Region) : (s.setRegion er v).net = s.net := by cases er <;> rfl
@[simp] theorem State.setRegion_evc (s : State) (er : Er) (v : Region) : (s.setRegion er v).evc = s.evc := by cases er <;> rfl
@[simp] theorem State.setRegion_recd (s : State) (er : Er) (v : Region) : (s.setRegion er v).recd = s.recd := by cases er <;> rfl
@[simp] theorem State.setRegion_sec (s : State) (er : Er) (v : Region) : (s.setRegion er v).sec = s.sec := by cases er <;> rfl
@[simp] theorem State.setRegion_img (s : State) (er : Er) (v : Region) : (s.setRegion er v).img = s.img := by cases er <;> rfl
@[simp] theorem State.setRegion_hr (s : State) (er : Er) (v : Region) : (s.setRegion er v).hr = s.hr := by cases er <;> rfl
@[simp] theorem State.setRegion_chan (s : State) (er : Er) (v : Region) (c : Nat) : (s.setRegion er v).chan c = s.chan c := by cases er <;> rfl
@[simp] theorem State.setRegion_port (s : State) (er : Er) (v : Region) (p' : Port) : (s.setRegion er v).port p' = s.port p' := by cases er <;> rfl
@[simp] theorem State.setRegion_page (s : State) (er : Er) (v : Region) (p' : BitVec 7) : (s.setRegion er v).page p' = s.page p' := by cases er <;> rfl
@[simp] theorem State.setRegion_block (s : State) (er : Er) (v : Region) (b : Nat) : (s.setRegion er v).block b = s.block b := by cases er <;> rfl
@[simp] theorem State.setRegion_target (s : State) (er : Er) (v : Region) (t' : Target) : (s.setRegion er v).target t' = s.target t' := by cases er <;> rfl
@[simp] theorem State.setRegion_regState (s : State) (er : Er) (v : Region) (e' : Er) : (s.setRegion er v).regState e' = s.regState e' := by cases er <;> rfl
@[simp] theorem State.setRegion_serving (s : State) (er : Er) (v : Region) (e' : Er) : (s.setRegion er v).serving e' = s.serving e' := by cases er <;> rfl
@[simp] theorem State.setRegion_duplex (s : State) (er : Er) (v : Region) : (s.setRegion er v).duplex = s.duplex := by cases er <;> rfl
@[simp] theorem State.setRegion_powered (s : State) (er : Er) (v : Region) : (s.setRegion er v).powered = s.powered := by cases er <;> rfl
@[simp] theorem State.setRegion_nowTick (s : State) (er : Er) (v : Region) : (s.setRegion er v).nowTick = s.nowTick := by cases er <;> rfl
@[simp] theorem State.setRegion_tick32 (s : State) (er : Er) (v : Region) : (s.setRegion er v).tick32 = s.tick32 := by cases er <;> rfl

/-! `setRegState` -/

@[simp] theorem State.setRegState_pending (s : State) (er : Er) (v : RegState) : (s.setRegState er v).pending = s.pending := by cases er <;> rfl
@[simp] theorem State.setRegState_free (s : State) (er : Er) (v : RegState) : (s.setRegState er v).free = s.free := by cases er <;> rfl
@[simp] theorem State.setRegState_time (s : State) (er : Er) (v : RegState) : (s.setRegState er v).time = s.time := by cases er <;> rfl
@[simp] theorem State.setRegState_dev (s : State) (er : Er) (v : RegState) : (s.setRegState er v).dev = s.dev := by cases er <;> rfl
@[simp] theorem State.setRegState_fab (s : State) (er : Er) (v : RegState) : (s.setRegState er v).fab = s.fab := by cases er <;> rfl
@[simp] theorem State.setRegState_erA (s : State) (er : Er) (v : RegState) : (s.setRegState er v).erA = s.erA := by cases er <;> rfl
@[simp] theorem State.setRegState_erB (s : State) (er : Er) (v : RegState) : (s.setRegState er v).erB = s.erB := by cases er <;> rfl
@[simp] theorem State.setRegState_health (s : State) (er : Er) (v : RegState) : (s.setRegState er v).health = s.health := by cases er <;> rfl
@[simp] theorem State.setRegState_ir (s : State) (er : Er) (v : RegState) : (s.setRegState er v).ir = s.ir := by cases er <;> rfl
@[simp] theorem State.setRegState_chans (s : State) (er : Er) (v : RegState) : (s.setRegState er v).chans = s.chans := by cases er <;> rfl
@[simp] theorem State.setRegState_net (s : State) (er : Er) (v : RegState) : (s.setRegState er v).net = s.net := by cases er <;> rfl
@[simp] theorem State.setRegState_evc (s : State) (er : Er) (v : RegState) : (s.setRegState er v).evc = s.evc := by cases er <;> rfl
@[simp] theorem State.setRegState_recd (s : State) (er : Er) (v : RegState) : (s.setRegState er v).recd = s.recd := by cases er <;> rfl
@[simp] theorem State.setRegState_sec (s : State) (er : Er) (v : RegState) : (s.setRegState er v).sec = s.sec := by cases er <;> rfl
@[simp] theorem State.setRegState_img (s : State) (er : Er) (v : RegState) : (s.setRegState er v).img = s.img := by cases er <;> rfl
@[simp] theorem State.setRegState_hr (s : State) (er : Er) (v : RegState) : (s.setRegState er v).hr = s.hr := by cases er <;> rfl
@[simp] theorem State.setRegState_region (s : State) (er : Er) (v : RegState) (e' : Er) : (s.setRegState er v).region e' = s.region e' := by cases er <;> rfl
@[simp] theorem State.setRegState_chan (s : State) (er : Er) (v : RegState) (c : Nat) : (s.setRegState er v).chan c = s.chan c := by cases er <;> rfl
@[simp] theorem State.setRegState_port (s : State) (er : Er) (v : RegState) (p' : Port) : (s.setRegState er v).port p' = s.port p' := by cases er <;> rfl
@[simp] theorem State.setRegState_page (s : State) (er : Er) (v : RegState) (p' : BitVec 7) : (s.setRegState er v).page p' = s.page p' := by cases er <;> rfl
@[simp] theorem State.setRegState_block (s : State) (er : Er) (v : RegState) (b : Nat) : (s.setRegState er v).block b = s.block b := by cases er <;> rfl
@[simp] theorem State.setRegState_target (s : State) (er : Er) (v : RegState) (t' : Target) : (s.setRegState er v).target t' = s.target t' := by cases er <;> rfl
@[simp] theorem State.setRegState_powered (s : State) (er : Er) (v : RegState) : (s.setRegState er v).powered = s.powered := by cases er <;> rfl
@[simp] theorem State.setRegState_nowTick (s : State) (er : Er) (v : RegState) : (s.setRegState er v).nowTick = s.nowTick := by cases er <;> rfl
@[simp] theorem State.setRegState_tick32 (s : State) (er : Er) (v : RegState) : (s.setRegState er v).tick32 = s.tick32 := by cases er <;> rfl

/-! `setPort` -/

@[simp] theorem State.setPort_pending (s : State) (p : Port) (v : PortS) : (s.setPort p v).pending = s.pending := by cases p <;> rfl
@[simp] theorem State.setPort_free (s : State) (p : Port) (v : PortS) : (s.setPort p v).free = s.free := by cases p <;> rfl
@[simp] theorem State.setPort_time (s : State) (p : Port) (v : PortS) : (s.setPort p v).time = s.time := by cases p <;> rfl
@[simp] theorem State.setPort_dev (s : State) (p : Port) (v : PortS) : (s.setPort p v).dev = s.dev := by cases p <;> rfl
@[simp] theorem State.setPort_fab (s : State) (p : Port) (v : PortS) : (s.setPort p v).fab = s.fab := by cases p <;> rfl
@[simp] theorem State.setPort_erA (s : State) (p : Port) (v : PortS) : (s.setPort p v).erA = s.erA := by cases p <;> rfl
@[simp] theorem State.setPort_erB (s : State) (p : Port) (v : PortS) : (s.setPort p v).erB = s.erB := by cases p <;> rfl
@[simp] theorem State.setPort_pair (s : State) (p : Port) (v : PortS) : (s.setPort p v).pair = s.pair := by cases p <;> rfl
@[simp] theorem State.setPort_health (s : State) (p : Port) (v : PortS) : (s.setPort p v).health = s.health := by cases p <;> rfl
@[simp] theorem State.setPort_ir (s : State) (p : Port) (v : PortS) : (s.setPort p v).ir = s.ir := by cases p <;> rfl
@[simp] theorem State.setPort_chans (s : State) (p : Port) (v : PortS) : (s.setPort p v).chans = s.chans := by cases p <;> rfl
@[simp] theorem State.setPort_evc (s : State) (p : Port) (v : PortS) : (s.setPort p v).evc = s.evc := by cases p <;> rfl
@[simp] theorem State.setPort_recd (s : State) (p : Port) (v : PortS) : (s.setPort p v).recd = s.recd := by cases p <;> rfl
@[simp] theorem State.setPort_sec (s : State) (p : Port) (v : PortS) : (s.setPort p v).sec = s.sec := by cases p <;> rfl
@[simp] theorem State.setPort_img (s : State) (p : Port) (v : PortS) : (s.setPort p v).img = s.img := by cases p <;> rfl
@[simp] theorem State.setPort_hr (s : State) (p : Port) (v : PortS) : (s.setPort p v).hr = s.hr := by cases p <;> rfl
@[simp] theorem State.setPort_region (s : State) (p : Port) (v : PortS) (e' : Er) : (s.setPort p v).region e' = s.region e' := by cases p <;> rfl
@[simp] theorem State.setPort_chan (s : State) (p : Port) (v : PortS) (c : Nat) : (s.setPort p v).chan c = s.chan c := by cases p <;> rfl
@[simp] theorem State.setPort_page (s : State) (p : Port) (v : PortS) (p' : BitVec 7) : (s.setPort p v).page p' = s.page p' := by cases p <;> rfl
@[simp] theorem State.setPort_block (s : State) (p : Port) (v : PortS) (b : Nat) : (s.setPort p v).block b = s.block b := by cases p <;> rfl
@[simp] theorem State.setPort_target (s : State) (p : Port) (v : PortS) (t' : Target) : (s.setPort p v).target t' = s.target t' := by cases p <;> rfl
@[simp] theorem State.setPort_regState (s : State) (p : Port) (v : PortS) (e' : Er) : (s.setPort p v).regState e' = s.regState e' := by cases p <;> rfl
@[simp] theorem State.setPort_serving (s : State) (p : Port) (v : PortS) (e' : Er) : (s.setPort p v).serving e' = s.serving e' := by cases p <;> rfl
@[simp] theorem State.setPort_duplex (s : State) (p : Port) (v : PortS) : (s.setPort p v).duplex = s.duplex := by cases p <;> rfl
@[simp] theorem State.setPort_powered (s : State) (p : Port) (v : PortS) : (s.setPort p v).powered = s.powered := by cases p <;> rfl
@[simp] theorem State.setPort_nowTick (s : State) (p : Port) (v : PortS) : (s.setPort p v).nowTick = s.nowTick := by cases p <;> rfl
@[simp] theorem State.setPort_tick32 (s : State) (p : Port) (v : PortS) : (s.setPort p v).tick32 = s.tick32 := by cases p <;> rfl

/-! `setTarget` -/

@[simp] theorem State.setTarget_pending (s : State) (x : Target) (v : Evc) : (s.setTarget x v).pending = s.pending := by cases x <;> rfl
@[simp] theorem State.setTarget_free (s : State) (x : Target) (v : Evc) : (s.setTarget x v).free = s.free := by cases x <;> rfl
@[simp] theorem State.setTarget_time (s : State) (x : Target) (v : Evc) : (s.setTarget x v).time = s.time := by cases x <;> rfl
@[simp] theorem State.setTarget_dev (s : State) (x : Target) (v : Evc) : (s.setTarget x v).dev = s.dev := by cases x <;> rfl
@[simp] theorem State.setTarget_fab (s : State) (x : Target) (v : Evc) : (s.setTarget x v).fab = s.fab := by cases x <;> rfl
@[simp] theorem State.setTarget_erA (s : State) (x : Target) (v : Evc) : (s.setTarget x v).erA = s.erA := by cases x <;> rfl
@[simp] theorem State.setTarget_erB (s : State) (x : Target) (v : Evc) : (s.setTarget x v).erB = s.erB := by cases x <;> rfl
@[simp] theorem State.setTarget_pair (s : State) (x : Target) (v : Evc) : (s.setTarget x v).pair = s.pair := by cases x <;> rfl
@[simp] theorem State.setTarget_health (s : State) (x : Target) (v : Evc) : (s.setTarget x v).health = s.health := by cases x <;> rfl
@[simp] theorem State.setTarget_ir (s : State) (x : Target) (v : Evc) : (s.setTarget x v).ir = s.ir := by cases x <;> rfl
@[simp] theorem State.setTarget_chans (s : State) (x : Target) (v : Evc) : (s.setTarget x v).chans = s.chans := by cases x <;> rfl
@[simp] theorem State.setTarget_net (s : State) (x : Target) (v : Evc) : (s.setTarget x v).net = s.net := by cases x <;> rfl
@[simp] theorem State.setTarget_recd (s : State) (x : Target) (v : Evc) : (s.setTarget x v).recd = s.recd := by cases x <;> rfl
@[simp] theorem State.setTarget_sec (s : State) (x : Target) (v : Evc) : (s.setTarget x v).sec = s.sec := by cases x <;> rfl
@[simp] theorem State.setTarget_img (s : State) (x : Target) (v : Evc) : (s.setTarget x v).img = s.img := by cases x <;> rfl
@[simp] theorem State.setTarget_hr (s : State) (x : Target) (v : Evc) : (s.setTarget x v).hr = s.hr := by cases x <;> rfl
@[simp] theorem State.setTarget_region (s : State) (x : Target) (v : Evc) (e' : Er) : (s.setTarget x v).region e' = s.region e' := by cases x <;> rfl
@[simp] theorem State.setTarget_chan (s : State) (x : Target) (v : Evc) (c : Nat) : (s.setTarget x v).chan c = s.chan c := by cases x <;> rfl
@[simp] theorem State.setTarget_port (s : State) (x : Target) (v : Evc) (p' : Port) : (s.setTarget x v).port p' = s.port p' := by cases x <;> rfl
@[simp] theorem State.setTarget_page (s : State) (x : Target) (v : Evc) (p' : BitVec 7) : (s.setTarget x v).page p' = s.page p' := by cases x <;> rfl
@[simp] theorem State.setTarget_block (s : State) (x : Target) (v : Evc) (b : Nat) : (s.setTarget x v).block b = s.block b := by cases x <;> rfl
@[simp] theorem State.setTarget_regState (s : State) (x : Target) (v : Evc) (e' : Er) : (s.setTarget x v).regState e' = s.regState e' := by cases x <;> rfl
@[simp] theorem State.setTarget_serving (s : State) (x : Target) (v : Evc) (e' : Er) : (s.setTarget x v).serving e' = s.serving e' := by cases x <;> rfl
@[simp] theorem State.setTarget_duplex (s : State) (x : Target) (v : Evc) : (s.setTarget x v).duplex = s.duplex := by cases x <;> rfl
@[simp] theorem State.setTarget_powered (s : State) (x : Target) (v : Evc) : (s.setTarget x v).powered = s.powered := by cases x <;> rfl
@[simp] theorem State.setTarget_nowTick (s : State) (x : Target) (v : Evc) : (s.setTarget x v).nowTick = s.nowTick := by cases x <;> rfl
@[simp] theorem State.setTarget_tick32 (s : State) (x : Target) (v : Evc) : (s.setTarget x v).tick32 = s.tick32 := by cases x <;> rfl

/-! `setChan` -/

@[simp] theorem State.setChan_pending (s : State) (n : Nat) (v : Channel) : (s.setChan n v).pending = s.pending := rfl
@[simp] theorem State.setChan_free (s : State) (n : Nat) (v : Channel) : (s.setChan n v).free = s.free := rfl
@[simp] theorem State.setChan_time (s : State) (n : Nat) (v : Channel) : (s.setChan n v).time = s.time := rfl
@[simp] theorem State.setChan_dev (s : State) (n : Nat) (v : Channel) : (s.setChan n v).dev = s.dev := rfl
@[simp] theorem State.setChan_fab (s : State) (n : Nat) (v : Channel) : (s.setChan n v).fab = s.fab := rfl
@[simp] theorem State.setChan_erA (s : State) (n : Nat) (v : Channel) : (s.setChan n v).erA = s.erA := rfl
@[simp] theorem State.setChan_erB (s : State) (n : Nat) (v : Channel) : (s.setChan n v).erB = s.erB := rfl
@[simp] theorem State.setChan_pair (s : State) (n : Nat) (v : Channel) : (s.setChan n v).pair = s.pair := rfl
@[simp] theorem State.setChan_health (s : State) (n : Nat) (v : Channel) : (s.setChan n v).health = s.health := rfl
@[simp] theorem State.setChan_ir (s : State) (n : Nat) (v : Channel) : (s.setChan n v).ir = s.ir := rfl
@[simp] theorem State.setChan_net (s : State) (n : Nat) (v : Channel) : (s.setChan n v).net = s.net := rfl
@[simp] theorem State.setChan_evc (s : State) (n : Nat) (v : Channel) : (s.setChan n v).evc = s.evc := rfl
@[simp] theorem State.setChan_recd (s : State) (n : Nat) (v : Channel) : (s.setChan n v).recd = s.recd := rfl
@[simp] theorem State.setChan_sec (s : State) (n : Nat) (v : Channel) : (s.setChan n v).sec = s.sec := rfl
@[simp] theorem State.setChan_img (s : State) (n : Nat) (v : Channel) : (s.setChan n v).img = s.img := rfl
@[simp] theorem State.setChan_hr (s : State) (n : Nat) (v : Channel) : (s.setChan n v).hr = s.hr := rfl
@[simp] theorem State.setChan_region (s : State) (n : Nat) (v : Channel) (e' : Er) : (s.setChan n v).region e' = s.region e' := rfl
@[simp] theorem State.setChan_port (s : State) (n : Nat) (v : Channel) (p' : Port) : (s.setChan n v).port p' = s.port p' := rfl
@[simp] theorem State.setChan_page (s : State) (n : Nat) (v : Channel) (p' : BitVec 7) : (s.setChan n v).page p' = s.page p' := rfl
@[simp] theorem State.setChan_block (s : State) (n : Nat) (v : Channel) (b : Nat) : (s.setChan n v).block b = s.block b := rfl
@[simp] theorem State.setChan_target (s : State) (n : Nat) (v : Channel) (t' : Target) : (s.setChan n v).target t' = s.target t' := rfl
@[simp] theorem State.setChan_regState (s : State) (n : Nat) (v : Channel) (e' : Er) : (s.setChan n v).regState e' = s.regState e' := rfl
@[simp] theorem State.setChan_serving (s : State) (n : Nat) (v : Channel) (e' : Er) : (s.setChan n v).serving e' = s.serving e' := rfl
@[simp] theorem State.setChan_duplex (s : State) (n : Nat) (v : Channel) : (s.setChan n v).duplex = s.duplex := rfl
@[simp] theorem State.setChan_powered (s : State) (n : Nat) (v : Channel) : (s.setChan n v).powered = s.powered := rfl
@[simp] theorem State.setChan_nowTick (s : State) (n : Nat) (v : Channel) : (s.setChan n v).nowTick = s.nowTick := rfl
@[simp] theorem State.setChan_tick32 (s : State) (n : Nat) (v : Channel) : (s.setChan n v).tick32 = s.tick32 := rfl

/-! `setPage` -/

@[simp] theorem State.setPage_pending (s : State) (q : BitVec 7) (v : Page) : (s.setPage q v).pending = s.pending := rfl
@[simp] theorem State.setPage_free (s : State) (q : BitVec 7) (v : Page) : (s.setPage q v).free = s.free := rfl
@[simp] theorem State.setPage_time (s : State) (q : BitVec 7) (v : Page) : (s.setPage q v).time = s.time := rfl
@[simp] theorem State.setPage_dev (s : State) (q : BitVec 7) (v : Page) : (s.setPage q v).dev = s.dev := rfl
@[simp] theorem State.setPage_fab (s : State) (q : BitVec 7) (v : Page) : (s.setPage q v).fab = s.fab := rfl
@[simp] theorem State.setPage_erA (s : State) (q : BitVec 7) (v : Page) : (s.setPage q v).erA = s.erA := rfl
@[simp] theorem State.setPage_erB (s : State) (q : BitVec 7) (v : Page) : (s.setPage q v).erB = s.erB := rfl
@[simp] theorem State.setPage_pair (s : State) (q : BitVec 7) (v : Page) : (s.setPage q v).pair = s.pair := rfl
@[simp] theorem State.setPage_health (s : State) (q : BitVec 7) (v : Page) : (s.setPage q v).health = s.health := rfl
@[simp] theorem State.setPage_ir (s : State) (q : BitVec 7) (v : Page) : (s.setPage q v).ir = s.ir := rfl
@[simp] theorem State.setPage_chans (s : State) (q : BitVec 7) (v : Page) : (s.setPage q v).chans = s.chans := rfl
@[simp] theorem State.setPage_net (s : State) (q : BitVec 7) (v : Page) : (s.setPage q v).net = s.net := rfl
@[simp] theorem State.setPage_evc (s : State) (q : BitVec 7) (v : Page) : (s.setPage q v).evc = s.evc := rfl
@[simp] theorem State.setPage_recd (s : State) (q : BitVec 7) (v : Page) : (s.setPage q v).recd = s.recd := rfl
@[simp] theorem State.setPage_sec (s : State) (q : BitVec 7) (v : Page) : (s.setPage q v).sec = s.sec := rfl
@[simp] theorem State.setPage_img (s : State) (q : BitVec 7) (v : Page) : (s.setPage q v).img = s.img := rfl
@[simp] theorem State.setPage_region (s : State) (q : BitVec 7) (v : Page) (e' : Er) : (s.setPage q v).region e' = s.region e' := rfl
@[simp] theorem State.setPage_chan (s : State) (q : BitVec 7) (v : Page) (c : Nat) : (s.setPage q v).chan c = s.chan c := rfl
@[simp] theorem State.setPage_port (s : State) (q : BitVec 7) (v : Page) (p' : Port) : (s.setPage q v).port p' = s.port p' := rfl
@[simp] theorem State.setPage_block (s : State) (q : BitVec 7) (v : Page) (b : Nat) : (s.setPage q v).block b = s.block b := rfl
@[simp] theorem State.setPage_target (s : State) (q : BitVec 7) (v : Page) (t' : Target) : (s.setPage q v).target t' = s.target t' := rfl
@[simp] theorem State.setPage_regState (s : State) (q : BitVec 7) (v : Page) (e' : Er) : (s.setPage q v).regState e' = s.regState e' := rfl
@[simp] theorem State.setPage_serving (s : State) (q : BitVec 7) (v : Page) (e' : Er) : (s.setPage q v).serving e' = s.serving e' := rfl
@[simp] theorem State.setPage_duplex (s : State) (q : BitVec 7) (v : Page) : (s.setPage q v).duplex = s.duplex := rfl
@[simp] theorem State.setPage_powered (s : State) (q : BitVec 7) (v : Page) : (s.setPage q v).powered = s.powered := rfl
@[simp] theorem State.setPage_nowTick (s : State) (q : BitVec 7) (v : Page) : (s.setPage q v).nowTick = s.nowTick := rfl
@[simp] theorem State.setPage_tick32 (s : State) (q : BitVec 7) (v : Page) : (s.setPage q v).tick32 = s.tick32 := rfl

/-! `setBlock` -/

@[simp] theorem State.setBlock_pending (s : State) (n : Nat) (v : Block) : (s.setBlock n v).pending = s.pending := rfl
@[simp] theorem State.setBlock_free (s : State) (n : Nat) (v : Block) : (s.setBlock n v).free = s.free := rfl
@[simp] theorem State.setBlock_time (s : State) (n : Nat) (v : Block) : (s.setBlock n v).time = s.time := rfl
@[simp] theorem State.setBlock_dev (s : State) (n : Nat) (v : Block) : (s.setBlock n v).dev = s.dev := rfl
@[simp] theorem State.setBlock_fab (s : State) (n : Nat) (v : Block) : (s.setBlock n v).fab = s.fab := rfl
@[simp] theorem State.setBlock_erA (s : State) (n : Nat) (v : Block) : (s.setBlock n v).erA = s.erA := rfl
@[simp] theorem State.setBlock_erB (s : State) (n : Nat) (v : Block) : (s.setBlock n v).erB = s.erB := rfl
@[simp] theorem State.setBlock_pair (s : State) (n : Nat) (v : Block) : (s.setBlock n v).pair = s.pair := rfl
@[simp] theorem State.setBlock_ir (s : State) (n : Nat) (v : Block) : (s.setBlock n v).ir = s.ir := rfl
@[simp] theorem State.setBlock_chans (s : State) (n : Nat) (v : Block) : (s.setBlock n v).chans = s.chans := rfl
@[simp] theorem State.setBlock_net (s : State) (n : Nat) (v : Block) : (s.setBlock n v).net = s.net := rfl
@[simp] theorem State.setBlock_evc (s : State) (n : Nat) (v : Block) : (s.setBlock n v).evc = s.evc := rfl
@[simp] theorem State.setBlock_recd (s : State) (n : Nat) (v : Block) : (s.setBlock n v).recd = s.recd := rfl
@[simp] theorem State.setBlock_sec (s : State) (n : Nat) (v : Block) : (s.setBlock n v).sec = s.sec := rfl
@[simp] theorem State.setBlock_img (s : State) (n : Nat) (v : Block) : (s.setBlock n v).img = s.img := rfl
@[simp] theorem State.setBlock_hr (s : State) (n : Nat) (v : Block) : (s.setBlock n v).hr = s.hr := rfl
@[simp] theorem State.setBlock_region (s : State) (n : Nat) (v : Block) (e' : Er) : (s.setBlock n v).region e' = s.region e' := rfl
@[simp] theorem State.setBlock_chan (s : State) (n : Nat) (v : Block) (c : Nat) : (s.setBlock n v).chan c = s.chan c := rfl
@[simp] theorem State.setBlock_port (s : State) (n : Nat) (v : Block) (p' : Port) : (s.setBlock n v).port p' = s.port p' := rfl
@[simp] theorem State.setBlock_page (s : State) (n : Nat) (v : Block) (p' : BitVec 7) : (s.setBlock n v).page p' = s.page p' := rfl
@[simp] theorem State.setBlock_target (s : State) (n : Nat) (v : Block) (t' : Target) : (s.setBlock n v).target t' = s.target t' := rfl
@[simp] theorem State.setBlock_regState (s : State) (n : Nat) (v : Block) (e' : Er) : (s.setBlock n v).regState e' = s.regState e' := rfl
@[simp] theorem State.setBlock_serving (s : State) (n : Nat) (v : Block) (e' : Er) : (s.setBlock n v).serving e' = s.serving e' := rfl
@[simp] theorem State.setBlock_duplex (s : State) (n : Nat) (v : Block) : (s.setBlock n v).duplex = s.duplex := rfl
@[simp] theorem State.setBlock_powered (s : State) (n : Nat) (v : Block) : (s.setBlock n v).powered = s.powered := rfl
@[simp] theorem State.setBlock_nowTick (s : State) (n : Nat) (v : Block) : (s.setBlock n v).nowTick = s.nowTick := rfl
@[simp] theorem State.setBlock_tick32 (s : State) (n : Nat) (v : Block) : (s.setBlock n v).tick32 = s.tick32 := rfl

/-! What the indexed setters write -/

@[simp] theorem State.setRegion_region_self (s : State) (er : Er) (v : Region) : (s.setRegion er v).region er = v := by
  cases er <;> rfl

@[simp] theorem State.setRegion_region_other (s : State) (er : Er) (v : Region) :
    (s.setRegion er v).region (otherEr er) = s.region (otherEr er) := by cases er <;> rfl

@[simp] theorem State.setRegState_regState_self (s : State) (er : Er) (v : RegState) : (s.setRegState er v).regState er = v := by
  cases er <;> rfl

@[simp] theorem State.setRegState_regState_other (s : State) (er : Er) (v : RegState) :
    (s.setRegState er v).regState (otherEr er) = s.regState (otherEr er) := by cases er <;> rfl

@[simp] theorem State.setPort_port_self (s : State) (p : Port) (v : PortS) : (s.setPort p v).port p = v := by cases p <;> rfl

@[simp] theorem State.setTarget_target_self (s : State) (t : Target) (v : Evc) : (s.setTarget t v).target t = v := by
  cases t <;> rfl

theorem State.setTarget_target_other (s : State) {t u : Target} (v : Evc) (h : t ≠ u) :
    (s.setTarget t v).target u = s.target u := by
  cases t <;> cases u <;> first | rfl | exact absurd rfl h

end Sys2Proof.Machine
end

