-- ==== Sys2Proof/Laws/Table.lean ====
section
/-! SUPPORT. Sparse tables and memories: a read after a write, and the canonical form that every write keeps. -/

namespace Sys2Proof.Machine

variable {α : Type}

/-! ### Reading what was written -/

@[simp] theorem look_nil (d : α) (k : Nat) : look d [] k = d := rfl

theorem look_cons (d : α) (j : Nat) (v : α) (m : SMap α) (k : Nat) :
    look d ((j, v) :: m) k = if j = k then v else look d m k := rfl

theorem look_insertKey (d : α) (m : SMap α) (k j : Nat) (v : α) :
    look d (insertKey m k v) j = if k = j then v else look d m j := by
  induction m with
  | nil => simp [insertKey, look_cons]
  | cons c m ih =>
    obtain ⟨i, w⟩ := c
    simp only [insertKey]
    split
    · simp [look_cons]
    · split
      · rename_i h; subst h; by_cases hj : k = j <;> simp [look_cons, hj]
      · rename_i h h'
        simp only [look_cons, ih]
        by_cases hi : i = j
        · have : k ≠ j := fun e => h' (e.trans hi.symm)
          simp [hi, this]
        · simp [hi]

theorem look_dropKey_other (d : α) (m : SMap α) {k j : Nat} (h : k ≠ j) : look d (dropKey m k) j = look d m j := by
  induction m with
  | nil => rfl
  | cons c m ih =>
    obtain ⟨i, w⟩ := c
    simp only [dropKey]
    split
    · rename_i e; subst e; simp [look_cons, h]
    · simp [look_cons, ih]

/-! ### The canonical form -/

variable [DecidableEq α]

/-- A table whose keys lie above `lo` reads as the default at `lo` and below. -/
theorem look_below (d : α) (m : SMap α) {lo k : Nat} (h : wfFrom d (some lo) m = true) (hk : k ≤ lo) : look d m k = d := by
  induction m generalizing lo with
  | nil => rfl
  | cons c m ih =>
    obtain ⟨i, w⟩ := c
    simp only [wfFrom, Bool.and_eq_true, decide_eq_true_eq] at h
    have hi : ¬ i = k := by omega
    simp only [look_cons, hi, if_false]
    exact ih h.2 (by omega)

theorem wfFrom_weaken (d : α) (m : SMap α) {l l' : Nat} (h : wfFrom d (some l) m = true) (hl : l' ≤ l) :
    wfFrom d (some l') m = true := by
  cases m with
  | nil => rfl
  | cons c m =>
    obtain ⟨i, w⟩ := c
    simp only [wfFrom, Bool.and_eq_true, decide_eq_true_eq] at h ⊢
    exact ⟨⟨by omega, h.1.2⟩, h.2⟩

theorem wfFrom_none_of_some (d : α) (m : SMap α) {l : Nat} (h : wfFrom d (some l) m = true) : wfFrom d none m = true := by
  cases m with
  | nil => rfl
  | cons c m =>
    obtain ⟨i, w⟩ := c
    simp only [wfFrom, Bool.and_eq_true, decide_eq_true_eq] at h ⊢
    exact ⟨⟨trivial, h.1.2⟩, h.2⟩

/-- In canonical form, a removed key reads as the default. -/
theorem look_dropKey_self (d : α) (m : SMap α) (k : Nat) {lo : Option Nat} (h : wfFrom d lo m = true) :
    look d (dropKey m k) k = d := by
  induction m generalizing lo with
  | nil => rfl
  | cons c m ih =>
    obtain ⟨i, w⟩ := c
    simp only [wfFrom, Bool.and_eq_true, decide_eq_true_eq] at h
    simp only [dropKey]
    split
    · rename_i e; subst e; exact look_below d m h.2 (Nat.le_refl _)
    · rename_i e; simp [look_cons, e, ih h.2]

theorem wfFrom_insertKey (d : α) (m : SMap α) (k : Nat) (v : α) (hv : v ≠ d) {lo : Option Nat}
    (h : wfFrom d lo m = true) (hk : ∀ l, lo = some l → l < k) : wfFrom d lo (insertKey m k v) = true := by
  induction m generalizing lo with
  | nil => cases lo <;> simp_all [insertKey, wfFrom]
  | cons c m ih =>
    obtain ⟨i, w⟩ := c
    simp only [wfFrom, Bool.and_eq_true, decide_eq_true_eq] at h
    obtain ⟨⟨hlo, hw⟩, hm⟩ := h
    simp only [insertKey]
    split
    · cases lo <;> simp_all [wfFrom]
    · split
      · rename_i _ e; subst e; cases lo <;> simp_all [wfFrom]
      · have hik : ∀ l, some i = some l → l < k := by intro l e; cases e; omega
        have := ih hm hik
        cases lo <;> simp_all [wfFrom]

theorem wfFrom_dropKey (d : α) (m : SMap α) (k : Nat) {lo : Option Nat} (h : wfFrom d lo m = true) :
    wfFrom d lo (dropKey m k) = true := by
  induction m generalizing lo with
  | nil => rfl
  | cons c m ih =>
    obtain ⟨i, w⟩ := c
    simp only [wfFrom, Bool.and_eq_true, decide_eq_true_eq] at h
    obtain ⟨⟨hlo, hw⟩, hm⟩ := h
    simp only [dropKey]
    split
    · cases lo with
      | none => exact wfFrom_none_of_some d m hm
      | some l => exact wfFrom_weaken d m hm (Nat.le_of_lt (by simpa using hlo))
    · cases lo <;> simp_all [wfFrom]

/-- Every write keeps the canonical form. -/
theorem put_wf (d : α) (m : SMap α) (k : Nat) (v : α) (h : tableWf d m = true) : tableWf d (put d m k v) = true := by
  unfold put
  split
  · exact wfFrom_dropKey d m k h
  · rename_i hv; exact wfFrom_insertKey d m k v hv h (by intro l e; cases e)

/-- A key reads as it was last written. -/
theorem look_put_self (d : α) (m : SMap α) (k : Nat) (v : α) (h : tableWf d m = true) : look d (put d m k v) k = v := by
  unfold put
  split
  · rename_i e; subst e; exact look_dropKey_self v m k h
  · simp [look_insertKey]

/-- Writing a value other than the default is read back in any table. -/
theorem look_put_ne_default (d : α) (m : SMap α) (k : Nat) {v : α} (h : v ≠ d) : look d (put d m k v) k = v := by
  simp [put, h, look_insertKey]

/-- Every other key reads as before. -/
theorem look_put_other (d : α) (m : SMap α) {k j : Nat} (v : α) (h : k ≠ j) : look d (put d m k v) j = look d m j := by
  unfold put
  split
  · exact look_dropKey_other d m h
  · simp [look_insertKey, h]

theorem putAll_wf (d : α) (vs : List α) (m : SMap α) (k : Nat) (h : tableWf d m = true) :
    tableWf d (putAll d m k vs) = true := by
  induction vs generalizing m k with
  | nil => exact h
  | cons v vs ih => exact ih _ _ (put_wf d m k v h)

/-- Outside the keys written, a table reads as before. -/
theorem look_putAll_outside (d : α) (vs : List α) (m : SMap α) (k j : Nat) (h : j < k ∨ k + vs.length ≤ j) :
    look d (putAll d m k vs) j = look d m j := by
  induction vs generalizing m k with
  | nil => rfl
  | cons v vs ih =>
    simp only [List.length_cons] at h
    rw [putAll, ih _ _ (by omega), look_put_other d m v (by omega)]

/-- Within the keys written, a table reads as written. -/
theorem look_putAll_inside (d : α) (vs : List α) (m : SMap α) (k i : Nat) (hm : tableWf d m = true) (h : i < vs.length) :
    look d (putAll d m k vs) (k + i) = vs[i] := by
  induction vs generalizing m k i with
  | nil => cases h
  | cons v vs ih =>
    have hw := put_wf d m k v hm
    cases i with
    | zero => rw [putAll, look_putAll_outside d vs _ _ _ (by omega)]; exact look_put_self d m k v hm
    | succ i =>
      have := ih (put d m k v) (k + 1) i hw (by simpa using h)
      simpa [putAll, Nat.add_assoc, Nat.add_comm 1 i] using this

/-! ### Memories -/

theorem Mem.write_wf (m : Mem) (a : Nat) (b : Byte) (h : m.wf = true) : (m.write a b).wf = true := put_wf 0 m a b h

theorem Mem.writeBytes_wf (m : Mem) (a : Nat) (bs : Bytes) (h : m.wf = true) : (m.writeBytes a bs).wf = true :=
  putAll_wf 0 bs m a h

theorem Mem.read_write_self (m : Mem) (a : Nat) (b : Byte) (h : m.wf = true) : (m.write a b).read a = b :=
  look_put_self 0 m a b h

theorem Mem.read_write_other (m : Mem) {a c : Nat} (b : Byte) (h : a ≠ c) : (m.write a b).read c = m.read c :=
  look_put_other 0 m b h

theorem Mem.read_writeBytes_outside (m : Mem) (a : Nat) (bs : Bytes) (c : Nat) (h : c < a ∨ a + bs.length ≤ c) :
    (m.writeBytes a bs).read c = m.read c := look_putAll_outside 0 bs m a c h

theorem Mem.read_writeBytes_inside (m : Mem) (a : Nat) (bs : Bytes) (i : Nat) (hm : m.wf = true) (h : i < bs.length) :
    (m.writeBytes a bs).read (a + i) = bs[i] := look_putAll_inside 0 bs m a i hm h

end Sys2Proof.Machine
end

