-- ==== Sys2Proof/Laws/Ops.lean ====
section
/-! SUPPORT. What the shared operations of Ops leave, and what they answer. -/

namespace Sys2Proof.Machine

/-! `raiseBy` changes nothing but evc. -/

@[simp] theorem raiseBy_pending (s : State) (n k : Nat) : (raiseBy s n k).pending = s.pending := rfl
@[simp] theorem raiseBy_free (s : State) (n k : Nat) : (raiseBy s n k).free = s.free := rfl
@[simp] theorem raiseBy_time (s : State) (n k : Nat) : (raiseBy s n k).time = s.time := rfl
@[simp] theorem raiseBy_dev (s : State) (n k : Nat) : (raiseBy s n k).dev = s.dev := rfl
@[simp] theorem raiseBy_fab (s : State) (n k : Nat) : (raiseBy s n k).fab = s.fab := rfl
@[simp] theorem raiseBy_erA (s : State) (n k : Nat) : (raiseBy s n k).erA = s.erA := rfl
@[simp] theorem raiseBy_erB (s : State) (n k : Nat) : (raiseBy s n k).erB = s.erB := rfl
@[simp] theorem raiseBy_pair (s : State) (n k : Nat) : (raiseBy s n k).pair = s.pair := rfl
@[simp] theorem raiseBy_health (s : State) (n k : Nat) : (raiseBy s n k).health = s.health := rfl
@[simp] theorem raiseBy_ir (s : State) (n k : Nat) : (raiseBy s n k).ir = s.ir := rfl
@[simp] theorem raiseBy_chans (s : State) (n k : Nat) : (raiseBy s n k).chans = s.chans := rfl
@[simp] theorem raiseBy_net (s : State) (n k : Nat) : (raiseBy s n k).net = s.net := rfl
@[simp] theorem raiseBy_recd (s : State) (n k : Nat) : (raiseBy s n k).recd = s.recd := rfl
@[simp] theorem raiseBy_sec (s : State) (n k : Nat) : (raiseBy s n k).sec = s.sec := rfl
@[simp] theorem raiseBy_img (s : State) (n k : Nat) : (raiseBy s n k).img = s.img := rfl
@[simp] theorem raiseBy_hr (s : State) (n k : Nat) : (raiseBy s n k).hr = s.hr := rfl
@[simp] theorem raiseBy_region (s : State) (n k : Nat) (er : Er) : (raiseBy s n k).region er = s.region er := rfl
@[simp] theorem raiseBy_chan (s : State) (n k : Nat) (c : Nat) : (raiseBy s n k).chan c = s.chan c := rfl
@[simp] theorem raiseBy_port (s : State) (n k : Nat) (q : Port) : (raiseBy s n k).port q = s.port q := rfl
@[simp] theorem raiseBy_page (s : State) (n k : Nat) (q : BitVec 7) : (raiseBy s n k).page q = s.page q := rfl
@[simp] theorem raiseBy_block (s : State) (n k : Nat) (b' : Nat) : (raiseBy s n k).block b' = s.block b' := rfl
@[simp] theorem raiseBy_regState (s : State) (n k : Nat) (er : Er) : (raiseBy s n k).regState er = s.regState er := rfl
@[simp] theorem raiseBy_serving (s : State) (n k : Nat) (er : Er) : (raiseBy s n k).serving er = s.serving er := rfl
@[simp] theorem raiseBy_duplex (s : State) (n k : Nat) : (raiseBy s n k).duplex = s.duplex := rfl
@[simp] theorem raiseBy_powered (s : State) (n k : Nat) : (raiseBy s n k).powered = s.powered := rfl
@[simp] theorem raiseBy_nowTick (s : State) (n k : Nat) : (raiseBy s n k).nowTick = s.nowTick := rfl
@[simp] theorem raiseBy_tick32 (s : State) (n k : Nat) : (raiseBy s n k).tick32 = s.tick32 := rfl

/-! `raise` changes nothing but evc. -/

@[simp] theorem raise_pending (s : State) (n : Nat) : (raise s n).pending = s.pending := rfl
@[simp] theorem raise_free (s : State) (n : Nat) : (raise s n).free = s.free := rfl
@[simp] theorem raise_time (s : State) (n : Nat) : (raise s n).time = s.time := rfl
@[simp] theorem raise_dev (s : State) (n : Nat) : (raise s n).dev = s.dev := rfl
@[simp] theorem raise_fab (s : State) (n : Nat) : (raise s n).fab = s.fab := rfl
@[simp] theorem raise_erA (s : State) (n : Nat) : (raise s n).erA = s.erA := rfl
@[simp] theorem raise_erB (s : State) (n : Nat) : (raise s n).erB = s.erB := rfl
@[simp] theorem raise_pair (s : State) (n : Nat) : (raise s n).pair = s.pair := rfl
@[simp] theorem raise_health (s : State) (n : Nat) : (raise s n).health = s.health := rfl
@[simp] theorem raise_ir (s : State) (n : Nat) : (raise s n).ir = s.ir := rfl
@[simp] theorem raise_chans (s : State) (n : Nat) : (raise s n).chans = s.chans := rfl
@[simp] theorem raise_net (s : State) (n : Nat) : (raise s n).net = s.net := rfl
@[simp] theorem raise_recd (s : State) (n : Nat) : (raise s n).recd = s.recd := rfl
@[simp] theorem raise_sec (s : State) (n : Nat) : (raise s n).sec = s.sec := rfl
@[simp] theorem raise_img (s : State) (n : Nat) : (raise s n).img = s.img := rfl
@[simp] theorem raise_hr (s : State) (n : Nat) : (raise s n).hr = s.hr := rfl
@[simp] theorem raise_region (s : State) (n : Nat) (er : Er) : (raise s n).region er = s.region er := rfl
@[simp] theorem raise_chan (s : State) (n : Nat) (c : Nat) : (raise s n).chan c = s.chan c := rfl
@[simp] theorem raise_port (s : State) (n : Nat) (q : Port) : (raise s n).port q = s.port q := rfl
@[simp] theorem raise_page (s : State) (n : Nat) (q : BitVec 7) : (raise s n).page q = s.page q := rfl
@[simp] theorem raise_block (s : State) (n : Nat) (b' : Nat) : (raise s n).block b' = s.block b' := rfl
@[simp] theorem raise_regState (s : State) (n : Nat) (er : Er) : (raise s n).regState er = s.regState er := rfl
@[simp] theorem raise_serving (s : State) (n : Nat) (er : Er) : (raise s n).serving er = s.serving er := rfl
@[simp] theorem raise_duplex (s : State) (n : Nat) : (raise s n).duplex = s.duplex := rfl
@[simp] theorem raise_powered (s : State) (n : Nat) : (raise s n).powered = s.powered := rfl
@[simp] theorem raise_nowTick (s : State) (n : Nat) : (raise s n).nowTick = s.nowTick := rfl
@[simp] theorem raise_tick32 (s : State) (n : Nat) : (raise s n).tick32 = s.tick32 := rfl

/-! `raiseIf` changes nothing but evc. -/

@[simp] theorem raiseIf_pending (s : State) (b : Bool) (n : Nat) : (raiseIf b n s).pending = s.pending := by cases b <;> rfl
@[simp] theorem raiseIf_free (s : State) (b : Bool) (n : Nat) : (raiseIf b n s).free = s.free := by cases b <;> rfl
@[simp] theorem raiseIf_time (s : State) (b : Bool) (n : Nat) : (raiseIf b n s).time = s.time := by cases b <;> rfl
@[simp] theorem raiseIf_dev (s : State) (b : Bool) (n : Nat) : (raiseIf b n s).dev = s.dev := by cases b <;> rfl
@[simp] theorem raiseIf_fab (s : State) (b : Bool) (n : Nat) : (raiseIf b n s).fab = s.fab := by cases b <;> rfl
@[simp] theorem raiseIf_erA (s : State) (b : Bool) (n : Nat) : (raiseIf b n s).erA = s.erA := by cases b <;> rfl
@[simp] theorem raiseIf_erB (s : State) (b : Bool) (n : Nat) : (raiseIf b n s).erB = s.erB := by cases b <;> rfl
@[simp] theorem raiseIf_pair (s : State) (b : Bool) (n : Nat) : (raiseIf b n s).pair = s.pair := by cases b <;> rfl
@[simp] theorem raiseIf_health (s : State) (b : Bool) (n : Nat) : (raiseIf b n s).health = s.health := by cases b <;> rfl
@[simp] theorem raiseIf_ir (s : State) (b : Bool) (n : Nat) : (raiseIf b n s).ir = s.ir := by cases b <;> rfl
@[simp] theorem raiseIf_chans (s : State) (b : Bool) (n : Nat) : (raiseIf b n s).chans = s.chans := by cases b <;> rfl
@[simp] theorem raiseIf_net (s : State) (b : Bool) (n : Nat) : (raiseIf b n s).net = s.net := by cases b <;> rfl
@[simp] theorem raiseIf_recd (s : State) (b : Bool) (n : Nat) : (raiseIf b n s).recd = s.recd := by cases b <;> rfl
@[simp] theorem raiseIf_sec (s : State) (b : Bool) (n : Nat) : (raiseIf b n s).sec = s.sec := by cases b <;> rfl
@[simp] theorem raiseIf_img (s : State) (b : Bool) (n : Nat) : (raiseIf b n s).img = s.img := by cases b <;> rfl
@[simp] theorem raiseIf_hr (s : State) (b : Bool) (n : Nat) : (raiseIf b n s).hr = s.hr := by cases b <;> rfl
@[simp] theorem raiseIf_region (s : State) (b : Bool) (n : Nat) (er : Er) : (raiseIf b n s).region er = s.region er := by cases b <;> rfl
@[simp] theorem raiseIf_chan (s : State) (b : Bool) (n : Nat) (c : Nat) : (raiseIf b n s).chan c = s.chan c := by cases b <;> rfl
@[simp] theorem raiseIf_port (s : State) (b : Bool) (n : Nat) (q : Port) : (raiseIf b n s).port q = s.port q := by cases b <;> rfl
@[simp] theorem raiseIf_page (s : State) (b : Bool) (n : Nat) (q : BitVec 7) : (raiseIf b n s).page q = s.page q := by cases b <;> rfl
@[simp] theorem raiseIf_block (s : State) (b : Bool) (n : Nat) (b' : Nat) : (raiseIf b n s).block b' = s.block b' := by cases b <;> rfl
@[simp] theorem raiseIf_regState (s : State) (b : Bool) (n : Nat) (er : Er) : (raiseIf b n s).regState er = s.regState er := by cases b <;> rfl
@[simp] theorem raiseIf_serving (s : State) (b : Bool) (n : Nat) (er : Er) : (raiseIf b n s).serving er = s.serving er := by cases b <;> rfl
@[simp] theorem raiseIf_duplex (s : State) (b : Bool) (n : Nat) : (raiseIf b n s).duplex = s.duplex := by cases b <;> rfl
@[simp] theorem raiseIf_powered (s : State) (b : Bool) (n : Nat) : (raiseIf b n s).powered = s.powered := by cases b <;> rfl
@[simp] theorem raiseIf_nowTick (s : State) (b : Bool) (n : Nat) : (raiseIf b n s).nowTick = s.nowTick := by cases b <;> rfl
@[simp] theorem raiseIf_tick32 (s : State) (b : Bool) (n : Nat) : (raiseIf b n s).tick32 = s.tick32 := by cases b <;> rfl

/-! `record` changes nothing but evc and recd. -/

@[simp] theorem record_pending (s : State) (src code : Nat) (p1 p2 p3 : W32) : (record s src code p1 p2 p3).pending = s.pending := by simp [record]
@[simp] theorem record_free (s : State) (src code : Nat) (p1 p2 p3 : W32) : (record s src code p1 p2 p3).free = s.free := by simp [record]
@[simp] theorem record_time (s : State) (src code : Nat) (p1 p2 p3 : W32) : (record s src code p1 p2 p3).time = s.time := by simp [record]
@[simp] theorem record_dev (s : State) (src code : Nat) (p1 p2 p3 : W32) : (record s src code p1 p2 p3).dev = s.dev := by simp [record]
@[simp] theorem record_fab (s : State) (src code : Nat) (p1 p2 p3 : W32) : (record s src code p1 p2 p3).fab = s.fab := by simp [record]
@[simp] theorem record_erA (s : State) (src code : Nat) (p1 p2 p3 : W32) : (record s src code p1 p2 p3).erA = s.erA := by simp [record]
@[simp] theorem record_erB (s : State) (src code : Nat) (p1 p2 p3 : W32) : (record s src code p1 p2 p3).erB = s.erB := by simp [record]
@[simp] theorem record_pair (s : State) (src code : Nat) (p1 p2 p3 : W32) : (record s src code p1 p2 p3).pair = s.pair := by simp [record]
@[simp] theorem record_health (s : State) (src code : Nat) (p1 p2 p3 : W32) : (record s src code p1 p2 p3).health = s.health := by simp [record]
@[simp] theorem record_ir (s : State) (src code : Nat) (p1 p2 p3 : W32) : (record s src code p1 p2 p3).ir = s.ir := by simp [record]
@[simp] theorem record_chans (s : State) (src code : Nat) (p1 p2 p3 : W32) : (record s src code p1 p2 p3).chans = s.chans := by simp [record]
@[simp] theorem record_net (s : State) (src code : Nat) (p1 p2 p3 : W32) : (record s src code p1 p2 p3).net = s.net := by simp [record]
@[simp] theorem record_sec (s : State) (src code : Nat) (p1 p2 p3 : W32) : (record s src code p1 p2 p3).sec = s.sec := by simp [record]
@[simp] theorem record_img (s : State) (src code : Nat) (p1 p2 p3 : W32) : (record s src code p1 p2 p3).img = s.img := by simp [record]
@[simp] theorem record_hr (s : State) (src code : Nat) (p1 p2 p3 : W32) : (record s src code p1 p2 p3).hr = s.hr := by simp [record]
@[simp] theorem record_region (s : State) (src code : Nat) (p1 p2 p3 : W32) (er : Er) : (record s src code p1 p2 p3).region er = s.region er := by simp [record]
@[simp] theorem record_chan (s : State) (src code : Nat) (p1 p2 p3 : W32) (c : Nat) : (record s src code p1 p2 p3).chan c = s.chan c := by simp [record]
@[simp] theorem record_port (s : State) (src code : Nat) (p1 p2 p3 : W32) (q : Port) : (record s src code p1 p2 p3).port q = s.port q := by simp [record]
@[simp] theorem record_page (s : State) (src code : Nat) (p1 p2 p3 : W32) (q : BitVec 7) : (record s src code p1 p2 p3).page q = s.page q := by simp [record]
@[simp] theorem record_block (s : State) (src code : Nat) (p1 p2 p3 : W32) (b' : Nat) : (record s src code p1 p2 p3).block b' = s.block b' := by simp [record]
@[simp] theorem record_regState (s : State) (src code : Nat) (p1 p2 p3 : W32) (er : Er) : (record s src code p1 p2 p3).regState er = s.regState er := by simp [record]
@[simp] theorem record_serving (s : State) (src code : Nat) (p1 p2 p3 : W32) (er : Er) : (record s src code p1 p2 p3).serving er = s.serving er := by simp [record]
@[simp] theorem record_duplex (s : State) (src code : Nat) (p1 p2 p3 : W32) : (record s src code p1 p2 p3).duplex = s.duplex := by simp [record]
@[simp] theorem record_powered (s : State) (src code : Nat) (p1 p2 p3 : W32) : (record s src code p1 p2 p3).powered = s.powered := by simp [record]
@[simp] theorem record_nowTick (s : State) (src code : Nat) (p1 p2 p3 : W32) : (record s src code p1 p2 p3).nowTick = s.nowTick := by simp [record]
@[simp] theorem record_tick32 (s : State) (src code : Nat) (p1 p2 p3 : W32) : (record s src code p1 p2 p3).tick32 = s.tick32 := by simp [record]

/-! `recordN` changes nothing but evc and recd. -/

@[simp] theorem recordN_pending (s : State) (src code p1 p2 p3 : Nat) : (recordN s src code p1 p2 p3).pending = s.pending := by simp [recordN]
@[simp] theorem recordN_free (s : State) (src code p1 p2 p3 : Nat) : (recordN s src code p1 p2 p3).free = s.free := by simp [recordN]
@[simp] theorem recordN_time (s : State) (src code p1 p2 p3 : Nat) : (recordN s src code p1 p2 p3).time = s.time := by simp [recordN]
@[simp] theorem recordN_dev (s : State) (src code p1 p2 p3 : Nat) : (recordN s src code p1 p2 p3).dev = s.dev := by simp [recordN]
@[simp] theorem recordN_fab (s : State) (src code p1 p2 p3 : Nat) : (recordN s src code p1 p2 p3).fab = s.fab := by simp [recordN]
@[simp] theorem recordN_erA (s : State) (src code p1 p2 p3 : Nat) : (recordN s src code p1 p2 p3).erA = s.erA := by simp [recordN]
@[simp] theorem recordN_erB (s : State) (src code p1 p2 p3 : Nat) : (recordN s src code p1 p2 p3).erB = s.erB := by simp [recordN]
@[simp] theorem recordN_pair (s : State) (src code p1 p2 p3 : Nat) : (recordN s src code p1 p2 p3).pair = s.pair := by simp [recordN]
@[simp] theorem recordN_health (s : State) (src code p1 p2 p3 : Nat) : (recordN s src code p1 p2 p3).health = s.health := by simp [recordN]
@[simp] theorem recordN_ir (s : State) (src code p1 p2 p3 : Nat) : (recordN s src code p1 p2 p3).ir = s.ir := by simp [recordN]
@[simp] theorem recordN_chans (s : State) (src code p1 p2 p3 : Nat) : (recordN s src code p1 p2 p3).chans = s.chans := by simp [recordN]
@[simp] theorem recordN_net (s : State) (src code p1 p2 p3 : Nat) : (recordN s src code p1 p2 p3).net = s.net := by simp [recordN]
@[simp] theorem recordN_sec (s : State) (src code p1 p2 p3 : Nat) : (recordN s src code p1 p2 p3).sec = s.sec := by simp [recordN]
@[simp] theorem recordN_img (s : State) (src code p1 p2 p3 : Nat) : (recordN s src code p1 p2 p3).img = s.img := by simp [recordN]
@[simp] theorem recordN_hr (s : State) (src code p1 p2 p3 : Nat) : (recordN s src code p1 p2 p3).hr = s.hr := by simp [recordN]
@[simp] theorem recordN_region (s : State) (src code p1 p2 p3 : Nat) (er : Er) : (recordN s src code p1 p2 p3).region er = s.region er := by simp [recordN]
@[simp] theorem recordN_chan (s : State) (src code p1 p2 p3 : Nat) (c : Nat) : (recordN s src code p1 p2 p3).chan c = s.chan c := by simp [recordN]
@[simp] theorem recordN_port (s : State) (src code p1 p2 p3 : Nat) (q : Port) : (recordN s src code p1 p2 p3).port q = s.port q := by simp [recordN]
@[simp] theorem recordN_page (s : State) (src code p1 p2 p3 : Nat) (q : BitVec 7) : (recordN s src code p1 p2 p3).page q = s.page q := by simp [recordN]
@[simp] theorem recordN_block (s : State) (src code p1 p2 p3 : Nat) (b' : Nat) : (recordN s src code p1 p2 p3).block b' = s.block b' := by simp [recordN]
@[simp] theorem recordN_regState (s : State) (src code p1 p2 p3 : Nat) (er : Er) : (recordN s src code p1 p2 p3).regState er = s.regState er := by simp [recordN]
@[simp] theorem recordN_serving (s : State) (src code p1 p2 p3 : Nat) (er : Er) : (recordN s src code p1 p2 p3).serving er = s.serving er := by simp [recordN]
@[simp] theorem recordN_duplex (s : State) (src code p1 p2 p3 : Nat) : (recordN s src code p1 p2 p3).duplex = s.duplex := by simp [recordN]
@[simp] theorem recordN_powered (s : State) (src code p1 p2 p3 : Nat) : (recordN s src code p1 p2 p3).powered = s.powered := by simp [recordN]
@[simp] theorem recordN_nowTick (s : State) (src code p1 p2 p3 : Nat) : (recordN s src code p1 p2 p3).nowTick = s.nowTick := by simp [recordN]
@[simp] theorem recordN_tick32 (s : State) (src code p1 p2 p3 : Nat) : (recordN s src code p1 p2 p3).tick32 = s.tick32 := by simp [recordN]

/-! `recordT` changes nothing but evc and recd. -/

@[simp] theorem recordT_pending (s : State) (src code p1 p2 : Nat) : (recordT s src code p1 p2).pending = s.pending := by simp [recordT]
@[simp] theorem recordT_free (s : State) (src code p1 p2 : Nat) : (recordT s src code p1 p2).free = s.free := by simp [recordT]
@[simp] theorem recordT_time (s : State) (src code p1 p2 : Nat) : (recordT s src code p1 p2).time = s.time := by simp [recordT]
@[simp] theorem recordT_dev (s : State) (src code p1 p2 : Nat) : (recordT s src code p1 p2).dev = s.dev := by simp [recordT]
@[simp] theorem recordT_fab (s : State) (src code p1 p2 : Nat) : (recordT s src code p1 p2).fab = s.fab := by simp [recordT]
@[simp] theorem recordT_erA (s : State) (src code p1 p2 : Nat) : (recordT s src code p1 p2).erA = s.erA := by simp [recordT]
@[simp] theorem recordT_erB (s : State) (src code p1 p2 : Nat) : (recordT s src code p1 p2).erB = s.erB := by simp [recordT]
@[simp] theorem recordT_pair (s : State) (src code p1 p2 : Nat) : (recordT s src code p1 p2).pair = s.pair := by simp [recordT]
@[simp] theorem recordT_health (s : State) (src code p1 p2 : Nat) : (recordT s src code p1 p2).health = s.health := by simp [recordT]
@[simp] theorem recordT_ir (s : State) (src code p1 p2 : Nat) : (recordT s src code p1 p2).ir = s.ir := by simp [recordT]
@[simp] theorem recordT_chans (s : State) (src code p1 p2 : Nat) : (recordT s src code p1 p2).chans = s.chans := by simp [recordT]
@[simp] theorem recordT_net (s : State) (src code p1 p2 : Nat) : (recordT s src code p1 p2).net = s.net := by simp [recordT]
@[simp] theorem recordT_sec (s : State) (src code p1 p2 : Nat) : (recordT s src code p1 p2).sec = s.sec := by simp [recordT]
@[simp] theorem recordT_img (s : State) (src code p1 p2 : Nat) : (recordT s src code p1 p2).img = s.img := by simp [recordT]
@[simp] theorem recordT_hr (s : State) (src code p1 p2 : Nat) : (recordT s src code p1 p2).hr = s.hr := by simp [recordT]
@[simp] theorem recordT_region (s : State) (src code p1 p2 : Nat) (er : Er) : (recordT s src code p1 p2).region er = s.region er := by simp [recordT]
@[simp] theorem recordT_chan (s : State) (src code p1 p2 : Nat) (c : Nat) : (recordT s src code p1 p2).chan c = s.chan c := by simp [recordT]
@[simp] theorem recordT_port (s : State) (src code p1 p2 : Nat) (q : Port) : (recordT s src code p1 p2).port q = s.port q := by simp [recordT]
@[simp] theorem recordT_page (s : State) (src code p1 p2 : Nat) (q : BitVec 7) : (recordT s src code p1 p2).page q = s.page q := by simp [recordT]
@[simp] theorem recordT_block (s : State) (src code p1 p2 : Nat) (b' : Nat) : (recordT s src code p1 p2).block b' = s.block b' := by simp [recordT]
@[simp] theorem recordT_regState (s : State) (src code p1 p2 : Nat) (er : Er) : (recordT s src code p1 p2).regState er = s.regState er := by simp [recordT]
@[simp] theorem recordT_serving (s : State) (src code p1 p2 : Nat) (er : Er) : (recordT s src code p1 p2).serving er = s.serving er := by simp [recordT]
@[simp] theorem recordT_duplex (s : State) (src code p1 p2 : Nat) : (recordT s src code p1 p2).duplex = s.duplex := by simp [recordT]
@[simp] theorem recordT_powered (s : State) (src code p1 p2 : Nat) : (recordT s src code p1 p2).powered = s.powered := by simp [recordT]
@[simp] theorem recordT_nowTick (s : State) (src code p1 p2 : Nat) : (recordT s src code p1 p2).nowTick = s.nowTick := by simp [recordT]
@[simp] theorem recordT_tick32 (s : State) (src code p1 p2 : Nat) : (recordT s src code p1 p2).tick32 = s.tick32 := by simp [recordT]

/-! `syncDev` changes nothing but dev and evc. -/

/-- `DEV_STATE` stands as it is, or it is written and source 15 raised (R467). -/
theorem syncDev_form (s : State) : ∃ d, syncDev s = s ∨ syncDev s = raise (s.setDev d) 15 := by
  unfold syncDev
  by_cases h : devState s = s.dev.stateWord
  · exact ⟨s.dev, Or.inl (if_pos h)⟩
  · exact ⟨_, Or.inr (if_neg h)⟩

@[simp] theorem syncDev_pending (s : State) : (syncDev s).pending = s.pending := by rcases syncDev_form s with ⟨d, h | h⟩ <;> simp [h]
@[simp] theorem syncDev_free (s : State) : (syncDev s).free = s.free := by rcases syncDev_form s with ⟨d, h | h⟩ <;> simp [h]
@[simp] theorem syncDev_time (s : State) : (syncDev s).time = s.time := by rcases syncDev_form s with ⟨d, h | h⟩ <;> simp [h]
@[simp] theorem syncDev_fab (s : State) : (syncDev s).fab = s.fab := by rcases syncDev_form s with ⟨d, h | h⟩ <;> simp [h]
@[simp] theorem syncDev_erA (s : State) : (syncDev s).erA = s.erA := by rcases syncDev_form s with ⟨d, h | h⟩ <;> simp [h]
@[simp] theorem syncDev_erB (s : State) : (syncDev s).erB = s.erB := by rcases syncDev_form s with ⟨d, h | h⟩ <;> simp [h]
@[simp] theorem syncDev_pair (s : State) : (syncDev s).pair = s.pair := by rcases syncDev_form s with ⟨d, h | h⟩ <;> simp [h]
@[simp] theorem syncDev_health (s : State) : (syncDev s).health = s.health := by rcases syncDev_form s with ⟨d, h | h⟩ <;> simp [h]
@[simp] theorem syncDev_ir (s : State) : (syncDev s).ir = s.ir := by rcases syncDev_form s with ⟨d, h | h⟩ <;> simp [h]
@[simp] theorem syncDev_chans (s : State) : (syncDev s).chans = s.chans := by rcases syncDev_form s with ⟨d, h | h⟩ <;> simp [h]
@[simp] theorem syncDev_net (s : State) : (syncDev s).net = s.net := by rcases syncDev_form s with ⟨d, h | h⟩ <;> simp [h]
@[simp] theorem syncDev_recd (s : State) : (syncDev s).recd = s.recd := by rcases syncDev_form s with ⟨d, h | h⟩ <;> simp [h]
@[simp] theorem syncDev_sec (s : State) : (syncDev s).sec = s.sec := by rcases syncDev_form s with ⟨d, h | h⟩ <;> simp [h]
@[simp] theorem syncDev_img (s : State) : (syncDev s).img = s.img := by rcases syncDev_form s with ⟨d, h | h⟩ <;> simp [h]
@[simp] theorem syncDev_hr (s : State) : (syncDev s).hr = s.hr := by rcases syncDev_form s with ⟨d, h | h⟩ <;> simp [h]
@[simp] theorem syncDev_region (s : State) (er : Er) : (syncDev s).region er = s.region er := by rcases syncDev_form s with ⟨d, h | h⟩ <;> simp [h]
@[simp] theorem syncDev_chan (s : State) (c : Nat) : (syncDev s).chan c = s.chan c := by rcases syncDev_form s with ⟨d, h | h⟩ <;> simp [h]
@[simp] theorem syncDev_port (s : State) (q : Port) : (syncDev s).port q = s.port q := by rcases syncDev_form s with ⟨d, h | h⟩ <;> simp [h]
@[simp] theorem syncDev_page (s : State) (q : BitVec 7) : (syncDev s).page q = s.page q := by rcases syncDev_form s with ⟨d, h | h⟩ <;> simp [h]
@[simp] theorem syncDev_block (s : State) (b' : Nat) : (syncDev s).block b' = s.block b' := by rcases syncDev_form s with ⟨d, h | h⟩ <;> simp [h]
@[simp] theorem syncDev_regState (s : State) (er : Er) : (syncDev s).regState er = s.regState er := by rcases syncDev_form s with ⟨d, h | h⟩ <;> simp [h]
@[simp] theorem syncDev_serving (s : State) (er : Er) : (syncDev s).serving er = s.serving er := by rcases syncDev_form s with ⟨d, h | h⟩ <;> simp [h]
@[simp] theorem syncDev_duplex (s : State)  : (syncDev s).duplex = s.duplex := by rcases syncDev_form s with ⟨d, h | h⟩ <;> simp [h]
@[simp] theorem syncDev_nowTick (s : State)  : (syncDev s).nowTick = s.nowTick := by rcases syncDev_form s with ⟨d, h | h⟩ <;> simp [h]
@[simp] theorem syncDev_tick32 (s : State)  : (syncDev s).tick32 = s.tick32 := by rcases syncDev_form s with ⟨d, h | h⟩ <;> simp [h]

/-! `complete` changes nothing but evc and hr. -/

@[simp] theorem complete_pending (s : State) (p : BitVec 7) (st : Stat) (data : Bytes) : (complete s p st data).pending = s.pending := rfl
@[simp] theorem complete_free (s : State) (p : BitVec 7) (st : Stat) (data : Bytes) : (complete s p st data).free = s.free := rfl
@[simp] theorem complete_time (s : State) (p : BitVec 7) (st : Stat) (data : Bytes) : (complete s p st data).time = s.time := rfl
@[simp] theorem complete_dev (s : State) (p : BitVec 7) (st : Stat) (data : Bytes) : (complete s p st data).dev = s.dev := rfl
@[simp] theorem complete_fab (s : State) (p : BitVec 7) (st : Stat) (data : Bytes) : (complete s p st data).fab = s.fab := rfl
@[simp] theorem complete_erA (s : State) (p : BitVec 7) (st : Stat) (data : Bytes) : (complete s p st data).erA = s.erA := rfl
@[simp] theorem complete_erB (s : State) (p : BitVec 7) (st : Stat) (data : Bytes) : (complete s p st data).erB = s.erB := rfl
@[simp] theorem complete_pair (s : State) (p : BitVec 7) (st : Stat) (data : Bytes) : (complete s p st data).pair = s.pair := rfl
@[simp] theorem complete_health (s : State) (p : BitVec 7) (st : Stat) (data : Bytes) : (complete s p st data).health = s.health := rfl
@[simp] theorem complete_ir (s : State) (p : BitVec 7) (st : Stat) (data : Bytes) : (complete s p st data).ir = s.ir := rfl
@[simp] theorem complete_chans (s : State) (p : BitVec 7) (st : Stat) (data : Bytes) : (complete s p st data).chans = s.chans := rfl
@[simp] theorem complete_net (s : State) (p : BitVec 7) (st : Stat) (data : Bytes) : (complete s p st data).net = s.net := rfl
@[simp] theorem complete_recd (s : State) (p : BitVec 7) (st : Stat) (data : Bytes) : (complete s p st data).recd = s.recd := rfl
@[simp] theorem complete_sec (s : State) (p : BitVec 7) (st : Stat) (data : Bytes) : (complete s p st data).sec = s.sec := rfl
@[simp] theorem complete_img (s : State) (p : BitVec 7) (st : Stat) (data : Bytes) : (complete s p st data).img = s.img := rfl
@[simp] theorem complete_region (s : State) (p : BitVec 7) (st : Stat) (data : Bytes) (er : Er) : (complete s p st data).region er = s.region er := rfl
@[simp] theorem complete_chan (s : State) (p : BitVec 7) (st : Stat) (data : Bytes) (c : Nat) : (complete s p st data).chan c = s.chan c := rfl
@[simp] theorem complete_port (s : State) (p : BitVec 7) (st : Stat) (data : Bytes) (q : Port) : (complete s p st data).port q = s.port q := rfl
@[simp] theorem complete_block (s : State) (p : BitVec 7) (st : Stat) (data : Bytes) (b' : Nat) : (complete s p st data).block b' = s.block b' := rfl
@[simp] theorem complete_regState (s : State) (p : BitVec 7) (st : Stat) (data : Bytes) (er : Er) : (complete s p st data).regState er = s.regState er := rfl
@[simp] theorem complete_serving (s : State) (p : BitVec 7) (st : Stat) (data : Bytes) (er : Er) : (complete s p st data).serving er = s.serving er := rfl
@[simp] theorem complete_duplex (s : State) (p : BitVec 7) (st : Stat) (data : Bytes) : (complete s p st data).duplex = s.duplex := rfl
@[simp] theorem complete_powered (s : State) (p : BitVec 7) (st : Stat) (data : Bytes) : (complete s p st data).powered = s.powered := rfl
@[simp] theorem complete_nowTick (s : State) (p : BitVec 7) (st : Stat) (data : Bytes) : (complete s p st data).nowTick = s.nowTick := rfl
@[simp] theorem complete_tick32 (s : State) (p : BitVec 7) (st : Stat) (data : Bytes) : (complete s p st data).tick32 = s.tick32 := rfl

/-! `turnAway` changes nothing but evc and hr. -/

@[simp] theorem turnAway_pending (s : State) (p : BitVec 7) (st : Stat) (detail : Nat) : (turnAway s p st detail).pending = s.pending := rfl
@[simp] theorem turnAway_free (s : State) (p : BitVec 7) (st : Stat) (detail : Nat) : (turnAway s p st detail).free = s.free := rfl
@[simp] theorem turnAway_time (s : State) (p : BitVec 7) (st : Stat) (detail : Nat) : (turnAway s p st detail).time = s.time := rfl
@[simp] theorem turnAway_dev (s : State) (p : BitVec 7) (st : Stat) (detail : Nat) : (turnAway s p st detail).dev = s.dev := rfl
@[simp] theorem turnAway_fab (s : State) (p : BitVec 7) (st : Stat) (detail : Nat) : (turnAway s p st detail).fab = s.fab := rfl
@[simp] theorem turnAway_erA (s : State) (p : BitVec 7) (st : Stat) (detail : Nat) : (turnAway s p st detail).erA = s.erA := rfl
@[simp] theorem turnAway_erB (s : State) (p : BitVec 7) (st : Stat) (detail : Nat) : (turnAway s p st detail).erB = s.erB := rfl
@[simp] theorem turnAway_pair (s : State) (p : BitVec 7) (st : Stat) (detail : Nat) : (turnAway s p st detail).pair = s.pair := rfl
@[simp] theorem turnAway_health (s : State) (p : BitVec 7) (st : Stat) (detail : Nat) : (turnAway s p st detail).health = s.health := rfl
@[simp] theorem turnAway_ir (s : State) (p : BitVec 7) (st : Stat) (detail : Nat) : (turnAway s p st detail).ir = s.ir := rfl
@[simp] theorem turnAway_chans (s : State) (p : BitVec 7) (st : Stat) (detail : Nat) : (turnAway s p st detail).chans = s.chans := rfl
@[simp] theorem turnAway_net (s : State) (p : BitVec 7) (st : Stat) (detail : Nat) : (turnAway s p st detail).net = s.net := rfl
@[simp] theorem turnAway_recd (s : State) (p : BitVec 7) (st : Stat) (detail : Nat) : (turnAway s p st detail).recd = s.recd := rfl
@[simp] theorem turnAway_sec (s : State) (p : BitVec 7) (st : Stat) (detail : Nat) : (turnAway s p st detail).sec = s.sec := rfl
@[simp] theorem turnAway_img (s : State) (p : BitVec 7) (st : Stat) (detail : Nat) : (turnAway s p st detail).img = s.img := rfl
@[simp] theorem turnAway_region (s : State) (p : BitVec 7) (st : Stat) (detail : Nat) (er : Er) : (turnAway s p st detail).region er = s.region er := rfl
@[simp] theorem turnAway_chan (s : State) (p : BitVec 7) (st : Stat) (detail : Nat) (c : Nat) : (turnAway s p st detail).chan c = s.chan c := rfl
@[simp] theorem turnAway_port (s : State) (p : BitVec 7) (st : Stat) (detail : Nat) (q : Port) : (turnAway s p st detail).port q = s.port q := rfl
@[simp] theorem turnAway_block (s : State) (p : BitVec 7) (st : Stat) (detail : Nat) (b' : Nat) : (turnAway s p st detail).block b' = s.block b' := rfl
@[simp] theorem turnAway_regState (s : State) (p : BitVec 7) (st : Stat) (detail : Nat) (er : Er) : (turnAway s p st detail).regState er = s.regState er := rfl
@[simp] theorem turnAway_serving (s : State) (p : BitVec 7) (st : Stat) (detail : Nat) (er : Er) : (turnAway s p st detail).serving er = s.serving er := rfl
@[simp] theorem turnAway_duplex (s : State) (p : BitVec 7) (st : Stat) (detail : Nat) : (turnAway s p st detail).duplex = s.duplex := rfl
@[simp] theorem turnAway_powered (s : State) (p : BitVec 7) (st : Stat) (detail : Nat) : (turnAway s p st detail).powered = s.powered := rfl
@[simp] theorem turnAway_nowTick (s : State) (p : BitVec 7) (st : Stat) (detail : Nat) : (turnAway s p st detail).nowTick = s.nowTick := rfl
@[simp] theorem turnAway_tick32 (s : State) (p : BitVec 7) (st : Stat) (detail : Nat) : (turnAway s p st detail).tick32 = s.tick32 := rfl

/-! `answer` changes nothing but evc and hr. -/

@[simp] theorem answer_pending (s : State) (p : BitVec 7) (data : Bytes) : (answer s p data).pending = s.pending := rfl
@[simp] theorem answer_free (s : State) (p : BitVec 7) (data : Bytes) : (answer s p data).free = s.free := rfl
@[simp] theorem answer_time (s : State) (p : BitVec 7) (data : Bytes) : (answer s p data).time = s.time := rfl
@[simp] theorem answer_dev (s : State) (p : BitVec 7) (data : Bytes) : (answer s p data).dev = s.dev := rfl
@[simp] theorem answer_fab (s : State) (p : BitVec 7) (data : Bytes) : (answer s p data).fab = s.fab := rfl
@[simp] theorem answer_erA (s : State) (p : BitVec 7) (data : Bytes) : (answer s p data).erA = s.erA := rfl
@[simp] theorem answer_erB (s : State) (p : BitVec 7) (data : Bytes) : (answer s p data).erB = s.erB := rfl
@[simp] theorem answer_pair (s : State) (p : BitVec 7) (data : Bytes) : (answer s p data).pair = s.pair := rfl
@[simp] theorem answer_health (s : State) (p : BitVec 7) (data : Bytes) : (answer s p data).health = s.health := rfl
@[simp] theorem answer_ir (s : State) (p : BitVec 7) (data : Bytes) : (answer s p data).ir = s.ir := rfl
@[simp] theorem answer_chans (s : State) (p : BitVec 7) (data : Bytes) : (answer s p data).chans = s.chans := rfl
@[simp] theorem answer_net (s : State) (p : BitVec 7) (data : Bytes) : (answer s p data).net = s.net := rfl
@[simp] theorem answer_recd (s : State) (p : BitVec 7) (data : Bytes) : (answer s p data).recd = s.recd := rfl
@[simp] theorem answer_sec (s : State) (p : BitVec 7) (data : Bytes) : (answer s p data).sec = s.sec := rfl
@[simp] theorem answer_img (s : State) (p : BitVec 7) (data : Bytes) : (answer s p data).img = s.img := rfl
@[simp] theorem answer_region (s : State) (p : BitVec 7) (data : Bytes) (er : Er) : (answer s p data).region er = s.region er := rfl
@[simp] theorem answer_chan (s : State) (p : BitVec 7) (data : Bytes) (c : Nat) : (answer s p data).chan c = s.chan c := rfl
@[simp] theorem answer_port (s : State) (p : BitVec 7) (data : Bytes) (q : Port) : (answer s p data).port q = s.port q := rfl
@[simp] theorem answer_block (s : State) (p : BitVec 7) (data : Bytes) (b' : Nat) : (answer s p data).block b' = s.block b' := rfl
@[simp] theorem answer_regState (s : State) (p : BitVec 7) (data : Bytes) (er : Er) : (answer s p data).regState er = s.regState er := rfl
@[simp] theorem answer_serving (s : State) (p : BitVec 7) (data : Bytes) (er : Er) : (answer s p data).serving er = s.serving er := rfl
@[simp] theorem answer_duplex (s : State) (p : BitVec 7) (data : Bytes) : (answer s p data).duplex = s.duplex := rfl
@[simp] theorem answer_powered (s : State) (p : BitVec 7) (data : Bytes) : (answer s p data).powered = s.powered := rfl
@[simp] theorem answer_nowTick (s : State) (p : BitVec 7) (data : Bytes) : (answer s p data).nowTick = s.nowTick := rfl
@[simp] theorem answer_tick32 (s : State) (p : BitVec 7) (data : Bytes) : (answer s p data).tick32 = s.tick32 := rfl

/-! ### Answers of the mailbox -/

/-- A page reads as it was last written, in canonical form. -/
theorem State.setPage_page_self (s : State) (p : BitVec 7) (v : Page) (h : tableWf ({} : Page) s.hr.pages = true) :
    (s.setPage p v).page p = v := look_put_self _ _ _ _ h

/-- A page other than the default reads as it was written, in any table. -/
theorem State.setPage_page_ne (s : State) (p : BitVec 7) {v : Page} (h : v ≠ {}) : (s.setPage p v).page p = v :=
  look_put_ne_default _ _ _ h

/-- Another page reads as before. -/
theorem State.setPage_page_other (s : State) {p q : BitVec 7} (v : Page) (h : p ≠ q) : (s.setPage p v).page q = s.page q :=
  look_put_other _ _ _ (fun e => h (BitVec.eq_of_toNat_eq e))

/-- The page of a request that is complete (R470). -/
def Page.completed (pg : Page) (st : Stat) (data : Bytes) : Page :=
  { pg.ended st with resp := data.take 2048, stat := st.code, rlen := min data.length 2048, busy := false, rung := false, valid := true }

theorem complete_pages (s : State) (p : BitVec 7) (st : Stat) (data : Bytes) :
    (complete s p st data).hr.pages = put {} s.hr.pages p.toNat ((s.page p).completed st data) := rfl

theorem complete_page_self (s : State) (p : BitVec 7) (st : Stat) (data : Bytes) :
    (complete s p st data).page p = (s.page p).completed st data := by
  have h : (s.page p).completed st data ≠ {} := fun h => by
    have := congrArg Page.valid h; simp [Page.completed] at this
  simpa [State.page, complete_pages] using look_put_ne_default ({} : Page) s.hr.pages p.toNat h

/-- Completing one page leaves every other page. -/
theorem complete_page_other (s : State) {p q : BitVec 7} (st : Stat) (data : Bytes) (h : p ≠ q) :
    (complete s p st data).page q = s.page q := by
  simpa [State.page, complete_pages] using look_put_other ({} : Page) s.hr.pages _ (fun e => h (BitVec.eq_of_toNat_eq e))

/-- A served command answers the state its own checks give. -/
theorem serve_next (s : State) (p : BitVec 7) (q : Request) (t : State) (hp : s.powered = true) (ha : s.asks p q = true)
    (hr : s.hr.running = true) : serve s p q true t = .next (t.takeUp p) := by simp [serve, hp, ha, hr]

/-- A mailbox command never stops the model. -/
theorem serve_isNext (s : State) (p : BitVec 7) (q : Request) (a : Bool) (t : State) : ∃ u, serve s p q a t = .next u := by
  unfold serve; split
  · exact ⟨_, rfl⟩
  · split
    · exact ⟨_, rfl⟩
    · split <;> exact ⟨_, rfl⟩

/-- Everything a mailbox command can answer. -/
theorem serve_cases {s : State} {p : BitVec 7} {q : Request} {a : Bool} {t u : State} (h : serve s p q a t = .next u) :
    ((s.powered = false ∨ s.asks p q = false) ∧ u = s) ∨
    (s.powered = true ∧ s.asks p q = true ∧ s.hr.running = false ∧ u = turnAway s p .unavailable) ∨
    (s.powered = true ∧ s.asks p q = true ∧ s.hr.running = true ∧ a = false ∧ u = turnAway s p .denied) ∨
    (s.powered = true ∧ s.asks p q = true ∧ s.hr.running = true ∧ a = true ∧ u = t.takeUp p) := by
  unfold serve at h
  cases hp : s.powered <;> cases hq : s.asks p q <;> cases hr : s.hr.running <;> cases a <;> simp_all

/-- What taking a request up leaves: everything but the list of requests that wait. -/
theorem takeUp_frame (s : State) (p : BitVec 7) : { s.takeUp p with hr := s.hr } = s ∧ { (s.takeUp p).hr with doorbells := s.hr.doorbells } = s.hr := by
  unfold State.takeUp; split <;> exact ⟨rfl, rfl⟩

/-- A page whose request is not one that was rung keeps the list of those. -/
theorem takeUp_idle (s : State) (p : BitVec 7) (h : (s.page p).rung = false) : s.takeUp p = s := by simp [State.takeUp, h]

/-! ### Interrupt sources -/

/-- An event of a source sets its pending bit at a target (R377). -/
theorem eventAt_pend_self (e : Evc) (b : Bool) (n k : Nat) (h : setBit (look 0 e.pend (n / 32)) (n % 32) true ≠ 0) :
    look 0 (eventAt e b n k).pend (n / 32) = setBit (look 0 e.pend (n / 32)) (n % 32) true :=
  look_put_ne_default _ _ _ h

/-- An event of a source leaves the pending bits of every other group. -/
theorem eventAt_pend_other (e : Evc) (b : Bool) (n k : Nat) {g : Nat} (h : n / 32 ≠ g) :
    look 0 (eventAt e b n k).pend g = look 0 e.pend g := look_put_other _ _ _ h

end Sys2Proof.Machine
end

