-- ==== Sys2Proof/Laws/Golup.lean ====
section
/-! SUPPORT. A run on a scan engine: what a context is, what an instruction that issues in time answers, what writing a context
back leaves, and a read of a register or condition bit after a write. -/

namespace Sys2Proof.Machine

/-- What a context holds (R115, R118). -/
theorem ctxOf_some {r : Region} {n : Nat} {c : Ctx} (h : ctxOf r n = some c) :
    c.e = engineOf r n ∧ c.e.running = true ∧ findRun r c.e.slot c.e.run = some c.x ∧ taskOf r c.e.slot = some c.k ∧
    c.vars = (if c.e.redo then c.e.view else look [] r.vars c.e.slot.toNat) := by
  unfold ctxOf at h
  simp only at h
  split at h
  · cases h
  · rename_i hr
    split at h
    · rename_i x k hx hk
      simp only [Option.map_eq_some_iff] at h
      obtain ⟨g, hg, rfl⟩ := h
      simp_all
    · cases h

/-- A run that is found has the key looked for. -/
theorem findRun_key {r : Region} {slot no x} (h : findRun r slot no = some x) : x.slot = slot ∧ x.no = no := by
  have := List.find?_some h
  simp at this; exact this

/-- A run after one run was replaced. -/
theorem findRun_modRun (r : Region) (slot no) (y : Run) (hy : y.slot = slot ∧ y.no = no) (x : Run)
    (hx : findRun r slot no = some x) (slot' no') :
    findRun (modRun r slot no (fun _ => y)) slot' no' = if slot' = slot ∧ no' = no then some y else findRun r slot' no' := by
  unfold findRun modRun at *
  simp only
  rw [← List.map_append]
  generalize r.runs ++ r.kept = l at *
  induction l with
  | nil => simp at hx
  | cons a l ih =>
    simp only [List.map_cons, List.find?_cons] at *
    by_cases ha : a.slot = slot ∧ a.no = no
    · obtain ⟨rfl, rfl⟩ := ha
      simp only [beq_self_eq_true, Bool.and_self, if_true]
      by_cases h : slot' = a.slot ∧ no' = a.no
      · obtain ⟨rfl, rfl⟩ := h; simp [hy]
      · have h1 : (y.slot == slot' && y.no == no') = false := by
          simp only [Bool.and_eq_false_iff, beq_eq_false_iff_ne]; rw [hy.1, hy.2]
          by_contra hh; simp only [not_or, not_not] at hh; exact h ⟨hh.1.symm, hh.2.symm⟩
        have h2 : (a.slot == slot' && a.no == no') = false := by
          simp only [Bool.and_eq_false_iff, beq_eq_false_iff_ne]
          by_contra hh; simp only [not_or, not_not] at hh; exact h ⟨hh.1.symm, hh.2.symm⟩
        rw [h1, h2, if_neg h]
        clear ih hx
        induction l with
        | nil => rfl
        | cons b l ih2 =>
          simp only [List.map_cons, List.find?_cons]
          by_cases hb : b.slot = a.slot ∧ b.no = a.no
          · have h3 : (b.slot == slot' && b.no == no') = false := by
              rw [hb.1, hb.2]; exact h2
            have e1 : (if (b.slot == a.slot && b.no == a.no) = true then y else b) = y := by simp [hb]
            rw [e1, h1, h3]; exact ih2
          · have : (if (b.slot == a.slot && b.no == a.no) = true then y else b) = b := by simp [hb]
            rw [this]; split
            · rfl
            · simpa using ih2
    · have hab : (a.slot == slot && a.no == no) = false := by simpa using ha
      rw [hab] at hx ⊢
      simp only at hx
      have := ih hx
      simp only [Bool.false_eq_true, if_false]
      by_cases h : (a.slot == slot' && a.no == no') = true
      · rw [h]
        have : ¬ (slot' = slot ∧ no' = no) := by
          rintro ⟨rfl, rfl⟩; rw [h] at hab; cases hab
        simp [this]
      · simp only [Bool.not_eq_true] at h; rw [h]; simpa using this

/-- An instruction that issues before the limit answers its effect (R122, R123). -/
theorem golup_inTime {id : EngId} {wf need s k c} (hwf : wf = true) (he : id.exists = true) (hon : OnEngine s id c)
    (ht : issueCycle c.e (need c) < watchdogLimit c.k) :
    golup id wf need s k = .next (s.setRegion id.er
      (if (k c (issueCycle c.e (need c))).e.running then putCtx (s.region id.er) id.n (k c (issueCycle c.e (need c)))
       else putClosed (s.region id.er) id.n c (k c (issueCycle c.e (need c))))) := by
  obtain ⟨hp, hw, hc⟩ := hon
  unfold golup
  simp [he, hwf, hp, hc, Nat.not_le.mpr ht]

/-- An engine after a context was written back. -/
theorem engineOf_putCtx (r : Region) (n : Nat) (c : Ctx) (hr : c.e.running = true) (m : Nat) :
    engineOf (putCtx r n c) m = if m = n then (if c.e.redo then { c.e with view := c.vars } else c.e) else engineOf r m := by
  have hne : (if c.e.redo then { c.e with view := c.vars } else c.e) ≠ ({} : Engine) := by
    intro h; have := congrArg Engine.running h; split at this <;> simp_all
  by_cases hm : m = n
  · subst hm; rw [if_pos rfl]
    unfold putCtx engineOf; simp only
    split <;> exact look_put_ne_default _ _ _ (by simpa [*] using hne)
  · rw [if_neg hm]; unfold putCtx engineOf; simp only
    split <;> exact look_put_other _ _ _ (fun h => hm h.symm)

/-- Writing back a context that changed its engine alone changes nothing else. -/
theorem putCtx_frame {s : State} {id : EngId} {c : Ctx} (hon : OnEngine s id c) (e : Engine) (hrun : e.running = true) (hredo : e.redo = c.e.redo) :
    GolupFrame id s (s.setRegion id.er (putCtx (s.region id.er) id.n { c with e := e })) := by
  obtain ⟨hp, hw, hc⟩ := hon
  obtain ⟨h1, h2, h3, h4, h5⟩ := ctxOf_some hc
  have hk := findRun_key h3
  have h3' : findRun (s.region id.er) c.x.slot c.x.no = some c.x := by rw [hk.1, hk.2]; exact h3
  refine ⟨?_, ?_, ?_, ?_, ?_⟩
  · unfold OnlyRegion; cases id with | mk er n => cases er <;> rfl
  · simp only [State.setRegion_region_self]; unfold putCtx modRun; simp only; split <;> rfl
  · intro m hm; rw [State.setRegion_region_self, engineOf_putCtx _ _ _ hrun, if_neg hm]
  · intro slot no
    rw [State.setRegion_region_self]
    have : findRun (putCtx (s.region id.er) id.n { c with e := e }) slot no = findRun (modRun (s.region id.er) c.x.slot c.x.no (fun _ => c.x)) slot no := by
      unfold putCtx findRun modRun; simp only; split <;> rfl
    rw [this, findRun_modRun _ _ _ _ ⟨rfl, rfl⟩ _ h3']
    split
    · rename_i h; rw [h.1, h.2, h3']
    · rfl
  · intro slot
    rw [State.setRegion_region_self]
    unfold putCtx modRun; simp only
    rw [hredo]
    split
    · rfl
    · rename_i hr
      simp only
      rw [h5, if_neg hr]
      by_cases hs : c.x.slot.toNat = slot
      · subst hs; rw [look_put_self _ _ _ _ hw.2.1, hk.1]
      · rw [look_put_other _ _ _ hs]

/-- A register after a write; W0 stays zero (R115). -/
theorem reg_setReg {e : Engine} (hw : tableWf 0 e.w = true) (n : Nat) (v t) (m : Nat) :
    (e.setReg n v t).reg m = if m = n then (if n = 0 then 0 else v) else e.reg m := by
  unfold Engine.setReg Engine.reg
  by_cases hn : n = 0
  · subst hn; by_cases hm : m = 0 <;> simp [hm]
  · simp only [hn, if_false]
    by_cases hm : m = n
    · subst hm; rw [if_neg hn, if_pos rfl]; exact look_put_self _ _ _ _ hw
    · rw [if_neg hm]; by_cases h0 : m = 0
      · simp [h0]
      · rw [if_neg h0, if_neg h0]; exact look_put_other _ _ _ (fun h => hm h.symm)

/-- A condition bit after a write. -/
theorem cond_setCond (e : Engine) (n : Nat) (b t) (m : Nat) (hm : m < 8) :
    (e.setCond n b t).cond m = if m = n % 8 then b else e.cond m := by
  unfold Engine.setCond Engine.cond
  simp only
  have : ∀ (c : BitVec 8) (b : Bool) (k m : Nat), k < 8 → m < 8 → bit (setBit c k b) m = if m = k then b else bit c m := by
    intro c b k m hk hm
    have : ∀ (c : BitVec 8) (b : Bool) (k m : Fin 8),  bit (setBit c k b) m = if m = k then b else bit c m := by decide +revert
    have := this c b ⟨k, hk⟩ ⟨m, hm⟩
    simpa [Fin.ext_iff] using this
  rw [Nat.mod_eq_of_lt hm, this _ _ _ _ (Nat.mod_lt _ (by decide)) hm]

end Sys2Proof.Machine
end

