-- ==== Sys2Proof/Tests/Slice0.lean ====
section
/-! SUPPORT. The package's own tests: each check of WellFormed refuses an ill-formed term; Golup words written out bit by bit from
R117 to R121 decode to what they stand for; and for every statement that has hypotheses, states and operands that meet them,
clause by clause, with what the step then gives. -/

namespace Sys2Proof.Tests
open Sys2Proof.Machine

-- One theorem after the other: every one that waits on a thread of its own holds memory.
set_option Elab.async false

/-! ### Helpers -/

/-- A part in RUN, in DUPLEX. -/
def up : State := { State.reset with dev := { State.reset.dev with dstate := .run } }

/-- The same in SIMPLEX: ER-B is out. -/
def alone : State := { up with pair := { up.pair with stateB := .out } }

/-- The state that a command gives. -/
def after (c : Instr) (s : State) : State :=
  match exec c s with
  | .next t => t
  | _ => s

/-- The command gives a next state. -/
def runs (c : Instr) (s : State) : Bool :=
  match exec c s with
  | .next _ => true
  | _ => false

/-- The command ends in this fault. -/
def faults (c : Instr) (s : State) (f : Fault) : Bool :=
  match exec c s with
  | .fault g => g == f
  | _ => false

/-- A state with region ER-A changed. -/
def withA (f : Region → Region) (s : State) : State := { s with erA := f s.erA }

/-- A state with one channel. -/
def withChan (n : Nat) (ch : Channel) (s : State) : State := { s with chans := [(n, ch)] }

/-- A state with NR changed. -/
def withNet (f : Net → Net) (s : State) : State := { s with net := f s.net }

/-- A state with one page. -/
def withPage (p : Nat) (x : Page) (s : State) : State := { s with hr := { s.hr with pages := [(p, x)] } }

/-- Page 0 as command c leaves it: its status and what it answers. -/
def answer0 (c : Instr) (s : State) : BitVec 16 × Bytes := (((after c s).page 0).stat, ((after c s).page 0).resp)

/-! ### WellFormed -/

/-- Fields of format O, all zero but for the type. -/
def o (ty : Ty) : OFields := { ty := ty, wd := 0, wa := 0, wb := 0, cb := 0, im := false, cw := false, imm := 0 }

/-- Fields of format F, all zero. -/
def f0 : FFields := { ty := .int32, wd := 0, wa := 0, wb := 0, cq := 0, ci := 0, cj := 0, ck := 0, cl := 0, off := 0 }

/-- Engine 0 of ER-A. -/
def e0 : EngId := ⟨.A, 0⟩

/-- Engines end at 33, lanes at 8, pins at 47 and queues at 159. -/
theorem test_wf_units : [Instr.mov ⟨.A, 34⟩ (o .int32), .runDispatch ⟨.B, 34⟩, .refereeHandover .A (.run 0 0) 34,
    .refereeHandover .A (.sample 0 0) 9, .loopSample .B 9, .lioLevelChange 48 true, .pwmPeriodStart 48, .receiveDescriptorWait 160 [],
    .transmitFetch 160 []].all (fun c => !c.wf) = true := by decide

/-- Types outside R121. -/
theorem test_wf_types : [Instr.movu e0 { o .int32 with im := true }, .movu e0 (o .int64), .movh e0 (o .int32), .add e0 (o .bool),
    .adds e0 (o .real32), .andW e0 (o .real64), .shl e0 (o .time), .ext e0 (o .int32), .sqrt e0 (o .int64), .scale e0 (o .int64),
    .cltu e0 (o .time), .ceq e0 (o .time), .btst e0 (o .int32), .rdf e0 (o .int64), .ton e0 { f0 with ty := .int64 },
    .ramp e0 { f0 with ty := .int64 }].map Instr.wf =
    [false, false, false, false, false, false, false, false, false, false, false, true, false, false, false, false] := by decide

/-- Registers and fields that R120 and R121 exclude. -/
theorem test_wf_fields : [Instr.ext e0 { o .int64 with imm := 0x4001 }, .cvt e0 { o .int32 with imm := 6 }, .limit e0 { o .int32 with wb := 31 },
    .mux e0 { o .int32 with imm := 0 }, .mux e0 { o .int32 with wb := 1, imm := 32 },
    .ld e0 { sz := .line, wd := 9, wa := 0, wb := 0, sp := .var, off := 0 }, .st e0 { sz := .line, wd := 0, wa := 0, wb := 0, sp := .var, off := 0 },
    .st e0 { sz := .d64, wd := 0, wa := 0, wb := 0, sp := .con, off := 0 }, .br e0 { neg := false, cnd := false, cb := 0, tgt := 4 },
    .ramp e0 { f0 with wb := 30 }].all (fun c => !c.wf) = true := by decide

/-- The same fields at their last admitted values. -/
theorem test_wf_bounds : [Instr.ext e0 { o .int64 with imm := 0x4000 }, .cvt e0 { o .int32 with imm := 5 }, .limit e0 { o .int32 with wb := 30 },
    .mux e0 { o .int32 with wb := 1, imm := 31 }, .ld e0 { sz := .line, wd := 24, wa := 0, wb := 0, sp := .var, off := 0 },
    .st e0 { sz := .d64, wd := 0, wa := 0, wb := 0, sp := .scr, off := 0 }, .ramp e0 { f0 with wb := 29 }, .mov ⟨.B, 33⟩ (o .time),
    .loopSample .A 8, .lioLevelChange 47 true, .transmitFetch 159 []].all Instr.wf = true := by decide

/-- An ill-formed command faults: a unit that does not exist, and a word that the loader's checks refuse. -/
theorem test_fault_names : faults (.runDispatch ⟨.A, 34⟩) up .noSuchUnit = true ∧ faults (.loopSample .A 9) up .noSuchUnit = true ∧
    faults (.lioLevelChange 48 true) up .noSuchUnit = true ∧ faults (.add e0 (o .bool)) up .illFormed = true := by decide +kernel

/-! ### Golup words, bit by bit (R117, R121) -/

/-- ADD INT32: W3 ← W1 + W2, status to C5. -/
theorem test_decode_add : Golup.decodeWord ⟨.A, 0⟩ 0b00001000_000_00011_00001_00010_101_0_1_0_00000000000000000000000000000000 =
    some (.add ⟨.A, 0⟩ { ty := .int32, wd := 3, wa := 1, wb := 2, cb := 5, im := false, cw := true, imm := 0 }) := by decide

/-- MOVU: W7 ← 0xDEADBEEF. -/
theorem test_decode_movu : Golup.decodeWord ⟨.A, 0⟩ 0b00000010_001_00111_00000_00000_000_1_0_0_11011110101011011011111011101111 =
    some (.movu ⟨.A, 0⟩ { ty := .int64, wd := 7, wa := 0, wb := 0, cb := 0, im := true, cw := false, imm := 0xDEADBEEF }) := by decide

/-- CLT REAL64: C1 ← W4 < W5. -/
theorem test_decode_clt : Golup.decodeWord ⟨.A, 0⟩ 0b00111010_011_00000_00100_00101_001_0_0_0_00000000000000000000000000000000 =
    some (.clt ⟨.A, 0⟩ { ty := .real64, wd := 0, wa := 4, wb := 5, cb := 1, im := false, cw := false, imm := 0 }) := by decide

/-- LD: a line from EXP at W1 + 0x40 into W8 to W15. -/
theorem test_decode_ld : Golup.decodeWord ⟨.A, 0⟩ 0b01010000_011_01000_00001_00000_000_000_00000000000000000000000001000000 =
    some (.ld ⟨.A, 0⟩ { sz := .line, wd := 8, wa := 1, wb := 0, sp := .exp, off := 0x40 }) := by decide

/-- ST: 32 bits of W9 into SCR at W2 + 16. -/
theorem test_decode_st : Golup.decodeWord ⟨.A, 0⟩ 0b01010001_001_00000_00010_01001_000_011_00000000000000000000000000010000 =
    some (.st ⟨.A, 0⟩ { sz := .s32, wd := 0, wa := 2, wb := 9, sp := .scr, off := 16 }) := by decide

/-- BR to 0x128 when C6 is clear. -/
theorem test_decode_br : Golup.decodeWord ⟨.A, 0⟩ 0b01100000_0000000000000000_1_1_110_000_00000000000000000000000100101000 =
    some (.br ⟨.A, 0⟩ { neg := true, cnd := true, cb := 6, tgt := 0x128 }) := by decide

/-- OUT: entry W1 + 9 ← W2. -/
theorem test_decode_out : Golup.decodeWord ⟨.A, 0⟩ 0b01110000_00000000_00001_00010_000000_00000000000000000000000000001001 =
    some (.out ⟨.A, 0⟩ { wa := 1, wb := 2, idx := 9 }) := by decide

/-- CTUD on the instance at W1 + 0x60. -/
theorem test_decode_ctud : Golup.decodeWord ⟨.A, 0⟩ 0b10000110_000_00100_00001_00010_011_001_010_100_101_000_00000000000001100000 =
    some (.ctud ⟨.A, 0⟩ { ty := .int32, wd := 4, wa := 1, wb := 2, cq := 3, ci := 1, cj := 2, ck := 4, cl := 5, off := 0x60 }) := by decide

/-- RAMP REAL32 on the instance at W1. -/
theorem test_decode_ramp : Golup.decodeWord ⟨.A, 0⟩ 0b10001100_010_00100_00001_11101_000_000_000_111_000_000_00000000000000000000 =
    some (.ramp ⟨.A, 0⟩ { ty := .real32, wd := 4, wa := 1, wb := 29, cq := 0, ci := 0, cj := 0, ck := 7, cl := 0, off := 0 }) := by decide

/-- A reserved bit set (bit 32 of format O). -/
theorem test_decode_reserved : Golup.decodeWord ⟨.A, 0⟩ 0b00001000_000_00011_00001_00010_101_0_1_1_00000000000000000000000000000000 =
    none := by decide

/-- A reserved type. -/
theorem test_decode_type : Golup.decodeWord ⟨.A, 0⟩ 0b00001000_110_00011_00001_00010_101_0_1_0_00000000000000000000000000000000 =
    none := by decide

/-- No opcode 0x04. -/
theorem test_decode_opcode : Golup.decodeWord ⟨.A, 0⟩ 0b00000100_000_00011_00001_00010_101_0_1_0_00000000000000000000000000000000 =
    none := by decide


/-! ### The queue of commands, the CORE edge and the sequencer -/

/-- StepRunsTheFrontCommand: a command at the front, and an empty queue. -/
theorem test_step_front : step { up with pending := [.perstN, .healthRecordWrite] } = exec .perstN { up with pending := [.healthRecordWrite] } ∧
    step up = .next (idleEdge up) := ⟨rfl, rfl⟩

/-- DtimeAdvancesAtEveryCoreEdge: at the fastest rate and with the fastest slew towards an offset of 1 ns. -/
def fast : State := { up with time := { up.time with rate := 200000000, slewMax := 100000000, slewRem := 2 ^ 40 } }

/-- No ledger is violated at reset. -/
theorem test_ledgers_hold : LedgersHold fast := ⟨by decide +kernel, fun er => by cases er <;> decide +kernel, by decide +kernel⟩

theorem test_edge_meets : fast.pending = [] ∧ fast.powered = true ∧ -200000000 ≤ fast.time.rate.toInt ∧ fast.time.rate.toInt ≤ 200000000 ∧
    fast.time.slewMax.toNat ≤ 100000000 ∧ fast.time.dtime.toNat + 1 < 2 ^ 64 ∧ 0 ≤ fast.time.slewRem ∧
    (idleEdge fast).time.full > fast.time.full ∧ (idleEdge fast).time.slewRem < fast.time.slewRem ∧ 0 ≤ (idleEdge fast).time.slewRem := by
  decide +kernel

/-- A group of one setpoint. -/
def g1 : Group := { items := [.setpoint 3 7] }

/-- A group of two. -/
def g2 : Group := { items := [.setpoint 3 7, .setpoint 4 8] }

/-- FabricQueueCommandsComplete: groups of one and of two entries that wait for credit, in queue 0 of ER-A: one credit writes the
first, three write all. -/
def waits : State := { up with fab := { up.fab with queues := [(0, { avail := 0, flight := 65535, occ := 65534, removed := 1, waiting := [g1, g2] })] } }

theorem test_credit_writes : tableWf ({} : FQueue) waits.fab.queues = true ∧ isInputQueue 0 = true ∧ (waits.queue 0).violation = 0 ∧
    (waits.queue 0).open = true ∧ (waits.queue 0).part < g1.size ∧
    ((after (.queueWriteOnCredit 0) waits).queue 0) =
      { avail := 0, flight := 65535, occ := 65535, removed := 1, returned := 1, held := [g1], waiting := [g2], lastSeen := 65534 } := by
  decide +kernel

theorem test_credit_part :
    let s : State := { waits with fab := { waits.fab with queues := [(0, { avail := 1, flight := 65534, occ := 65534, waiting := [g2] })] } }
    ((after (.queueWriteOnCredit 0) s).queue 0).part = 1 ∧ ((after (.queueWriteOnCredit 0) s).queue 0).occ = 65535 ∧
    ((after (.queueWriteOnCredit 0) s).queue 0).held = [] := by decide +kernel

/-- A queue into FR that is not the sequencer's, with one entry. -/
def one : State := { up with fab := { up.fab with queues := [(2053, { avail := 65534, flight := 1, occ := 1 })] } }

theorem test_entry_removed : tableWf ({} : FQueue) one.fab.queues = true ∧ sequenced 2053 = false ∧ (one.queue 2053).open = true ∧ (one.queue 2053).waiting = [] ∧ outranked one 2053 = false ∧
    (after (.queueEntryRemoved 2053) one).queue 2053 = { removed := 1, returned := 1 } ∧ fabricPort 2053 = 4 ∧
    (after (.queueEntryRemoved 2053) one).fab.served = [(4, 0)] ∧
    (after (.queueWriteOnCredit 2053) one).queue 2053 = { avail := 65533, flight := 2, occ := 2 } := by decide +kernel

/-- Queue 1 is the staging queue of ER-A: no single entry leaves or enters it. -/
theorem test_staging_whole : sequenced 1 = true ∧ isInputQueue 1 = false := by decide +kernel

/-- SequencingKeepsLedgersAndStreams: every queue's ledger holds at reset. -/
theorem test_ledgers (q : Nat) : Ledger q (up.queue q) := ⟨rfl, Nat.le_refl 0, by show (0 : BitVec 16) - 0 = 0#16; decide, fun _ => Nat.le_refl 0⟩

theorem test_streams : staged up .A = true ∧ staged up .B = true ∧ up.erA.staging = up.erB.staging ∧ runs .tickTokenInsert up = true ∧
    (after .tickTokenInsert up).erA.staging = (after .tickTokenInsert up).erB.staging := by decide +kernel

/-- SequencerCommandsComplete: the token of the next tick; then a group, before the token of the one after it. -/
def tick1 : State := { up with fab := { up.fab with nextTick := 1, queues := [(0, { avail := 65534, flight := 1, occ := 1, held := [g1] })] } }

theorem test_token : up.dev.dstate = .run ∧ stagingRoom up 1 .A = true ∧ stagingRoom up 1 .B = true ∧ tick1.fab.nextTick.toNat * 10000 < 2 ^ 64 ∧
    (after .tickTokenInsert tick1).time.dtime = 10000 ∧ (after .tickTokenInsert tick1).erB.staging = [.token 1] := by decide +kernel

theorem test_group_taken : tokenDue tick1 = false ∧ nextGroup tick1 = some (.mgmt .A, g1) ∧ stagingRoom tick1 g1.size .A = true ∧
    (after .groupTaken tick1).erA.staging = [.group g1] ∧ ((after .groupTaken tick1).queue 0).occ = 0 := by decide +kernel

/-- A task of partition 0 in slot 1 that lists points 5 and 6, of which it owns 5. -/
def t1 : Task :=
  { slot := 1, kind := .cyclic, prio := 0, part := 0, wdt := 1000, entry := 8, period := 100, phase := 0, trig := 0, tpoint := 0, tlevel := 0,
    vsize := 64, xlist := [5, 6], outs := [7], loops := [2], events := [4] }

/-- Partition 0's program with that task. -/
def p1 : Program :=
  { part := 0, build := 1, edgeInit := false, tasks := [t1], funcs := [], code := [], const := [], vinit := [], insts := [], retain := [],
    obuild := none, drain := 0, migr := [], bodyLen := 0, minc := 0 }

/-- Its first run, which waits for exposure, and one that waits for an engine. -/
def run1 : Run := { slot := 1, no := 1, tick := 9, prio := 0 }

def released : State := withA (fun r => { r with
  programs := [(0, some p1)]
  runs := [run1]
  image := [(5, 0x1234)]
  tick := 9 }) up

/-- ApplyExposureAndDispatchComplete. -/
def stagedUp : State := withA (fun r => { r with staging := [.group g1, .token 1] }) up

theorem test_apply : staged stagedUp .A = true ∧ stagedUp.erA.runs.all (fun x => x.phase != .waiting) = true ∧ flipDue stagedUp.erA = false ∧
    splitStaging stagedUp.erA.staging = some ([g1], 1, []) ∧ awaitsMigration stagedUp.erA 1 = false ∧
    (after (.applyPhase .A 0) stagedUp).erA.tick = 1 ∧ (after (.applyPhase .A 0) stagedUp).erA.staging = [] ∧
    (after (.applyPhase .A 0) stagedUp).erA.applied = stagedUp.erA.applied + 1 := by decide +kernel

theorem test_exposure : nextRun released.erA .waiting = some run1 ∧ taskOf released.erA 1 = some t1 ∧ findRun released.erA 1 1 = some run1 ∧
    (findRun (after (.exposure .A) released).erA 1 1).map Run.phase = some .exposed ∧
    (findRun (after (.exposure .A) released).erA 1 1).map (fun x => x.exposure.length) = some 2 := by decide +kernel

def exposed : State := withA (fun r => { r with runs := [{ run1 with phase := .exposed }] }) released

theorem test_dispatch : EngId.exists e0 = true ∧ (engineOf exposed.erA 0).running = false ∧ engineServes exposed e0 = true ∧
    nextRun exposed.erA .exposed = some { run1 with phase := .exposed } ∧ (engineOf (after (.runDispatch e0) exposed).erA 0).running = true ∧
    (engineOf (after (.runDispatch e0) exposed).erA 0).pc = 8 := by decide +kernel

/-- ImageFollowsUpdatesAndTheSweep, the update: point 0x205 is a REAL32 input. -/
def inp : Region := { up.erA with attr := [(0x205, 2 ^ 62)], image := [(0x205, 0x400)] }

theorem test_input_meets : isInput (modeOf inp 0x205) = true ∧ forceOn inp 0x205 = none ∧ tableWf 0 inp.image = true ∧
    tableWf 0 inp.stamps = true ∧ typeOf inp 0x205 = tyReal ∧
    (let w (v : W32) : W64 := look 0 (updateInput inp 77 0x205 v false false).image 0x205
     valueOf (w 0x3F800000) = 0x3F800000 ∧ bit (w 0x3F800000) sGood = true ∧ bit (w 0x7FC00000) sBad = true ∧
     bit (w 0x7FC00000) sGood = false) := by decide +kernel

/-- ImageFollowsUpdatesAndTheSweep, the sweep: a stamp 2^31 + 1 ticks old moves by one, a stamp 2^31 ticks old does not. -/
def old : State := withA (fun r => { r with tick := 0x80000002, stamps := [(5, 1), (6, 2)] }) up

theorem test_sweep : tableWf 0 old.erA.stamps = true ∧ look 0 (after (.stampSweep .A 5) old).erA.stamps 5 = 2 ∧
    look 0 (after (.stampSweep .A 6) old).erA.stamps 6 = 2 ∧ ageAt old.erA.tick 1 = ageAt old.erA.tick 2 := by decide +kernel

/-! ### Field channels -/

/-- A classical frame with ID 0x123 and two bytes. -/
def f123 : Frame :=
  { stamp := 0, fmt := .classical, ide := false, brs := false, esi := false, sec := false, len := 2, id := 0x123, sdt := 0, vcid := 0, af := 0,
    data := [0x34, 0x12] }

/-- Filter 0: the range from ID 0x120 goes to buffer 2 and on. -/
def toBuf2 : SMap (W64 × W64) := [(0, (BitVec.ofNat 64 (2 ^ 63 + 2 ^ 50 * 2), BitVec.ofNat 64 (0x123 * 2 ^ 32 + 0x1FFFFFFF)))]

/-- A running channel: buffer 2 is valid and read by programs, buffer 4 is mapped to points. -/
def ch3 : Channel :=
  { state := .running, filters := toBuf2, rx := [(2, { cfg := 0xC0000000 }), (4, { cfg := 0x80000000 })], rxErr := 95 }

/-- A part with that channel as channel 3. -/
def f3 : State := withChan 3 ch3 up

theorem test_chan_ready : f3.powered = true ∧ tableWf ({} : Channel) f3.chans = true ∧ tableWf ({} : RxBuf) (f3.chan 3).rx = true ∧
    tableWf ({} : TxBuf) (f3.chan 3).tx = true ∧ tableWf ({} : Station) (f3.chan 3).stations = true ∧
    tableWf 0 (f3.chan 3).counters = true := by decide +kernel

/-- FieldReceptionFollowsTheFilters. -/
theorem test_field_read : (f3.chan 3).onBus = true ∧ (f3.chan 3).opmode = 0 ∧ fmtEnabled (f3.chan 3) f123.fmt = true ∧ (f3.chan 3).tmen = false ∧
    filterTarget (f3.chan 3) (normFrame f123) = some 2 ∧ bit ((f3.chan 3).rxb 2).cfg 31 = true ∧ bits ((f3.chan 3).rxb 2).cfg 6 0 = 0 ∧
    bit ((f3.chan 3).rxb 2).cfg 30 = true ∧
    (let t := after (.fieldFrameValid 3 f123 false) f3
     ((t.chan 3).rxb 2).buf = some f123 ∧ ((t.chan 3).rxb 2).received = 1 ∧ (t.chan 3).rxErr = 94 ∧ look 0 (t.chan 3).counters 0 = 1 ∧
     Pending t .host (288 + 24) = true) := by decide +kernel

/-- The same with the filter to buffer 4, whose one entry puts the frame's 16 bits into point 0x205. -/
def map4 : State :=
  withA (fun _ => inp) (withChan 3 { ch3 with
    filters := [(0, (BitVec.ofNat 64 (2 ^ 63 + 2 ^ 50 * 4), BitVec.ofNat 64 (0x123 * 2 ^ 32 + 0x1FFFFFFF)))]
    map := [(0, (BitVec.ofNat 64 (2 ^ 63 + 15 * 2 ^ 52 + 0x205 * 2 ^ 32 + 4 * 2 ^ 8), 0))] } up)

theorem test_field_mapped : filterTarget (map4.chan 3) (normFrame f123) = some 4 ∧ entriesOf (map4.chan 3) false 4 ≠ [] ∧
    (frameUpdates map4.image (entriesOf (map4.chan 3) false 4) ((normFrame f123).data.take f123.len)).2 = 0 ∧
    (let t := after (.fieldFrameValid 3 f123 false) map4
     ((t.chan 3).rxb 4).mapLock = true ∧ (t.queue (sourceQueue (.field 3))).held.length = 1) := by decide +kernel

theorem test_field_remote : (let t := after (.fieldFrameValid 3 f123 true) f3
    look 0 (t.chan 3).counters 2 = 1 ∧ (t.chan 3).rx = ch3.rx ∧ (t.chan 3).rxErr = 94) ∧
    fmtEnabled (f3.chan 3) .fd = false ∧
    (let t := after (.fieldFrameValid 3 { f123 with fmt := .fd } false) f3
     (t.chan 3).state = .exception ∧ look 0 (t.chan 3).counters 1 = 1) ∧
    (let t := after (.protocolException 3 true) f3
     (t.chan 3).state = .exception ∧ look 0 (t.chan 3).counters 1 = 1) := by decide +kernel

def chanIn (st : ChState) : State := withChan 3 { ch3 with state := st } up

theorem test_integration : (after (.busIntegration 3) (chanIn .exception)).chan 3 = ch3 ∧
    (after (.busIntegration 3) (chanIn .integrating)).chan 3 = ch3 ∧
    Pending (after (.busIntegration 3) (chanIn .integrating)) .host (288 + 24 + 7) = true := by decide +kernel

theorem test_start_joins_nothing : let s := { chanIn .integrating with dev := State.reset.dev }
    ((after (.busIntegration 3) s).chan 3).state = .integrating := by decide +kernel

def locked : State := withChan 3 { ch3 with rx := [(4, { cfg := 0x80000000, mapLock := true, buf := some f123 })] } up

theorem test_unlock : ((locked.chan 3).rxb 4).mapLock = true ∧ ((locked.chan 3).rxb 4).shadow = none ∧
    (locked.queue (sourceQueue (.field 3))).waiting.any (fun g => g.buf == some 4) = false ∧
    ((after (.bufferUnlock 3 4) locked).chan 3).rxb 4 = { cfg := 0x80000000, delivered := 1 } := by decide +kernel

/-- FieldErrorConfinementRunsItsCourse: a transmitter's count reaches 255, then 256; a receiver's passes 127. -/
def err3 (tec : BitVec 9) (rec_ : BitVec 8) : State := withChan 3 { ch3 with tec := tec, rxErr := rec_, sending := .buffer 5 } up

theorem test_bus_error : (f3.chan 3).state = .running ∧ (f3.chan 3).err = .active ∧ (f3.chan 3).opmode = 0 ∧ NoWrites (f3.chan 3) ∧
    errStateOf 255 127 = .passive ∧ errStateOf 256 0 = .busOff ∧ (((err3 247 0).chan 3).txb 5).oneShot = false ∧
    (let t := after (.busError 3 .stuff true false false) (err3 247 0)
     (t.chan 3).err = .passive ∧ (t.chan 3).tec = 255 ∧ look 0 (t.chan 3).counters (errIndex .stuff) = 1) ∧
    ((after (.busError 3 .crc false false false) (err3 0 127)).chan 3).err = .passive ∧
    ((after (.busError 3 .crc false false true) (err3 0 120)).chan 3).rxErr = 128 ∧
    ((after (.busError 3 .ack true true false) (err3 200 0)).chan 3).tec = 200 ∧
    (let t := after (.busError 3 .stuff true false false) (err3 248 0)
     (t.chan 3).err = .busOff ∧ (t.chan 3).sending = .nothing ∧ look 0 (t.chan 3).counters 12 = 1 ∧ Pending t .host (288 + 24 + 2) = true) := by
  unfold NoWrites; decide +kernel

def off (rlimit : Nat) (err : ErrState) : State :=
  withChan 3 { ch3 with record := [BitVec.ofNat 64 (2 ^ 63 + 2 ^ 32 + rlimit * 2 ^ 24), 0, 0, 0, 0, 0, 0, 0], err := err, tec := 256 } up

theorem test_recovery : bits ((off 1 .busOff).chan 3 |>.cw 0) 47 32 ≠ 0 ∧ bits ((off 1 .busOff).chan 3 |>.cw 0) 31 24 = 1 ∧
    ((off 1 .busOff).chan 3).recoveries.length = 0 ∧ ((after (.recoverDelay 3) (off 1 .busOff)).chan 3).err = .recovering ∧
    ((after (.recoverDelay 3) (off 0 .busOff)).chan 3).recoverBy = 2 ∧
    ((after (.busOffRecovered 3) (off 0 .recovering)).chan 3).err = .active ∧ ((after (.busOffRecovered 3) (off 0 .recovering)).chan 3).tec = 0 := by
  decide +kernel

def stopping (cause : Nat) : State :=
  withChan 3 { ch3 with state := .stopping, stopCause := cause, nextRecord := some [BitVec.ofNat 64 (2 ^ 63), 0, 0, 0, 0, 0, 0, 0] } up

theorem test_stopped : ((stopping 2).chan 3).sending = .nothing ∧ ((after (.channelStopped 3) (stopping 2)).chan 3).state = .integrating ∧
    ((after (.channelStopped 3) (stopping 3)).chan 3).state = .isolated ∧
    ((after (.channelStopped 3) (stopping 2)).chan 3).nextRecord = none ∧ bit ((f3.chan 3).cw 0) 59 = false ∧
    look 0 ((after (.dominantTimeout 3) f3).chan 3).counters 5 = 1 := by decide +kernel

/-- FieldTransmissionFollowsItsOrder: buffer 5 refreshes every period, with a template and no mapped point. -/
def tx5 (x : TxBuf) (c : Channel) : State := withChan 3 { c with tx := [(5, x)] } up

def refreshed : State := tx5 { ctrl := BitVec.ofNat 64 (2 ^ 63 + 2 ^ 36), template := some f123 } ch3

theorem test_refresh : bits ((refreshed.chan 3).txb 5).ctrl 59 36 ≠ 0 ∧ bit ((refreshed.chan 3).txb 5).ctrl 63 = true ∧
    ((refreshed.chan 3).txb 5).template = some f123 ∧ allDown refreshed 3 5 = false ∧
    ((after (.refresh 3 5) refreshed).chan 3).txb 5 =
      { ctrl := BitVec.ofNat 64 (2 ^ 63 + 2 ^ 36), template := some f123, lastRaw := some [], builds := 1, built := 1, waitingNo := 1,
        waiting := some f123 } := by decide +kernel

def waiting5 : State := tx5 { ctrl := BitVec.ofNat 64 (2 ^ 63), waiting := some f123 } ch3

/-- A time master with a reference due, and one with an emergency frame pending as well. -/
def master (e : Byte) : Channel :=
  { ch3 with
    record := [BitVec.ofNat 64 (2 ^ 63 + 2 ^ 55), 0, 0, 0, BitVec.ofNat 64 (2 ^ 48), 0, 0, 0]
    refDue := true
    emergPend := e
    emerg := [(2, some f123)] }

theorem test_bus_idle : (waiting5.chan 3).sends = true ∧ firstEmergency (waiting5.chan 3) = none ∧ bestBuffer (waiting5.chan 3) = some 5 ∧
    ((waiting5.chan 3).txb 5).offer = some f123 ∧
    (let t := after (.busIdle 3) waiting5
     (t.chan 3).sending = .buffer 5 ∧ ((t.chan 3).txb 5).committed = some f123 ∧ ((t.chan 3).txb 5).inFlight = true ∧
     (t.chan 3).lastSent = some f123) ∧
    firstEmergency (master 4) = some 2 ∧ ((after (.busIdle 3) (withChan 3 (master 4) up)).chan 3).sending = .emergency 2 ∧
    (master 0).tmen = true ∧ ((after (.busIdle 3) (withChan 3 (master 0) up)).chan 3).sending = .reference := by decide +kernel

/-- A frame of buffer 5 on the bus, with one-shot or without. -/
def onBus5 (w : Nat) : State := tx5 { ctrl := BitVec.ofNat 64 (2 ^ 63 + w), committed := some f123, inFlight := true } { ch3 with sending := .buffer 5 }

theorem test_frame_sent : ((onBus5 0).chan 3).sending = .buffer 5 ∧
    ((after (.fieldFrameSent 3) (onBus5 0)).chan 3).txb 5 = { ctrl := BitVec.ofNat 64 (2 ^ 63), sent := 1 } ∧
    look 0 ((after (.fieldFrameSent 3) (onBus5 0)).chan 3).counters 4 = 1 ∧
    ((after (.fieldFrameSent 3) (withChan 3 { master 4 with sending := .emergency 2 } up)).chan 3).emergPend = 0 ∧
    look 0 ((after (.fieldFrameSent 3) (withChan 3 { master 4 with sending := .emergency 2 } up)).chan 3).counters 16 = 1 ∧
    ((after (.fieldFrameSent 3) (withChan 3 { master 0 with sending := .reference } up)).chan 3).cycleCount = 1 := by decide +kernel

theorem test_arbitration_lost : ((onBus5 0).chan 3 |>.txb 5).oneShot = false ∧ ((onBus5 (2 ^ 60)).chan 3 |>.txb 5).oneShot = true ∧
    ((after (.arbitrationLost 3) (onBus5 0)).chan 3).txb 5 = { ctrl := BitVec.ofNat 64 (2 ^ 63), committed := some f123 } ∧
    ((after (.arbitrationLost 3) (onBus5 (2 ^ 60))).chan 3).txb 5 = { ctrl := BitVec.ofNat 64 (2 ^ 63 + 2 ^ 60), failed := 1 } ∧
    Pending (after (.arbitrationLost 3) (onBus5 (2 ^ 60))) .host (288 + 24 + 3) = true := by decide +kernel

/-- A time master with a frame that waits for its exclusive window. -/
def window5 : State := tx5 { ctrl := BitVec.ofNat 64 (2 ^ 63 + 2 ^ 20), waiting := some f123 } { master 0 with refDue := false }

theorem test_windows : window5.atPhase (bits ((window5.chan 3).cw 4) 63 48) (bits ((window5.chan 3).cw 4) 47 32) = true ∧ (window5.chan 3).tmen = true ∧ (window5.chan 3).foreign = false ∧ bits ((window5.chan 3).txb 5).ctrl 35 20 ≠ 0 ∧
    firstEmergency (window5.chan 3) = none ∧ ((after (.exclusiveWindow 3 5 true) window5).chan 3 |>.txb 5).failed = 1 ∧
    ((after (.exclusiveWindow 3 5 false) window5).chan 3).sending = .buffer 5 ∧
    ((after (.exclusiveWindow 3 5 false) window5).chan 3 |>.txb 5).committed = some f123 ∧
    ((after (.cycleStart 3) window5).chan 3).refDue = true ∧
    look 0 ((after (.cycleStart 3) (withChan 3 (master 0) up)).chan 3).counters 19 = 1 ∧
    (let s : State := withChan 3 { window5.chan 3 with state := .exception } up
     ((after (.exclusiveWindow 3 5 false) s).chan 3 |>.txb 5).failed = 1) := by decide +kernel

/-- In internal loopback a sent emergency frame is received too; a channel that stops ends the emergency frame whose attempt is
lost. -/
def looped : Frame := { f123 with stamp := 9 }

theorem test_loopback :
    let ch : Channel := { ch3 with record := [BitVec.ofNat 64 (2 ^ 63 + 3 * 2 ^ 60), 0, 0, 0, 0, 0, 0, 0], rxErr := 0, emerg := [(2, some f123)], emergPend := 4 }
    let s := withChan 3 { ch with sending := .emergency 2, sof := 9, lastSent := some f123 } up
    (s.chan 3).opmode = 3 ∧ (s.chan 3).tec = 0 ∧ (s.chan 3).tmen = false ∧ filterTarget (s.chan 3) looped = some 2 ∧
    ((after (.fieldFrameSent 3) s).chan 3 |>.rxb 2).buf = some looped ∧
    (let u := after (.arbitrationLost 3) (withChan 3 { ch with state := .stopping, sending := .emergency 2 } up)
     (u.chan 3).emergPend = 0 ∧ look 0 (u.chan 3).counters 17 = 1) := by decide +kernel

/-- StationsFollowTheirChecks: node 9, limit 2. -/
def node9 (x : Station) : State := withChan 3 { ch3 with stations := [(9, { x with word := BitVec.ofNat 64 (2 ^ 63 + 2 * 2 ^ 48 + 10 * 2 ^ 24) })] } up

theorem test_station_check : bit ((node9 {}).chan 3 |>.st 9).word 63 = true ∧ bits ((node9 {}).chan 3 |>.st 9).word 55 48 = 2 ∧
    ((after (.stationCheck 3 9) (node9 { state := .stale, heard := true, missed := 1 })).chan 3 |>.st 9).state = .up ∧
    ((after (.stationCheck 3 9) (node9 { state := .up })).chan 3 |>.st 9).state = .stale ∧
    ((after (.stationCheck 3 9) (node9 { state := .stale, missed := 1 })).chan 3 |>.st 9).state = .down ∧
    ((after (.stationCheck 3 9) (node9 { state := .stale, missed := 1 })).chan 3 |>.st 9).dropOuts = 1 ∧
    (((after (.stationCheck 3 9) (node9 { state := .up })).queue (sourceQueue (.field 3))).held.map Group.items) = [[.stale (128 * 3 + 9)]] := by
  decide +kernel

/-! ### Network -/

/-- A record: enabled, advertising 10 and 1 Gbit/s, `MAXLEN` 1518. -/
def rec0 (w : Nat) : List W64 := [BitVec.ofNat 64 (2 ^ 63 + 9 * 2 ^ 57 + 1518 * 2 ^ 37 + 100 * 2 ^ 8 * 0 + w), BitVec.ofNat 64 (100 * 2 ^ 16), 0, 0]

/-- NP0 with its link up. -/
def np0 (w : Nat) (f : PortS → PortS) : State := withNet (fun n => { n with port0 := f { n.port0 with record := rec0 w, link := true } }) up

/-- A frame of 64 bytes on the wire, from 02:00:00:00:00:01, with this EtherType. -/
def frame (hi lo : Byte) : NetFrame :=
  { bytes := [2, 0, 0, 0, 0, 9, 2, 0, 0, 0, 0, 1, hi, lo, 0, 1, 0, 7] ++ List.replicate 42 0, wireLen := 64, fcsOk := true, sec := none, seqNo := none,
    bufs := [], ptp := none, pcsErrors := 2 }

/-- Tables of a part whose NR holds no queue and no station. -/
theorem test_net_ready (w : Nat) (f : PortS → PortS) (h : (np0 w f).net.port0.counters = []) : NetReady (np0 w f) :=
  ⟨rfl, rfl, rfl, fun _ => rfl, fun _ => rfl, fun p => by
    cases p with
    | np0 => exact congrArg (fun c => tableWf 0 c) h
    | np1 => rfl⟩

/-- Queue 5 receives and sends in the packet buffer: rings of 64, quotas of 100 cells. -/
def q5 : NQueue := { record := [BitVec.ofNat 64 (2 ^ 63 + 2 ^ 62 + 2 ^ 61 + 6 * 2 ^ 52 + 6 * 2 ^ 48 + 100 * 2 ^ 16 + 100), 0, 0, 0, 0, 0, BitVec.ofNat 64 (2 ^ 46), 0] }

/-- A part with queue 5, to which every frame is steered. -/
def to5 (x : NQueue) : State :=
  withNet (fun n => { n with queues := [(5, x)], filters := [(0, (BitVec.ofNat 64 (2 ^ 63 + 2 ^ 62 + 2 ^ 24 + 2 ^ 7), BitVec.ofNat 64 (5 * 2 ^ 56)))] }) (np0 0 id)

theorem test_queue_ready (x : NQueue) (hx : (x != {}) = true) (hc : tableWf 0 x.counters = true) : NetReady (to5 x) := by
  refine ⟨rfl, ?_, rfl, fun q => ?_, fun _ => rfl, fun p => by cases p <;> rfl⟩
  · show wfFrom ({} : NQueue) none [(5, x)] = true
    simp_all [wfFrom]
  · show tableWf 0 (if 5 = q then x else {}).counters = true
    split
    · exact hc
    · rfl

/-- NetworkReceptionReachesItsOutcome. -/
theorem test_receive : steer (to5 q5) .np0 (frame 8 0).bytes = .queue 5 ∧ ((to5 q5).nq 5).rxen = true ∧ inBuffer (to5 q5) 5 = true ∧
    rxAvail (to5 q5) 5 = 63 ∧ (64 ≤ (to5 q5).net.port0.maxlen) ∧ etherType (frame 8 0).bytes ≠ 0x8808 ∧ (frame 8 0).sec = none ∧ pairMode (to5 q5) = 0 ∧
    (let t := after (.networkFrameReceived .np0 (frame 8 0)) (to5 q5)
     (t.nq 5).frames = [storedFrame (headerWord .np0 (frame 8 0).bytes false false) (frame 8 0).bytes] ∧ look 0 (t.nq 5).counters 1 = 1 ∧
     look 0 t.net.port0.counters 2 = 1 ∧ Pending t .host 165 = true ∧ t.net.port0.winRx = 64) := by decide +kernel

theorem test_receive_errors :
    look 0 (after (.networkFrameReceived .np0 { frame 8 0 with wireLen := 63 }) (np0 0 id)).net.port0.counters 32 = 1 ∧
    look 0 (after (.networkFrameReceived .np0 { frame 8 0 with wireLen := 63 }) (np0 0 id)).net.port0.counters 0 = 63 ∧
    look 0 (after (.networkFrameReceived .np0 { frame 8 0 with wireLen := 63 }) (np0 0 id)).net.port0.counters 34 = 2 ∧
    wouldSteer (to5 q5) .np0 { frame 8 0 with fcsOk := false } = some 5 ∧
    look 0 ((after (.networkFrameReceived .np0 { frame 8 0 with fcsOk := false }) (to5 q5)).nq 5).counters 0 = 1 ∧
    wouldSteer (np0 0 id) .np0 { frame 0x88 8 with fcsOk := false } = none ∧
    look 0 (after (.networkFrameReceived .np0 { frame 0x88 8 with fcsOk := false }) (np0 0 id)).net.port0.counters 31 = 1 ∧
    (np0 (2 ^ 55) id).net.port0.fcmode = 1 ∧ isMacControl (np0 (2 ^ 55) id) (frame 0x88 8) (frame 0x88 8).bytes = true ∧ be16 (frame 0x88 8).bytes (etherOff (frame 0x88 8).bytes + 2) = 1 ∧
    (after (.networkFrameReceived .np0 (frame 0x88 8)) (np0 (2 ^ 55) id)).net.port0.pausePort = 7 ∧
    look 0 (after (.networkFrameReceived .np0 (frame 0x88 8)) (np0 (2 ^ 55) id)).net.port0.counters 24 = 1 := by decide +kernel

theorem test_pause_expiry :
    (after (.pauseExpiry .np0 none) (np0 0 (fun x => { x with pausePort := 9 }))).net.port0.pausePort = 0 ∧
    (after (.pauseExpiry .np0 (some 3)) (np0 0 (fun x => { x with pauseCls := [(3, 5), (4, 6)] }))).net.port0.pauseCls = [(4, 6)] := by
  decide +kernel

theorem test_descriptor_wait : ((to5 { q5 with stalled := [{ word := 0, bytes := [1, 2] }] }).nq 5).stalled = [{ word := 0, bytes := [1, 2] }] ∧
    (let t := after (.receiveDescriptorWait 5 []) (to5 { q5 with stalled := [{ word := 0, bytes := [1, 2] }] })
     (t.nq 5).frames = [{ word := descWord 0 0 1 2, bytes := [1, 2] }] ∧ (t.nq 5).stalled = [] ∧ look 0 (t.nq 5).counters 1 = 1) := by
  decide +kernel

/-- A doorbell to the last index of the ring. -/
theorem test_queue_doorbell : q5.txSize = 64 ∧ (after (.queueDoorbell 5 0x8000003F) (to5 q5)).nq 5 = { q5 with txProd := 63 } ∧
    (after (.queueDoorbell 5 0x3F) (to5 q5)).nq 5 = { q5 with rxProd := 63 } ∧
    look 0 ((after (.queueDoorbell 5 0x40) (to5 q5)).nq 5).counters 10 = 1 := by decide +kernel

/-- NetworkTransmissionFollowsTheScheduler: queue 5 with its rings in a window at 0x1000. -/
def inHost : NQueue :=
  { record := [BitVec.ofNat 64 (2 ^ 62 + 6 * 2 ^ 48 + 100), 0, 0x1000, 0, 0x1000, 0x1000, BitVec.ofNat 64 (2 ^ 46 + 7 * 2 ^ 60 + 2 ^ 48), 0], txProd := 1 }

def host5 : State := { to5 inHost with hr := { up.hr with pcie := true } }

def d1 : TxDesc := { addr := 0x1100, eop := true, pcp := 3, data := (frame 8 0).bytes }

theorem test_fetch : inBuffer host5 5 = false ∧ queuePorts host5 5 = [.np0] ∧ inWindow inHost 0x1100 60 = true ∧
    (tagFrame inHost d1.data 3).map Prod.snd = some 3 ∧
    (let t := after (.transmitFetch 5 [d1]) host5
     t.net.port0.copies.map (fun f => (f.src, f.cls, f.bytes.length)) = [(5, 3, 64)] ∧ (t.nq 5).txCons = 1 ∧ (t.nq 5).pendingTx = 1 ∧
     look 0 (t.nq 5).counters 5 = 1) := by decide +kernel

/-- A frame of queue 5 in class 3. -/
def tf : TxFrame := { src := 5, cls := 3, bytes := [1, 2, 3], id := 7 }

theorem test_transmit_start :
    (let s := np0 0 (fun x => { x with copies := [tf] })
     chooseFrame s s.net.port0 = some tf ∧ ptpFrame tf.bytes = false ∧
     (after (.transmitStart .np0) s).net.port0.sending = some { tf with wire := onWire s .np0 tf } ∧ (onWire s .np0 tf).length = 64) ∧
    (after (.transmitStart .np0) (np0 0 (fun x => { x with copies := [tf] }))).net.port0.rr = [(3, 5)] ∧
    ((after (.transmitStart .np0) (np0 0 (fun x => { x with copies := [tf], ctrlFrames := [(0, 9)] }))).net.port0.sending.map TxFrame.src) =
      some srcControl := by decide +kernel

/-- A Sync of the PTP engine leaves in one step, with its timestamp in the FIFO. -/
def sync : TxFrame :=
  { src := srcPtp, cls := 0, id := 8, bytes := [1, 0x1B, 0x19, 0, 0, 0, 2, 0, 0, 0, 0, 1, 0x88, 0xF7, 0, 2, 0, 44] ++ List.replicate 42 0 }

theorem test_transmit_sync :
    let s := np0 0 (fun x => { x with copies := [sync] })
    chooseFrame s s.net.port0 = some sync ∧ ptpFrame sync.bytes = true ∧ ptpType sync.bytes = 0 ∧
    bit (sync.bytes.getD (ptpOff sync.bytes + 6) 0) 1 = false ∧ secured s.net.port0 sync.bytes = false ∧
    (after (.transmitStart .np0) s).net.port0.egress.length = 1 := by decide +kernel

theorem test_frame_sent_net : (let s := withNet (fun n => { n with port0 := { n.port0 with sending := some tf } }) (to5 { q5 with pendingTx := 1, txCells := 1 })
    hasCopy s.net.port1 7 = false ∧ bit s.net.port0.macsec 0 = false ∧
    (let t := after (.networkFrameSent .np0) s
     t.net.port0.sending = none ∧ look 0 t.net.port0.counters 3 = 1 ∧ (t.nq 5).pendingTx = 0 ∧ (t.nq 5).txCells = 0 ∧
     look 0 (t.nq 5).counters 6 = 1)) := by decide +kernel

theorem test_xoff_lpi :
    (after (.xoffRepeat .np0 3) (np0 0 (fun x => { x with xoff := [(3, true)] }))).net.port0.ctrlFrames = [(3, 0xFFFF)] ∧
    bit ((np0 (2 ^ 54) id).net.port0.pw 0) 54 = true ∧ readyCopies (np0 (2 ^ 54) id) (np0 (2 ^ 54) id).net.port0 = [] ∧
    runs (.lpiEntry .np0) (np0 (2 ^ 54) id) = true ∧
    (after (.lpiWake .np0) (np0 0 (fun x => { x with lpi := true, copies := [tf] }))).net.port0.lpi = false ∧
    (after (.lpiWake .np0) (np0 0 (fun x => { x with lpi := true, copies := [tf] }))).net.port0.sending.map TxFrame.id = some 7 := by decide +kernel

/-- A pair under PRP, both links up. -/
def prp (f : PortS → PortS) : State :=
  withNet (fun n => { n with
    port0 := f { n.port0 with record := rec0 (2 ^ 51), link := true }
    port1 := { n.port1 with record := rec0 (2 ^ 51), link := true } }) up

theorem test_supervision : pairMode (prp id) = 1 ∧
    (let t := after .supervisionSend (prp id)
     t.net.port0.copies.map TxFrame.src = [130] ∧ t.net.port1.copies.map TxFrame.id = [0] ∧ t.net.nextId = 1 ∧ t.net.seqNo = 1) := by
  decide +kernel

theorem test_ptp_send : (after (.ptpMessageSend .np0 [1, 2]) (np0 0 id)).net.port0.copies.map TxFrame.src = [srcPtp] ∧
    (after (.ptpMessageSend .np1 [1, 2]) (np0 0 id)).net.port1.copies = [] ∧
    look 0 (after (.ptpMessageSend .np1 [1, 2]) (np0 0 id)).net.port1.counters 37 = 1 := by decide +kernel

/-- LinksFollowPollsAndRateSteps. -/
theorem test_link_down : (np0 0 id).time.srcPort ≠ some .np0 ∧ (np0 0 id).net.port1.step = .full ∧
    (let t := after (.linkDown .np0 1) (np0 0 (fun x => { x with sending := some tf, lpi := true }))
     t.net.port0.link = false ∧ t.net.port0.sending = none ∧ t.net.port0.ptp = .faulty ∧ look 0 t.net.port0.counters 56 = 1) ∧
    (after (.phyPoll .np0 0xFFFB 1) (np0 0 id)).net.port0.link = false ∧ (after (.phyPoll .np0 4 1) (np0 0 id)).net.port0.an = 1 ∧
    (after (.phyPoll .np0 4 1) (np0 0 id)).net.port0.link = true := by decide +kernel

def lockedLane (s : State) : State := { s with dev := { s.dev with macrOnMact0 := false } }

theorem test_start_links_nothing :
    let s := lockedLane (np0 0 (fun x => { x with link := false, pcs := 4 }))
    (after (.linkUp .np0 0) { s with dev := { s.dev with dstate := .start } }).net.port0.link = false := by decide +kernel

theorem test_link_up : (np0 0 id).net.port0.enable = true ∧ laneLock (lockedLane (np0 0 id)) .np0 = true ∧
    (let t := after (.linkUp .np0 0) (lockedLane (np0 0 (fun x => { x with link := false, pcs := 4 })))
     t.net.port0.link = true ∧ t.net.port0.ptp = .listening ∧ (after (.linkDown .np0 2) t).dev.macrOnMact0 = true) ∧
    (after (.linkUp .np0 0) (np0 0 (fun x => { x with link := false }))).net.port0.link = false ∧
    (after (.linkUp .np0 0) (lockedLane (np0 0 (fun x => { x with link := false, pcs := 4, step := .upstep })))).net.port0.step = .full ∧
    (np0 (2 ^ 53) id).net.port0.stepen = true ∧
    (after (.linkUp .np0 0) (lockedLane (np0 (2 ^ 53) (fun x => { x with link := false, pcs := 4, step := .downstep })))).net.port0.step = .low ∧
    (after (.linkWaitTimeout .np0) (np0 0 (fun x => { x with step := .downstep }))).net.port0.step = .upstep ∧
    look 0 (after (.linkWaitTimeout .np0) (np0 0 (fun x => { x with step := .upstep }))).net.port0.counters 59 = 1 := by decide +kernel

theorem test_load_windows : (after .loadWindow1ms (np0 0 (fun x => { x with msRx := 9 }))).net.port0.msRx = 0 ∧
    (after .loadWindow1s (np0 0 (fun x => { x with winRx := 9, hold := 3 }))).net.port0.winRx = 0 ∧
    (let s := prp (fun x => { x with record := [BitVec.ofNat 64 (2 ^ 63 + 9 * 2 ^ 57 + 2 ^ 53 + 2 ^ 51 + 1518 * 2 ^ 37 + 50 * 2 ^ 8 + 100), 0, 0, 0], hold := 59 })
     underLoad s.net.port0 = true ∧ s.net.port0.stepen = true ∧ bits (s.net.port0.pw 0) 31 16 = 0 ∧
     (let t := after .loadWindow1s s
      t.net.port0.step = .downstep ∧ t.net.port0.link = false ∧ t.net.port0.rate = 3 ∧ look 0 t.net.port0.counters 57 = 1)) := by decide +kernel

/-- StationsFollowTheirChecks: Vellek station 3, limit 2, one output block of point 0x300. -/
def vel (x : VStation) : State :=
  withNet (fun n => { n with
    vellek := [0, 0, 0, 4, 0, 0, 0, 0x80] ++ List.replicate 56 0
    vblocks := [(0, BitVec.ofNat 64 (3 * 2 ^ 62 + 0x300 * 2 ^ 32 + 1))]
    vstations := [(3, { x with record := [0, 0, 0, 10, 0, 0, 2, 0x90] ++ leBytes 8 (10 * 2 ^ 24) ++ leBytes 8 0 ++ leBytes 8 (2 ^ 24) ++ List.replicate 32 0 })] })
    (prp id)

theorem test_vellek_checks : vellekOn (vel {}) = true ∧ ((vel {}).vst 3).valid = true ∧ ((vel {}).vst 3).limit = 2 ∧
    outBlocks (vel {}) ((vel {}).vst 3) = [(0x300, 1)] ∧ (vel {}).atPhase (bits (((vel {}).vst 3).vw 1) 47 24) (bits (((vel {}).vst 3).vw 1) 23 0) = true ∧
    (vel {}).atPhase (bits (((vel {}).vst 3).vw 0) 47 24) (bits (((vel {}).vst 3).vw 0) 23 0) = true ∧ waitingFrames (vel {}) 3 = [] ∧
    ((after (.vellekOutputBuild 3) (vel { state := .up })).vst 3).outSeq = 1 ∧
    (after (.vellekOutputBuild 3) (vel { state := .up })).net.port1.copies.map TxFrame.src = [srcVellek 3] ∧
    look 0 ((after (.vellekOutputBuild 3) (vel { state := .down })).vst 3).counters 11 = 1 ∧
    ((after (.vellekStationCheck 3) (vel { state := .stale, heard := true })).vst 3).state = .up ∧
    ((after (.vellekStationCheck 3) (vel { state := .up })).vst 3).state = .stale ∧
    ((after (.vellekStationCheck 3) (vel { state := .waiting, missed := 1 })).vst 3).state = .down := by decide +kernel

/-! ### Time, supplies, clocks and resets -/

/-- TimeUnitFollowsItsCommands. -/
def starting : State := { up with dev := { up.dev with dstate := .start } }

theorem test_step_write : starting.powered = true ∧ starting.dev.dstate = .start ∧ starting.time.stepped = false ∧
    (after (.tuStepWrite 0xFFFFFFFFFFFFFFFF true) starting).time.dtime = 0xFFFFFFFFFFFFFFFF ∧
    (after (.tuStepWrite 5 true) up).time = up.time ∧ (after (.tuStepWrite 5 false) starting).time = up.time := by decide +kernel

/-- The record of the time unit with PPS output, and with PPS as the source. -/
def pps : State := { up with time := { up.time with rec0 := BitVec.ofNat 64 (2 ^ 61 + 2 ^ 52), ppsFifo := List.replicate 16 3, dtime := 99 } }
def ppsSrc : State := { up with time := { up.time with rec0 := BitVec.ofNat 64 (2 * 2 ^ 62) } }

/-- In its high time, with the pin high. -/
def ppsLate : State := { pps with time := { pps.time with ppsOut := true } }

theorem test_step_source : (stepSource { starting with time := { starting.time with offset := some (-5) } }) = (1, 5) ∧
    (stepSource { starting with time := { starting.time with dtime := 30, ppsLast := some 10 }, dev := { starting.dev with rtc := 2000000000 } }) =
      (2, 2000000020) ∧ (stepSource starting).1 = 3 := by decide +kernel

theorem test_pps : bit pps.time.rec0 61 = true ∧ pps.time.ppsOut = false ∧ (after .ppsOutRise pps).time.ppsOut = true ∧
    (after .ppsOutRise pps).time.dtime = 1000000000 ∧ (coreEdges pps 1250000000).time.ppsOut = true ∧ (coreEdges pps 1251250000).time.ppsOut = false ∧
    (coreEdges pps 10).time.ppsOut = false ∧ (coreEdges ppsLate 10).time.ppsOut = true ∧
    (after .ppsOutFall ppsLate).time.ppsOut = false ∧ (after .ppsOutFall ppsLate).time.dtime = 1000000 ∧ bit up.time.rec0 61 = false ∧ timeSource pps ≠ 2 ∧
    (after .ppsInEdge pps).time.ppsLast = some 99 ∧ (after .ppsInEdge pps).time.ppsFifo.length = 16 ∧
    timeSource ppsSrc = 2 ∧ ppsSrc.time.ppsLast = none ∧ (after .ppsInEdge ppsSrc).time.ppsInvalid = 1 := by decide +kernel

theorem test_source_lost : timeSource ppsSrc ≠ 0 ∧ ppsSrc.img.update = none ∧
    (after .timeSourceLost { ppsSrc with time := { ppsSrc.time with tstate := 2, slewRem := 7 } }).time.tstate = 3 ∧
    (after .timeSourceLost ppsSrc).time.tstate = ppsSrc.time.tstate ∧ (after .rtcUpdate pps).dev.rtc = 99 := by decide +kernel

/-- SuppliesAndStartsFollowTheirRules. -/
theorem test_supplies_good : (after .suppliesGood State.reset).dev.dstate = .run ∧ (after .suppliesGood State.reset).duplex = true := by
  decide +kernel

/-- A part without supplies and a part whose power fails. -/
def noSupply : State := { up with dev := { up.dev with dstate := .off, vinA := true, pfwLow := true } }
def failing : State := { up with dev := { up.dev with pfwLow := true } }

theorem test_supplies_wait : (noSupply.dev.dstate = .off ∧ noSupply.dev.vinA = true ∧ noSupply.dev.pfwLow = true) ∧
    (after .suppliesGood noSupply).dev.dstate = .start ∧ (after .suppliesGood noSupply).dev.pcycle = satInc noSupply.dev.pcycle := by decide +kernel

/-- OnlySuppliesGoodWakesThePart: what would start a powered part leaves one in DORMANT or OFF. -/
theorem test_no_other_wakes : let d := { noSupply with dev := { noSupply.dev with dstate := .dormant } }
    d.dev.dstate = .dormant ∧ d.pending = [] ∧ after .resetN d = d ∧ after .haltRestart noSupply = noSupply ∧ (coreEdge d).dev.dstate = .dormant ∧
    (after .suppliesGood { d with dev := { d.dev with pfwLow := false } }).dev.dstate = .run ∧ (after .suppliesGood d).dev.startStep = 0 := by decide +kernel

theorem test_reset_n : failing.powered = true ∧ (after (.resetN) failing).dev.dstate = .start ∧ (after .resetN failing).pair.stateB = .standby := by
  decide +kernel

theorem test_halt_restart : let s := { failing with dev := { failing.dev with dstate := .halt } }
    s.dev.haltLimit = false ∧ s.dev.pfwLow = true ∧ (after .haltRestart s).dev.dstate = .start := by decide +kernel

theorem test_power_warning : up.dev.pfwLow = false ∧ up.img.transfers = [] ∧ (after .powerWarning up).dev.pfwLow = true ∧
    (after .powerWarning up).recd.frozen = false ∧ (after .commitCutoff failing).dev.cutoff = true ∧
    failing.dev.vinA = true ∧ failing.dev.vinB = true ∧ (after .powerWarningCleared failing).dev.pfwLow = false := by decide +kernel

theorem test_commit_waits : let s := { failing with dev := { failing.dev with cutoff := true } }
    let t := logConfig s 0 0x0204 [1]
    t.img.cfgLog0 = [] ∧ t.img.commits = [.config 0 0x0204 [1]] ∧ (after .powerWarningCleared t).img.cfgLog0 = [(0, 0x0204, [1])] ∧
    (after .powerWarningCleared t).img.commits = [] := by decide +kernel

theorem test_vin : up.dev.vinA = true ∧ up.dev.vinB = true ∧ up.duplex = true ∧ up.img.update = none ∧
    (after (.vinOutOfRange true 0) up).serving .B = false ∧ (after (.vinOutOfRange true 0) up).pair.active = .A ∧
    (after (.vinInRange false 240) up).dev.mvA = 240 ∧ (after (.vinInRange true 240) up).dev.mvB = 240 := by decide +kernel

theorem test_brown_out : (after .brownOut up).dev.dstate = (if up.dev.vbat || up.dev.shipCell then .dormant else .off) ∧
    (after .brownOut { up with dev := { up.dev with vbat := false, shipCell := false } }).dev.dstate = .off := by decide +kernel

theorem test_vbat : (after .vbatLost { up with dev := { up.dev with dstate := .dormant } }).dev.dstate = .off ∧
    (after .vbatApplied noSupply).dev.dstate = .dormant := by decide +kernel

theorem test_tamper_wait : let s := { starting with dev := { starting.dev with waitT1 := true, pfwLow := true } }
    (s.dev.dstate = .start ∧ s.dev.waitT1 = true ∧ s.dev.pfwLow = true) ∧ (after .tamperWaitExpiry s).dev.waitT1 = false ∧
    (after .tamperWaitExpiry s).sec.secOff = true := by decide +kernel

/-- ClocksCrossingsAndResetsFollowTheirRules. -/
theorem test_pll : (if up.dev.pll then up.dev.pll0Retired else up.dev.pll1Retired) = false ∧
    (after (.pllChangeover true) up).dev.pll = !up.dev.pll ∧
    (let s := { up with dev := { up.dev with pll0Retired := true, pll1Retired := true } }
     (if s.dev.pll then s.dev.pll0Retired else s.dev.pll1Retired) = true ∧ (after (.pllChangeover false) s).dev.dstate = .halt) := by
  decide +kernel

theorem test_reference : up.dev.refLost = false ∧ (after .referenceLost up).dev.refLost = true ∧
    (let s := { up with dev := { up.dev with refLost := true } }
     s.dev.refExpired = false ∧ (after .referenceHoldoverExpired s).dev.refExpired = true ∧ (after .referenceReturn s).dev.refLost = false) := by
  decide +kernel

theorem test_crossing_dead : (0xD000, 2) ∉ up.dev.deadCrossings ∧ (0xD000 : BitVec 16).toNat = 6 * 8192 + 4 * 1024 ∧
    ((after (.crossingDead 0xD000 2 false) up).queue 0xD000).dead = true ∧ (after (.crossingDead 0xD000 2 false) up).hr.running = false ∧
    (0xFFFF, 3) ∉ up.dev.deadCrossings ∧ (after (.crossingDead 0xFFFF 3 false) up).sec.secOff = true := by decide +kernel

/-- A queue that a reset emptied: ID 0xFFFE, no credit. -/
def emptied : State :=
  { up with
    fab := { up.fab with queues := [(0xFFFE, { avail := 0, armed := false })] }
    dev := { up.dev with deadCrossings := [(0xFFFE, 1), (0xFFFF, 1)], deadReset := [(0xFFFE, 1)] } }

theorem test_rearm : (emptied.queue 0xFFFE).armed = false ∧ (emptied.queue 0xFFFE).frozen = false ∧ (emptied.queue 0xFFFE).occ = 0 ∧
    (0xFFFE : BitVec 16) ≠ 0xFFFF ∧ tableWf ({} : FQueue) emptied.fab.queues = true ∧
    (after (.queueRearm 0xFFFE) emptied).queue 0xFFFE = {} ∧ (after (.queueRearm 0xFFFE) emptied).dev.deadCrossings = [(0xFFFF, 1)] := by
  decide +kernel

theorem test_credit_held : let s := { up with fab := { up.fab with queues := [(2053, { avail := 0, armed := false, occ := 2 })] } }
    (after (.queueEntryRemoved 2053) s).queue 2053 = { avail := 0, armed := false, occ := 1, removed := 1 } := by decide +kernel

theorem test_region_reset : alone.serving .B = false ∧ alone.img.update = none ∧ (after (.resetAssert (.region .B)) alone).erB.engines = [] ∧
    (after (.resetAssert (.region .B)) alone).evc.b0.mask = [] ∧ (after (.resetAssert .hr) alone).hr.running = false := by decide +kernel

theorem test_channel_reset : (let s := withChan 3 { ch3 with record := [0x8000000000000000] } up
    (s.chan 3).state = .running ∧ (s.chan 3).nextRecord = none ∧ bit ((s.chan 3).record.getD 0 0) 63 = true ∧
    ((after (.resetAssert (.channel 3)) s).chan 3).state = .integrating ∧ ((after (.resetAssert (.channel 3)) s).chan 3).rxErr = 0) := by
  decide +kernel

/-- R353: a DEAD queue whose stopped domain has not been reset takes no handshake. -/
theorem test_dead_stays : let s := { emptied with dev := { emptied.dev with deadReset := [] } }
    (after (.queueRearm 0xFFFE) s).queue 0xFFFE = s.queue 0xFFFE := by decide +kernel

/-- R362: both inputs leave together. -/
theorem test_both_leave : let s := { up with pending := [.vinOutOfRange false 80] }
    bothLeave s true = true ∧ s.duplex = true ∧ (after (.vinOutOfRange true 80) s).pair = s.pair ∧
    (after (.vinOutOfRange false 80) (after (.vinOutOfRange true 80) s)).dev.pfwLow = true := by decide +kernel

theorem test_reset_timeout : (0xD000 : BitVec 16) ≠ 0xFFFF ∧ (after (.crossingResetTimeout .hr 0xD000) up).hr.running = false ∧
    ((after (.crossingResetTimeout .hr 0xD000) up).queue 0xD000).armed = false := by decide +kernel

def linked : State := { up with hr := { up.hr with pcie := true, linkUp := true } }

theorem test_host_link : linked.hr.pages = [] ∧ linked.hr.linkUp = true ∧ (after .perstN linked).hr.linkUp = false ∧
    (after .hostLinkDown linked).hr.linkUp = false ∧ up.hr.linkUp = false ∧ (after (.hostLinkUp 5 4) up).hr.linkUp = true := by
  decide +kernel

/-! ### Interrupts and the recorder -/

/-- InterruptTargetsFollowTheirRules: target A0 with sources 1023 and 288 undelivered. -/
def evA (e : Evc) : State := { up with evc := { up.evc with a0 := e } }

/-- The enable bit is `EN`; `PMODE` is bit 30. -/
def two (pm : Bool) : Evc :=
  { ctrl := if pm then 0xC0000000 else 0x80000000
    pend := [(9, 1), (31, 0x80000000)]
    undel := [(9, 1), (31, 0x80000000)]
    mask := [(9, 0xFFFFFFFE), (31, 0x7FFFFFFF)]
    level := (List.range 128).map (fun k => (k, 0x77777777)) }

theorem test_delivery : (two false).enable = true ∧ qualifying (evA (two false)) .a0 = [288, 1023] ∧ tableWf 0 (two false).undel = true ∧
    (two false).threshold = false ∧ (two true).threshold = true ∧
    (let t := after (.interruptDelivery .a0) (evA (two false))
     t.evc.a0.depth = 1 ∧ t.evc.a0.idle = false ∧ t.evc.a0.stack = [(true, 0)] ∧ look 0 t.evc.a0.undel 31 = 0 ∧ look 0 t.evc.a0.pend 31 = 0x80000000) ∧
    (after (.interruptDelivery .a0) (evA { two false with mask := [] })) = evA { two false with mask := [] } := by decide +kernel

/-- At HOST under PCI Express, sources 32 and 287: group 1 has its vector unmasked, group 8 has it masked as after reset. -/
def hostMsi : State :=
  { up with
    evc := { up.evc with host := { two false with
      pend := [(1, 1), (8, 0x80000000)], undel := [(1, 1), (8, 0x80000000)], mask := [(1, 0xFFFFFFFE), (8, 0x7FFFFFFF)] } }
    hr := { up.hr with pcie := true, msixTable := [(7, 0)] } }

theorem test_msix : groupsOf (qualifying hostMsi .host) = [1, 8] ∧ vectorMasked hostMsi.hr 1 = false ∧ vectorMasked hostMsi.hr 8 = true ∧
    (after (.interruptDelivery .host) hostMsi).evc.host.msix = [1] ∧ (after (.interruptDelivery .host) hostMsi).hr.pba = 0x100 := by
  decide +kernel

theorem test_eoi : (after (.endOfInterrupt .a0) (evA { two true with depth := 1, request := true })).evc.a0.request = false ∧
    (after (.endOfInterrupt .a0) (evA { two false with depth := 2, idle := false, stack := [(false, 3), (true, 0)] })).evc.a0.rpri = 3 ∧
    (after (.endOfInterrupt .a0) (evA (two false))).evc.a0.eoiErr = true := by decide +kernel

theorem test_pend_write : tableWf 0 (two false).pend = true ∧ tableWf 0 (two false).undel = true ∧
    look 0 (after (.evcPendWrite .a0 31 1 0x80000000) (evA (two false))).evc.a0.pend 31 = 0x80000001 ∧
    look 0 (after (.evcPendWrite .a0 31 1 0) (evA (two false))).evc.a0.undel 31 = 1 := by decide +kernel

theorem test_pmode_write : (after (.evcCtrlPmodeWrite .a0 0xFFFFFFFF) (evA { two false with depth := 2 })).evc.a0.ctrl = 0xC00F0000 ∧
    (after (.evcCtrlPmodeWrite .a0 0xFFFFFFFF) (evA { two false with depth := 2 })).evc.a0.depth = 0 ∧
    (after (.evcCtrlPmodeWrite .a0 0x80000000) (evA { two false with depth := 2 })).evc.a0.depth = 2 ∧
    (after (.holdOffExpiry .a0 31) (evA { two false with holding := 0x80000001 })).evc.a0.holding = 1 := by decide +kernel

/-- RecorderFollowsItsRules: an event of severity 5. -/
def ev0 : Record := { code := 0x1234, sev := 5, src := 2 }
def recOf (f : Rec → Rec) : State := { up with recd := f up.recd }

theorem test_record_write : (recOf (fun r => { r with inq := [ev0] })).recd.frozen = false ∧ (recOf (fun r => { r with inq := [ev0] })).recd.lostIn = 0 ∧
    (let s := recOf (fun r => { r with inq := [ev0], head := 0x7FFFF, seqNo := 0xFFFFFF })
     let t := after .recordWrite s
     (s.recd.slot (s.recd.head.toNat + (ringSlots - 1))).rseq = 0 ∧ t.recd.head = 0 ∧ t.recd.seqNo = 1 ∧
     t.recd.slot 0x7FFFF = { ev0 with rseq := 1 } ∧ t.recd.inq = []) := by decide +kernel

theorem test_record_merge :
    let s := recOf (fun r => { r with inq := [{ ev0 with opTime := 10 }], head := 1, ring := [(0, { ev0 with rseq := 9, opTime := 0 })] })
    (s.recd.slot (s.recd.head.toNat + (ringSlots - 1))).rseq ≠ 0 ∧
    mergeable s.recd.rwin 10 (s.recd.slot (s.recd.head.toNat + (ringSlots - 1))) { ev0 with opTime := 10 } = true ∧
    (after .recordWrite s).recd.head = 1 ∧ ((after .recordWrite s).recd.slot 0).repeats = 1 ∧ ((after .recordWrite s).recd.slot 0).rsec = 10 := by
  decide +kernel

theorem test_freeze : up.recd.frozen = false ∧ up.recd.draining = false ∧ (after (.recCtrlFreezeSet 0x80000A03) up).recd.frozen = true ∧
    (let s := recOf (fun r => { r with frozen := true, freeze := true, holdq := [ev0, ev0] })
     let late : State := { s with time := { s.time with dtime := 10000000000 } }
     s.recd.frozen = true ∧ (after (.recCtrlFreezeClear 0) s).recd.drainCause = 1 ∧ freezeLeft s = 10000 ∧
     (after .freezeExpiry s).recd.frozen = true ∧ freezeLeft late = 0 ∧ (after .freezeExpiry late).recd.drainCause = 3) := by decide +kernel

theorem test_drain : let s := recOf (fun r => { r with draining := true, holdq := [ev0], lostHold := 3 })
    s.recd.draining = true ∧ (after .recorderDrainComplete s).recd.head = 3 ∧ (after .recorderDrainComplete s).recd.drainCount = 1 := by
  decide +kernel

theorem test_window : (after .recWinLastRead (recOf (fun r => { r with cursor := 0x7FFFF }))).recd.cursor = 0 ∧
    (after .recWinFirstRead (recOf (fun r => { r with ring := [(0, { ev0 with rseq := 9 })] }))).recd.window.length = 8 := by decide +kernel

/-- RecorderFollowsItsRules: the brown-out comes next. -/
theorem test_record_cut :
    let s := { recOf (fun r => { r with inq := [ev0] }) with pending := [.brownOut] }
    brownOutNext s = true ∧ tableWf {} s.recd.ring = true ∧ s.recd.frozen = false ∧ s.recd.draining = false ∧ s.recd.lostIn = 0 ∧
    (s.recd.slot (s.recd.head.toNat + (ringSlots - 1))).rseq = 0 ∧ (cutFirst s).recd.inq = [] ∧ ((cutFirst s).recd.slot 0).rseq = 0 ∧
    (cutFirst s).recd.head = 0 := by decide +kernel

/-- RegisterWritesReachTheirUnit: a source that routes to one core alone. -/
theorem test_core_route : (after (.registerWrite (.routeTable true) 300 1) up).evc.toCores = [(300, 1)] ∧
    routed (after (.registerWrite (.routeTable true) 300 1) up).evc .a0 300 = true ∧
    routed (after (.registerWrite (.routeTable true) 300 1) up).evc .a1 300 = false ∧
    (after (.registerWrite (.routeTable true) 287 1) up).evc.toCores = [] := by decide +kernel

/-! ### Security -/

theorem test_mbx_open : MbxOpen up := ⟨rfl, rfl, rfl⟩

/-- TamperAndEntropyFollowTheirRules. -/
def withSec (f : Sr → Sr) : State := { up with sec := f up.sec }

theorem test_tamper_t1 : up.hr.pages = [] ∧ (let s := withSec (fun x => { x with t1Times := List.replicate 7 0 })
     (s.sec.t1Times.filter (fun t => decide (s.dev.rtc.toNat < t + 10 ^ 9))).length < 8 ∧ (after (.tamperT1 3) s).sec.t1Count = 1 ∧
     (after (.tamperT1 3) s).sec.t1 = true) := by decide +kernel

theorem test_tamper_t2 : (let s := withSec (fun x => { x with loopEn := true, slots := [(255, { full := true })] })
     s.sec.loopEn = true ∧ (after (.tamperT2 6) s).sec.bbk = false ∧ ((after (.tamperT2 6) s).kslot 255).full = false) ∧
    (after (.tamperT2 5) up).sec.secOff = true := by decide +kernel

theorem test_t1_end : let s := withSec (fun x => { x with t1 := true })
    s.sec.t1 = true ∧ s.sec.heldPage = none ∧ s.dev.dstate = .run ∧ (after .t1ConditionEnd s).sec.t1 = false := by decide +kernel

/-- R430: a key update that a T1 event holds is committed and answered when the condition ends. -/
theorem test_held_update : let j : Journal := { skind := 2, spart := 0, mtype := 1, counter := 9, subj := 0, authKey := [], policy := false, loopEn := false, ops := [], committed := false }
    let s := withSec (fun x => { x with t1 := true, heldPage := some 3, journal := some j })
    (s.sec.t1 = true ∧ s.dev.dstate = .run ∧ tableWf ({} : Auth) s.sec.parts = true) ∧ (after .t1ConditionEnd s).sec.owner.counter = 9 ∧
    ((after .t1ConditionEnd s).page 3).resp = leBytes 8 9 := by decide +kernel

theorem test_dormant_check : let s := { withSec (fun x => { x with loopEn := true, tamperLog := List.replicate 3 { cls := 2, sensor := 5, aonTime := 0 } }) with
      dev := { up.dev with dstate := .dormant } }
    s.dev.dstate = .dormant ∧ s.sec.tamperLog.length < 4 ∧ (after (.dormantCheck true false) s).sec.tamperLog.length = 4 ∧
    (after (.dormantCheck false true) s).sec.bbk = false := by decide +kernel

theorem test_entropy : (after (.entropyFailure 1) (withSec (fun x => { x with drbgOn := true }))).sec.drbgOn = false ∧
    up.sec.drbgOn = false ∧ bit up.sec.kat 7 = false ∧ (after (.entropyRetest true) up).sec.drbgOn = true ∧
    (after .drbgReseed (withSec (fun x => { x with drbgOn := true, drbgReqs := 9 }))).sec.drbgReqs = 0 := by decide +kernel

theorem test_sr_restart : let s := withSec (fun x => { x with running := false })
    s.sec.running = false ∧ s.img.update = none ∧ (after .srRestartComplete s).sec.running = true ∧ up.sec.running = true ∧ bit up.sec.kat 0 = false := by
  decide +kernel

/-- SR with secrets on, NP0's CAK in slot 7. -/
def secrets : State := { withSec (fun x => { x with
  secretsOn := true
  drbgOn := true
  slots := [(7, { full := true, usage := 1 }), (255, { full := true, owner := 5, usage := 10 })] }) with
  net := { up.net with port0 := { up.net.port0 with cakSlot := 7, sas := [{ receive := true, sci := 9, an := 3, key := [] }] } } }

theorem test_macsec : secrets.powered = true ∧ secrets.sec.running = true ∧ secrets.sec.secretsOn = true ∧ secrets.sec.kat = 0 ∧
    secrets.sec.t1 = false ∧ cakUsable secrets .np0 = true ∧
    ((secrets.port .np0).sas.filter (fun a => a.receive)).length < 16 ∧
    ((after (.srMacsec (.installSa .np0 true 9 3 0 [])) secrets).port .np0).sas.length = 1 ∧
    ((after (.srMacsec (.installSa .np0 true 9 2 0 [])) secrets).port .np0).sas.length = 2 ∧
    ((after (.srMacsec (.installSa .np0 false 9 3 5 [1])) secrets).port .np0).sas.length = 2 ∧
    ((after (.srMacsec (.deleteSa .np0 true 9 3)) secrets).port .np0).sas = [] ∧
    ((after (.srMacsec (.deleteSa .np0 true 8 3)) secrets).port .np0).sas.length = 1 ∧
    runs (.srMacsec (.derive .np0)) secrets = true ∧ runs (.srMacsec (.genSak .np0)) secrets = true ∧
    runs (.srMacsec (.icv .np0 [])) secrets = true ∧ runs (.srMacsec (.wrapSak .np0)) secrets = true ∧ runs (.srVerify [] [] []) secrets = true := by
  decide +kernel

/-- SecurityCommandsFollowTheirRules: the greatest lengths, and a key update that its first check refuses. -/
def bulkUp : State := { secrets with hr := { secrets.hr with pages := [(5, { bctrl := 0xE0000000 })] } }

theorem test_random : (bulkUp.page 5).bulk = true ∧ (bulkUp.page 5).toHost = true ∧ (bulkUp.page 5).segm = true ∧ secrets.sec.drbgOn = true ∧ (256 : W32).toNat ≤ 256 ∧ 1 ≤ (256 : W32).toNat ∧
    (after (.random 5 256) secrets).sec.drbgIdx = secrets.sec.drbgIdx + 1 ∧ (after (.random 5 257) secrets).sec.drbgIdx = secrets.sec.drbgIdx := by
  decide +kernel

theorem test_slot_info : (128 : W32).toNat + (128 : W32).toNat ≤ 256 ∧ (secrets.page 5).bulk = false ∧
    runs (.slotInfo 5 128 128) secrets = true ∧ (answer0 (.srStatus 0) secrets).2 = leBytes 4 0xC0000000 ∧
    (answer0 (.selftest 0 0) secrets).2 = [0, 0, 0, 0] ∧ (answer0 (.selftest 0 0x80) secrets).2 = [0x80, 0, 0, 0] := by decide +kernel

theorem test_key_update : secrets.dev.pfwLow = false ∧ secrets.img.update = none ∧ failedCheck secrets 0 [] = some 1 ∧
    answer0 (.keyUpdate 0 []) secrets = (Stat.refused.code, [1, 0, 0, 0]) ∧
    usable416 (secrets.kslot 255) 1 5 = true ∧ usable416 (secrets.kslot 255) 3 5 = true := by decide +kernel

/-! ### Images and updates -/

def withImg (f : Img → Img) : State := { up with img := f up.img }

/-- A container of a header alone: every field 0. -/
def blank : Bytes := List.replicate headerLen 0

theorem test_image_write : headerLen ≤ blank.length ∧ blank.length ≤ headerLen + hBody blank ∧ hBody blank = 0 := by
  refine ⟨?_, ?_, ?_⟩
  · exact Nat.le_of_eq List.length_replicate.symm
  · exact Nat.le_trans (Nat.le_of_eq List.length_replicate) (Nat.le_add_right _ _)
  · show leNat (((List.replicate headerLen 0).drop 0x40).take 8) = 0
    rw [List.drop_replicate, List.take_replicate]
    rfl

/-- IMAGE_WRITE's target words at the ends of their range, and the slots of a part at reset. -/
theorem test_image_target : (1 ≤ bits (0x10001 : W32) 7 0) ∧ bits (0x10001 : W32) 31 17 = 0 ∧ bits (0x10001 : W32) 15 9 = 0 ∧
    (4 ≥ bits (0x10104 : W32) 7 0) ∧ (2 ≤ bits (0x10104 : W32) 7 0) ∧ bits (0x10104 : W32) 31 17 = 0 ∧ transferOf up 0 = none ∧
    writable (imgSlot up.img 1 0x10001) = true ∧ writable (imgSlot up.img 4 0x10104) = true ∧ slotInUse up 4 = false ∧
    look none up.image.waiting 0 = none ∧ storeUse up (otherStore up 0) = 0 ∧ tableWf (none : Option Transfer) up.img.transfers = true := by
  decide +kernel

/-- A transfer into firmware slot 1 of ER-B whose every byte has come, and one of which none has. -/
def loading (c : Bytes) : State := withImg (fun g => { g with transfers := [(0, some { itype := 4, target := 0x10104, container := c })] })

theorem test_transfer : transferOf (loading blank) 0 = some { itype := 4, target := 0x10104, container := blank } := rfl

theorem test_body_timeout : ([] : Bytes).length < headerLen + hBody [] ∧ (imgSlot (after (.imageBodyTimeout 0) (loading [])).img 4 0x10104).state = .empty ∧
    transferOf (after (.imageBodyTimeout 0) (loading [])) 0 = none ∧ answer0 (.imageBodyTimeout 0) (loading []) = (Stat.refused.code, [9, 0, 0, 0]) := by
  decide +kernel

theorem test_slot_status : ((answer0 (.slotStatus 0) up).2.drop 4).head? = some 4 ∧ (answer0 (.slotStatus 0) up).2.length = 128 := by decide +kernel

/-- UpdatesRunThroughTheirTrial: READY sets, a trial of ER-B's set with TMIN 0. -/
theorem test_update_start : (newSr (withImg (fun g => { g with sr1 := { state := .ready } })).img).state = .ready ∧
    (let s := withImg (fun g => { g with fwA1 := { state := .ready }, fwB1 := { state := .ready } })
     s.duplex = true ∧ (newFw s.img .A).state = .ready ∧ (newFw s.img .B).state = .ready ∧ imgCfmt ((newFw s.img .A).image 3) = s.dev.cfmt) := by
  decide +kernel

def trial (onTrial : Bool) (a b : ISlotState) (u : Update → Update) : State :=
  withImg (fun g => { g with
    fwA1 := { state := a }
    fwB1 := { state := b }
    update := some (u { sr := false, trialOf := some .B, onTrial := onTrial }) })

theorem test_update_continue : let s := trial false .ready .passed id
    (newFw s.img .B).state = .passed ∧ (newFw s.img .A).state = .ready ∧ s.duplex = true ∧ (s.img.update).isSome = true := by decide +kernel

theorem test_trial_confirm : let s := trial true .ready .trial id
    (newFw s.img .B).state = .trial ∧ (newFw s.img .A).state = .ready ∧
    (hdr (trialImage s { sr := false, trialOf := some .B, onTrial := true }) 0xBC 4 ≤ s.dev.opTime.toNat - 0) ∧
    (newFw (after .trialConfirm s).img .B).state = .passed ∧ (after .trialCriterionWindow s).img.update = s.img.update := by decide +kernel

/-- At the 600 s of a `TWIN` of 0. -/
theorem test_trial_window : let s := { trial true .ready .trial id with dev := { up.dev with opTime := 600 } }
    (imgTwin (trialImage s { sr := false, trialOf := some .B, onTrial := true }) ≤ s.dev.opTime.toNat - 0) ∧
    (after .trialWindowExpiry s).img.update = none := by decide +kernel

theorem test_snapshot : up.dev.dstate = .run ∧ up.dev.pfwLow = false ∧ up.image.tick.toNat % 10000 = 0 ∧
    (after .retainSnapshot up).img.retain1.valid = true ∧
    (after .retainSnapshot (after .retainSnapshot up)).img.retain0.valid = true := by decide +kernel

/-- UpdatesRunThroughTheirTrial: PFW_N falls next. -/
theorem test_snapshot_cut : let s := { up with pending := [.powerWarning] }
    warningNext s = true ∧ s.dev.dstate = .run ∧ s.dev.pfwLow = false ∧ s.image.tick.toNat % 10000 = 0 := by decide +kernel

/-! ### Golup -/

/-- ER-A's engine 0 executes run 1 of partition 0's task in slot 1, with 32-bit registers W1 = 5, W2 = 3. -/
def eng : Engine := { running := true, slot := 1, run := 1, part := 0, pc := 8, w := [(1, 5), (2, 3)], c := 2, outs := [], cyc := 990 }

def golR (e : Engine) (vars : SMap Mem) : Region :=
  { up.erA with programs := [(0, some p1)], runs := [{ run1 with phase := .executing }], engines := [(0, e)], vars := vars }

def gol (e : Engine) (vars : SMap Mem) : State := { up with erA := golR e vars }

/-- The context of engine 0. -/
def ctx (e : Engine) (vars : Mem) : Ctx := { e := e, x := { run1 with phase := .executing }, k := t1, g := p1, vars := vars }

/-- OnEngine is met by every engine state whose tables are canonical. -/
theorem test_on_engine (e : Engine) (v : Mem) (h1 : EngineWf e) (h2 : (e != {}) = true) (h3 : Mem.wf v = true) (h4 : (v != []) = true)
    (hr : e.running = true) (hs : e.slot = 1) (hn : e.run = 1) (hd : e.redo = false) : OnEngine (gol e [(1, v)]) e0 (ctx e v) := by
  refine ⟨rfl, ⟨?_, ?_, fun slot => ?_, fun n => ?_⟩, ?_⟩
  · show wfFrom ({} : Engine) none [(0, e)] = true
    simp_all [wfFrom]
  · show wfFrom ([] : Mem) none [(1, v)] = true
    simp_all [wfFrom]
  · show Mem.wf (if 1 = slot then v else []) = true
    split
    · exact h3
    · rfl
  · show EngineWf (if 0 = n then e else {})
    split
    · exact h1
    · exact ⟨rfl, rfl, rfl, rfl, rfl, rfl, rfl, rfl, rfl, rfl⟩
  · show ctxOf (golR e [(1, v)]) 0 = some (ctx e v)
    have he : engineOf (golR e [(1, v)]) 0 = e := rfl
    simp only [ctxOf, he, hr, hs, hn, hd]
    rfl

/-- The engine after a command of engine 0. -/
def eng' (c : Instr) (e : Engine) (vars : SMap Mem) : Engine := engineOf (after c (gol e vars)).erA 0

/-- Fields of format O: W3 ← W1 op W2, status to C7. -/
def fo (ty : Ty) (im : Bool) (imm : W32) : OFields := { ty := ty, wd := 3, wa := 1, wb := 2, cb := 7, im := im, cw := true, imm := imm }

/-- Fields that R121 admits for the rows of `operateRows`. -/
def fieldsO : List OFields :=
  [fo .int32 false 0, { fo .int64 true 0xFFFFFFFF with wa := 0, wb := 0, cb := 0, cw := false }, { fo .int64 true 7 with wb := 0, cb := 0, cw := false },
   { fo .int32 false 0 with wa := 0, wb := 0, cw := false }, { fo .int32 false 0 with wa := 0, wb := 0, cb := 0, cw := false },
   { fo .time false 0 with cw := false }, fo .real64 false 3]
  ++ (List.replicate 4 (fo .int32 true 0xFFFFFFFF)) ++ [fo .real64 false 0, fo .int32 false 0, fo .int64 false 0, fo .int64 true 0]
  ++ List.replicate 2 (fo .real32 false 0)
  ++ List.replicate 2 { fo .real64 false 0 with wb := 0 } ++ [{ fo .real64 false 0 with wb := 0 }, { fo .int32 false 5 with wb := 0 }]
  ++ [fo .real32 false 0, fo .time false 0, fo .int32 false 0]
  ++ (List.replicate 8 (fo .int64 false 0)) ++ [{ fo .int64 false 0x4000 with wb := 0, cb := 0, cw := false }]

/-- Fields for the rows of `testRows`: C7 ← W1 test W2. -/
def fieldsT : List OFields :=
  List.replicate 5 { fo .real64 false 0 with wd := 0, cw := false } ++ [{ fo .bool true 1 with wd := 0, wb := 0, cw := false }]
  ++ List.replicate 4 { fo .int64 true 0xFFFFFFFF with wd := 0, wb := 0, cw := false }
  ++ [{ fo .int64 false 63 with wd := 0, wb := 0, cw := false }, { fo .int32 false 6 with wd := 0, wa := 7, wb := 1, cw := false }]

/-- GolupOperateInstructionsComplete: each of the 33 rows, with values of both signs, W3 and C7 before their last cycle. -/
def engO : Engine := { eng with cyc := 1251249999, w := [(1, 0xFFFFFFFFFFFFFFFF), (2, 3), (3, 9)] }

theorem test_engine_wf : EngineWf eng ∧ EngineWf engO ∧ (eng != {}) = true ∧ (engO != {}) = true :=
  ⟨⟨rfl, rfl, rfl, rfl, rfl, rfl, rfl, rfl, rfl, rfl⟩, ⟨rfl, rfl, rfl, rfl, rfl, rfl, rfl, rfl, rfl, rfl⟩, by decide, by decide⟩

theorem test_operate_rows : fieldsO.length = operateRows.length ∧ (operateRows.zip fieldsO).all (fun x =>
    let c := ctx engO [(0, 1)]
    let e := eng' (x.1.instr e0 x.2) engO [(1, [(0, 1)])]
    (x.1.instr e0 x.2).wf && decide (issueCycle c.e (x.1.need x.2 c) < watchdogLimit c.k) && e.reg 3 == (x.1.value x.2 c).1
      && (!x.2.cw || e.cond 7 == (x.1.value x.2 c).2) && e.pc == 16 && e.running && e.reg 1 == engO.reg 1) = true := by decide +kernel

/-- W0 discards; the limit's own cycle is too late. -/
theorem test_discard : (eng' (.add e0 { fo .int32 false 0 with wd := 0 }) eng []).w = eng.w ∧
    ¬(issueCycle { eng with cyc := 1251250000 } {} < watchdogLimit t1) ∧
    (eng' (.add e0 (fo .int32 false 0)) { eng with cyc := 1251250000 } []).running = false := by decide +kernel

theorem test_test_rows : fieldsT.length = testRows.length ∧ (testRows.zip fieldsT).all (fun x =>
    let c := ctx engO [(0, 1)]
    let e := eng' (x.1.instr e0 x.2) engO [(1, [(0, 1)])]
    (x.1.instr e0 x.2).wf && decide (issueCycle c.e (x.1.need x.2 c) < watchdogLimit c.k) && e.cond 7 == x.1.value x.2 c && e.pc == 16
      && e.w == engO.w) = true := by decide +kernel

/-- IntegerResultsFollowTwosComplement at the ends of the ranges. -/
theorem test_integers : addResult .int64 0x7FFFFFFFFFFFFFFF 1 = (0x8000000000000000, true) ∧
    addResult .int32 0x7FFFFFFF 1 = (0xFFFFFFFF80000000, true) ∧ subResult .time 0x8000000000000000 1 = (0x7FFFFFFFFFFFFFFF, true) ∧
    negResult .int64 0x8000000000000000 = (0x8000000000000000, true) ∧ Ty.int32.integer = true ∧ readInt .int32 0 = 0 ∧
    (divResult .int32 5 0).1 = 0x7FFFFFFF ∧ modResult .int64 5 0 = (0, true) ∧ Ty.int32.word = true ∧ intWidth .int32 ≤ (32 : W64).toNat % 128 ∧
    shlResult .int32 1 32 = 0 ∧ sarResult .int64 0xFFFFFFFFFFFFFFFF 64 = 0xFFFFFFFFFFFFFFFF ∧ shlResult .int64 1 128 = 1 := by decide +kernel

/-- IssueCycleIsTheFirstThatIsReady: an operand that is late, and 15 slots busy before cycle 1000. -/
theorem test_issue : issueCycle { eng with readyW := [(1, 995)] } { regs := [1] } = 995 ∧
    issueCycle { eng with busy := List.replicate 15 1000 } { slots := 2 } = 1000 ∧ freeSlots (List.replicate 15 1000) 1000 = 16 := by
  decide +kernel

/-- GolupLoadsAndStoresComplete: a task of 64 bytes. -/
def m (sz : Sz) (wd : BitVec 5) (sp : Space) (off : W32) : MFields := { sz := sz, wd := wd, wa := 0, wb := 1, sp := sp, off := off }

theorem test_load : (Instr.ld e0 (m .s32 3 .var 60)).wf = true ∧ issueCycle eng { regs := [0], writes := loadRegs (m .s32 3 .var 60), slots := memSlots .var } < watchdogLimit t1 ∧
    (eng' (.ld e0 (m .s32 3 .var 60)) eng [(1, [(63, 0x80)])]).reg 3 = 0xFFFFFFFF80000000 ∧
    (eng' (.ld e0 (m .s32 3 .var 64)) eng [(1, [(63, 0x80)])]).faults = 1 ∧
    (eng' (.ld e0 (m .line 8 .var 0)) eng [(1, [(63, 0x80)])]).reg 15 = 0x8000000000000000 := by decide +kernel

theorem test_store : (Instr.st e0 (m .s32 0 .var 60)).wf = true ∧
    look [] (after (.st e0 (m .s32 0 .var 60)) (gol eng [(1, [(63, 0x80)])])).erA.vars 1 = [(60, 5)] ∧
    (eng' (.st e0 (m .d64 0 .var 60)) eng []).faults = 1 ∧ (eng' (.st e0 (m .d64 0 .scr 0)) eng []).scr = [(0, 5)] ∧
    touchesForced [(63, 1, 0)] 60 4 = true ∧ touchesForced [(64, 4, 0)] 60 4 = false := by decide +kernel

/-- GolupBranchesComplete. -/
theorem test_branches : (eng' (.br e0 { neg := true, cnd := true, cb := 7, tgt := 0xFFFFF8 }) eng []).pc = 0xFFFFF8 ∧
    (eng' (.br e0 { neg := false, cnd := true, cb := 7, tgt := 0xFFFFF8 }) eng []).pc = 16 ∧
    (eng' (.br e0 { neg := false, cnd := false, cb := 0, tgt := 0 }) eng []).pc = 0 ∧
    (eng' (.call e0 { neg := false, cnd := false, cb := 0, tgt := 0x20 }) eng []).stack = [16] ∧
    (eng' (.ret e0 { neg := false, cnd := false, cb := 0, tgt := 0 }) { eng with stack := [16, 24] } []).stack = [24] := by decide +kernel

/-- GolupRunEndsWithItsDuration. -/
theorem test_run_end : (eng' (.endRun e0 { neg := false, cnd := false, cb := 0, tgt := 0 }) eng []).running = false ∧
    (findRun (after (.endRun e0 { neg := false, cnd := false, cb := 0, tgt := 0 }) (gol eng [])).erA 1 1).map Run.phase = some .closed ∧
    (findRun (after (.ret e0 { neg := false, cnd := false, cb := 0, tgt := 0 }) (gol eng [])).erA 1 1) =
      some (closedRun (ctx eng []) 991 false) ∧
    (let late : Engine := { eng with cyc := 1251250000 }
     (findRun (after (.watchdogAbort e0) (gol late [])).erA 1 1) = some (closedRun (ctx late []) 1251250000 true)) ∧
    after (.watchdogAbort e0) (gol eng []) = gol eng [] := by decide +kernel

/-- GolupJournalInstructionsComplete: lists of one entry. -/
def j (idx : W32) : JFields := { wa := 0, wb := 1, idx := idx }

theorem test_journal : look none (eng' (.out e0 (j 0)) eng []).outs 0 = some 5 ∧ (eng' (.out e0 (j 1)) eng []).faults = 1 ∧
    look none (eng' (.lsp e0 (j 0)) eng []).sps 0 = some 5 ∧ look none (eng' (.lbank e0 (j 0)) eng []).banks 0 = some 1 ∧
    look 0 (eng' (.event e0 (j 0)) eng []).evs 0 = 1 ∧ (eng' (.event e0 (j 1)) eng []).faults = 1 := by decide +kernel

/-- GolupFunctionBlocksComplete: an instance of the row's kind at 32, the last of the area. -/
def fieldsF : List FFields :=
  let f : FFields := { f0 with wd := 3, wa := 0, wb := 1, cq := 5, off := 32 }
  [{ f with ci := 1 }, { f with ci := 1 }, { f with ci := 1 }, { f with ci := 1, ck := 2 }, { f with ci := 1, cl := 2 },
   { f with ci := 1, cj := 1, ck := 2, cl := 3 }, { f with wb := 0, ci := 1 }, { f with wb := 0, ci := 1 }, { f with wb := 0, ci := 1, ck := 2 },
   { f with wb := 0, ci := 1, ck := 2 }, { f with ck := 2 }]

theorem test_blocks : fieldsF.length = blockRows.length ∧ (blockRows.zip fieldsF).all (fun x =>
    let v : Mem := [(35, BitVec.ofNat 8 x.1.kind)]
    let c := ctx eng v
    let e := eng' (x.1.instr e0 x.2) eng [(1, v)]
    let o := x.1.value x.2 c (fbIn c x.2) (fbRead c 32)
    (x.1.instr e0 x.2).wf && decide (issueCycle c.e (x.1.need x.2 c) < watchdogLimit c.k) && e.reg 3 == o.wd && e.cond 5 == o.q
      && e.faults == 0 && (eng' (x.1.instr e0 x.2) eng [(1, [])]).faults == 1) = true := by decide +kernel

/-- TimersFollowTheirRules: preset 100, 60 counted, 40 and 39 gone by. -/
def fb (ci : Bool) (xt : W64) : FbIn := { fbIn (ctx eng []) f0 with ci := ci, b := 100, xtime := xt }
def ti (w0 : W64) : FbInst := { w0 := w0, v := 60, last := 1000, pvl := 0 }

theorem test_timers :
    let x := ti 0x41
    let p := ti 0x45
    let q := ti 0x43
    (bit x.w0 fInit = true ∧ bit x.w0 fLastv = true ∧ bit x.w0 fPin = false ∧ bit p.w0 fPin = true ∧ bit q.w0 fQ = true ∧ bit p.w0 fQ = false) ∧
    ((timerScan tonRule (fb true 1040) p).q = true ∧ (timerScan tonRule (fb true 1039) p).q = false ∧ (timerScan tonRule (fb true 1039) p).wd = 99 ∧
     (timerScan tonRule (fb false 1040) p).wd = 0 ∧ (timerScan tonRule (fb true 1040) x).wd = 0) ∧
    ((timerScan tofRule (fb false 1040) q).q = false ∧ (timerScan tofRule (fb false 1039) q).q = true ∧ (timerScan tofRule (fb true 1040) q).wd = 0 ∧
     (timerScan tofRule (fb false 1040) p).q = true) ∧
    ((timerScan tpRule (fb false 1040) q).q = false ∧ (timerScan tpRule (fb false 1039) q).q = true ∧ (timerScan tpRule (fb true 1040) x).q = true ∧
     (timerScan tpRule (fb false 1040) x).q = false) := by decide +kernel

/-- A preset at what has been reached already ends the timing; a rising input during a pulse and an idle TOF change nothing;
without a stamp no time passes; a negative preset acts as 0. -/
theorem test_timer_corners :
    (timerScan tonRule { fb true 1000 with b := 60 } (ti 0x45)).q = true ∧ (timerScan tofRule { fb false 1000 with b := 60 } (ti 0x43)).q = false ∧
    (timerScan tpRule { fb true 1000 with b := 60 } (ti 0x43)).q = false ∧ (timerScan tpRule (fb true 1040) (ti 0x45)).wd = 60 ∧
    (timerScan tofRule (fb false 1040) (ti 0x41)).wd = 60 ∧ (timerScan tonRule (fb true 1040) (ti 5)).wd = 60 ∧
    (timerScan tonRule { fb true 1040 with b := -1 } (ti 0x45)).wd = 0 ∧ (timerScan tonRule { fb true 1040 with b := -1 } (ti 0x41)).q = true ∧
    (timerScan tonRule (fb true 1040) (ti 0x45)).inst = { w0 := 0x47, v := 100, last := 1040, pvl := 100 } := by decide +kernel

/-- GolupKeepsCanonicalTables: its hypotheses at a state with an engine. -/
theorem test_golup_wf : golupEngine (.add e0 (fo .int32 false 0)) = some e0 ∧ GolupWf ((gol eng [(1, [(0, 1)])]).region e0.er) ∧
    runs (.add e0 (fo .int32 false 0)) (gol eng [(1, [(0, 1)])]) = true :=
  ⟨rfl, (test_on_engine eng [(0, 1)] test_engine_wf.1 test_engine_wf.2.2.1 rfl rfl rfl rfl rfl rfl).2.1, by decide +kernel⟩

/-- GolupEncodeThenDecode and GolupDecodeThenEncode: a word with every operand field at its last value. -/
theorem test_encode : Golup.encodeWord (.add ⟨.B, 33⟩ { ty := .time, wd := 31, wa := 31, wb := 0, cb := 7, im := true, cw := true, imm := 0xFFFFFFFF }) =
    some 0x08BFF83EFFFFFFFF := by decide +kernel

/-! ### Fixing -/

/-- A closed run: one OUT entry for point 7, value 0x2A, and the close words. -/
def jr (v : Nat) (abort : Bool) : List W64 := BitVec.ofNat 64 (2 ^ 60 + 7 * 2 ^ 32 + v) :: closeWords 500 abort 0
def cl0 (v : Nat) (abort : Bool) : Run := { run1 with phase := .closed, journal := jr v abort }

/-- Both regions with their copy of the run. -/
def both (x y : Run) (f : Region → Region) (s : State) : State :=
  { s with
    erA := f { s.erA with programs := [(0, some p1)], runs := [x] }
    erB := f { s.erB with programs := [(0, some p1)], runs := [y] } }

def work : WorkRef := .run 1 1

/-- ComparisonDecidesTheRun: alike, aborted, different, alone, and late. -/
theorem test_fix_alike : let s := both (cl0 42 false) (cl0 42 false) id up
    s.dev.dstate = .run ∧ openRun (s.region s.pair.active) 1 1 = some (cl0 42 false) ∧ openRun (s.region (otherEr s.pair.active)) 1 1 = some (cl0 42 false) ∧
    s.duplex = true ∧ inheritedWork s work = false ∧ journalAbort (jr 42 false) = false ∧ journalAbort (jr 42 true) = true ∧
    (after (.fixComparison 1 1) s).rel .A = [.value (some work) 7 42 false false false 9] ∧
    (after (.fixComparison 1 1) s).notices .B = [.closed 1 1, .fixed 1 1 .fixed []] ∧
    (after (.fixComparison 1 1) (both (cl0 42 true) (cl0 42 true) id up)).notices .A = [.closed 1 1, .fixed 1 1 .aborted []] := by decide +kernel

theorem test_fix_different : (after (.fixComparison 1 1) (both (cl0 42 false) (cl0 43 false) id up)).pair.refs = [{ work := work }] ∧
    (after (.fixComparison 1 1) (both (cl0 42 false) (cl0 43 false) id up)).rel .A = [] ∧ alone.duplex = false ∧
    (after (.fixComparison 1 1) (both (cl0 42 false) (cl0 43 false) id alone)).rel .A = [.value (some work) 7 42 false false false 9] := by
  decide +kernel

theorem test_journal_late : let s := both run1 (cl0 42 false) id up
    closedIn (s.region .B) work = true ∧ closedIn (s.region .A) work = false ∧ (after (.journalTimeout .A work) s).serving .A = false ∧
    (after (.journalTimeout .A work) s).pair.active = .B := by decide +kernel

/-- LoopSamplesAreEvaluatedAndCompared: a sample of slot 8191. -/
def sm (e : List W64) (ev : Bool) : Sample :=
  { slot := 8191, tick := 9, words := [], meas := 0, setp := 0, ff := 0, outp := 0, entry := e, evaluated := ev }
def sampled (a b : Sample) (s : State) : State :=
  { s with erA := { s.erA with samples := [a] }, erB := { s.erB with samples := [b] } }

theorem test_loop_sample : let s := sampled (sm [] false) (sm [] false) up
    s.serving .B = true ∧ laneServes s .B 7 = true ∧ nextSample s .B = some (sm [] false) ∧ findSample (s.region .B) 8191 9 = some (sm [] false) ∧
    tableWf ({} : Loop) (s.region .B).loops = true ∧
    (findSample ((after (.loopSample .B 7) s).region .B) 8191 9).map (fun x => (x.evaluated, x.lane)) = some (true, 7) := by decide +kernel

theorem test_loop_compare : let s := sampled (sm [5] true) (sm [5] true) up
    inheritedWork s (.sample 8191 9) = false ∧ openSample (s.region .A) 8191 9 = some (sm [5] true) ∧
    (after (.loopSampleCompare 8191 9) s).rel .B = [fixerValue (s.region .B) (.sample 8191 9) 0 5 9] ∧
    (after (.loopSampleCompare 8191 9) (sampled (sm [5] true) (sm [6] true) up)).pair.refs = [{ work := .sample 8191 9 }] := by decide +kernel

/-- RefereeCasesAreDecided: engine 1 executes the run again; lane 0 the sample; the second executions decide. -/
def refd (s : State) (w : WorkRef) : State := { s with pair := { s.pair with refs := [{ work := w }] } }

theorem test_handover_run : let s := refd (both (cl0 42 false) (cl0 43 false) id up) work
    refOf s work = some { work := work } ∧ findRun (s.region .A) 1 1 = some (cl0 42 false) ∧ taskOf (s.region .A) 1 = some t1 ∧
    (engineOf (s.region .A) 33).running = false ∧ (cl0 42 false).engine ≠ 33 ∧ (cl0 42 false).refereeable = true ∧
    (s.block (blockId (erNum .A) 1 33)).state = .spare ∧ (s.block (blockId (erNum .A) 1 32)).state = .underTest ∧
    takesRedo s .A 1 (cl0 42 false).engine 32 (fun n => (engineOf (s.region .A) n).running) = false ∧
    takesRedo s .A 1 (cl0 42 false).engine 33 (fun n => (engineOf (s.region .A) n).running) = true ∧
    (let e := engineOf (after (.refereeHandover .A work 33) s).erA 33
     e.redo = true ∧ e.pc = 8 ∧ e.slot = 1) := by decide +kernel

theorem test_handover_sample : let s := refd (sampled { sm [5] true with lane := 1 } (sm [6] true) up) (.sample 8191 9)
    findSample (s.region .A) 8191 9 = some { sm [5] true with lane := 1 } ∧ takesRedo s .A 2 1 8 (fun _ => false) = true ∧ (s.block (blockId (erNum .A) 2 8)).state = .underTest ∧
    ((findSample (after (.refereeHandover .A (.sample 8191 9) 8) s).erA 8191 9).map (fun x => x.second.length)) =
      some (loopLaw { sm [5] true with lane := 1 }).entry.length := by decide +kernel

def decidedAt (dtime : W64) : State :=
  let s := refd (both { cl0 42 false with second := jr 42 false, refereeing := true } { cl0 43 false with second := jr 43 false, refereeing := true } id up) work
  { s with time := { s.time with dtime := dtime } }

theorem test_referee_decided : (verdict (decidedAt 0) work).map Verdict.case_ = some 1 ∧ workDeadline (decidedAt 0) work = 109 ∧
    (after (.refereeDecided work) (decidedAt 1089999)).pair.refdisc = 0 ∧ (after (.refereeDecided work) (decidedAt 1090000)).pair.refdisc = 1 ∧
    (after (.refereeDecided work) (decidedAt 1090000)).pair.refs = [] ∧ (after (.refereeDecided work) (decidedAt 0)).pair.referees = 1 := by
  decide +kernel

theorem test_referee_deadline : let s := decidedAt 0
    refOf s work = some { work := work } ∧ workDeadline s work * 10000 < 2 ^ 64 ∧
    (after (.refereeDeadline work) s).time.dtime = 1090000 ∧ (after (.refereeDeadline work) s).rel .A = [] := by decide +kernel

/-- ReleasesAndNoticesAreTaken: point 47, an LIO pin, and two values that differ. -/
def rel0 (v : W32) : Release := .value (some work) 47 v false true false 9
def rels (a b : List Release) : State := { up with ir := { up.ir with relA := a, relB := b } }

theorem test_release : let s := rels [rel0 5] [rel0 5]
    nextRelease (fun x => !s.duplex || (x.work.map (inheritedWork s)).getD false) (s.rel .B) [] (s.rel .A) = some (rel0 5, some (rel0 5)) ∧
    ridxOf (attrOf s.image 47) = 0 ∧ ((after .releaseAccepted s).cell 47).v = 5 ∧ ((after .releaseAccepted s).cell 47).clamped = true ∧
    (after .releaseAccepted s).rel .B = [] := by decide +kernel

theorem test_release_differs : let s := rels [rel0 5] [rel0 6]
    nextRelease (fun x => !s.duplex || (x.work.map (inheritedWork s)).getD false) (s.rel .B) [] (s.rel .A) = some (rel0 5, some (rel0 6)) ∧
    (after .releaseAccepted s).dev.dstate = .halt := by decide +kernel

theorem test_notice : let s := { up with ir := { up.ir with notA := [.fixed 1 1 .fixed [], .closed 1 1], notB := [.fixed 1 1 .fixed [], .closed 1 1] } }
    (s.notices s.pair.active).find? (fun n => noticeReady s n && (!s.duplex || noticeInherited s n || (s.notices (otherEr s.pair.active)).contains n)) =
      some (.fixed 1 1 .fixed []) ∧
    (after .runNoticeAccepted s).notices .B = [.closed 1 1] ∧
    ((after .runNoticeAccepted s).queue (sourceQueue .ir)).occ = 1 := by decide +kernel

/-- LocalPinsFollowTheirEvents: pin 47 in modes 1, 4 and 3. -/
def pinned (x : Pin) : State := { up with ir := { up.ir with pins := [(47, x)] } }

theorem test_pin_level : ((pinned { cfg := 0x401 }).pin 47).mode = 1 ∧ ((pinned { cfg := 0x401 }).pin 47).sync ≠ true ∧
    ((after (.lioLevelChange 47 true) (pinned { cfg := 0x401 })).pin 47).edges = 1 ∧
    ((after (.lioLevelChange 47 true) (pinned { cfg := 0x801 })).pin 47).edges = 0 ∧ ((pinned { cfg := 0x404 }).pin 47).mode = 4 ∧
    ((after (.lioLevelChange 47 true) (pinned { cfg := 0x404 })).pin 47).capture = some 0 := by decide +kernel

theorem test_pwm : let s := pinned { cfg := 3, high := 5, highNext := 9 }
    (s.pin 47).mode = 3 ∧ pinForced s 47 = false ∧ ((after (.pwmPeriodStart 47) s).pin 47).high = cellValue s 47 ∧
    ((after (.pwmPeriodStart 47) { s with ir := { s.ir with cells := [(47, { released := true })] } }).pin 47).high = 9 := by
  decide +kernel

/-- OnLineChangesMigrateFlipOrEnd: partition 127's change at its flip tick, and at the end of its budget. -/
def chg (p : ChangePhase) (m : Bool) : Change := { phase := p, tc := 10, td := 11, tf := 20, gap := 1, budget := 12, m := 2, migrated := m }
def changing (c : Change) : State := withA (fun r => { r with waiting := [(127, some { p1 with part := 127, tasks := [] })], changes := [(127, some c)], tick := 20 }) up

theorem test_migration : look none (changing (chg .migrating false)).erA.waiting 127 = some { p1 with part := 127, tasks := [] } ∧
    look none (changing (chg .migrating false)).erA.changes 127 = some (chg .migrating false) ∧
    tableWf (none : Option Change) (changing (chg .migrating false)).erA.changes = true ∧
    tableWf (none : Option Program) (changing (chg .migrating false)).erA.waiting = true ∧
    look none (after (.migration .A 127) (changing (chg .migrating false))).erA.changes 127 = some (chg .migrating true) := by decide +kernel

theorem test_flip : (chg .migrating true).tf.toNat ≤ (changing (chg .migrating true)).erA.tick.toNat ∧
    (look none (after (.flip .A 127) (changing (chg .migrating true))).erA.programs 127).map Program.part = some 127 ∧
    (look none (after (.flip .A 127) (changing (chg .migrating true))).erA.reports 127).map Report.result = some 0 := by decide +kernel

theorem test_abandoned : (chg .draining false).tc.toNat + (chg .draining false).budget ≤ (changing (chg .draining false)).erA.tick.toNat + (chg .draining false).m ∧
    (look none (after (.changeAbandoned .A 127) (changing (chg .draining false))).erA.reports 127).map Report.result = some 2 := by decide +kernel

/-! ### Referee cases, rate limit, trip and new areas -/

/-- A decided case 2 to 5 and 1: engine 0 of both regions in the first execution; both second executions there. -/
def refd2 (a a2 b b2 : Nat) (sa : W64) : State :=
  refd (both { cl0 a false with second := jr a2 false, sig := sa, refereeing := true } { cl0 b false with second := jr b2 false, refereeing := true } id up) work

theorem test_case_1 : let s := refd2 42 42 43 43 0
    let t := after (.refereeDecided work) s
    refOf s work = some { work := work } ∧ undecided s work = true ∧ s.dev.dstate = .run ∧ s.duplex = true ∧ inheritedWork s work = false ∧
    ((execsOf s .A work).map Execs.agree, (execsOf s .B work).map Execs.agree) = (some true, some true) ∧
    tableWf ({} : Block) s.health.blocks = true ∧ t.serving .A = true ∧ t.serving .B = false ∧
    t.rel .A = [.value (some work) 7 42 false false false 9] ∧
    (t.recd.inq.map Record.code).head? = some 0x2103 ∧ (t.recd.inq.map Record.p2).head? = some 0x101 := by decide +kernel

theorem test_case_transient : let s := refd2 42 43 43 43 0
    let t := after (.refereeDecided work) s
    (verdict s work).map (fun v => (v.case_, v.out, v.test)) = some (2, [], [(.A, 0x100)]) ∧
    (s.block 0x100).state = .inService ∧ segmented (blkKind 0x100) = false ∧ blkRegion 0x100 = erNum .A ∧ spareOf s (erNum .A) (blkKind 0x100) ≠ none ∧
    t.serving .A = true ∧ t.serving .B = true ∧ (t.block 0x100).state = .underTest ∧ (t.block 0x100).targeted = true ∧
    t.rel .A = [.value (some work) 7 43 false false false 9] ∧ t.rel .B = t.rel .A := by decide +kernel

theorem test_case_differs : let t := after (.refereeDecided work) (refd2 42 44 43 43 0)
    (verdict (refd2 42 44 43 43 0) work).map Verdict.case_ = some 2 ∧ t.serving .A = false ∧ t.serving .B = true ∧
    t.rel .B = [.value (some work) 7 43 false false false 9] ∧
    (let u := after (.refereeDecided work) (refd2 42 42 43 44 0)
     (verdict (refd2 42 42 43 44 0) work).map Verdict.case_ = some 3 ∧ u.serving .A = true ∧ u.serving .B = false ∧
     u.rel .A = [.value (some work) 7 42 false false false 9]) ∧
    (verdict (refd2 42 43 43 43 1) work).map (fun v => v.out) = some [.A] := by decide +kernel

theorem test_case_4 : let s := refd2 42 44 43 45 0
    let t := after (.refereeDecided work) s
    (verdict s work).map Verdict.case_ = some 4 ∧ spareOf s (erNum .B) (blkKind 0x2100) ≠ none ∧ (s.block 0x2100).state = .inService ∧
    t.serving .A = true ∧ t.serving .B = false ∧ t.rel .A = [] ∧ (t.notices .A).head? = some (.fixed 1 1 .discarded []) ∧
    (t.block 0x100).targeted = true ∧ (t.block 0x2100).targeted = true := by decide +kernel

/-- A run that is not refereeable, in both regions and alone. -/
def unref : Run := { cl0 42 false with refereeable := false, refereeing := true }

theorem test_case_5 : let s := refd (both unref { unref with journal := jr 43 false } id up) work
    let t := after (.refereeDecided work) s
    (verdict s work).map Verdict.case_ = some 5 ∧ t.serving .A = true ∧ t.serving .B = false ∧ t.rel .A = [] ∧ t.pair.refdisc = 1 := by
  decide +kernel

theorem test_cases_alone : let s := fun x => refd (both x run1 id alone) work
    lone (s unref) work = true ∧ (s unref).serving (s unref).lead = true ∧ (s unref).lead = .A ∧ (s unref).img.update = none ∧
    (verdict (s unref) work).map (fun v => (v.case_, v.out)) = some (5, []) ∧
    (let t := after (.refereeDecided work) (s { cl0 42 false with second := jr 42 false, refereeing := true })
     t.rel .A = [.value (some work) 7 42 false false false 9] ∧ t.serving .A = true ∧ (t.recd.inq.map Record.p2).head? = some 0x106) ∧
    (let t := after (.refereeDecided work) (s { cl0 42 false with second := jr 43 false, refereeing := true })
     t.rel .A = [] ∧ t.serving .A = true ∧ (t.recd.inq.map Record.p2).head? = some 7) := by decide +kernel

theorem test_deadline_discards : let s := decidedAt 0
    let t := after (.refereeDeadline work) s
    senders s work = [.A, .B] ∧ t.notices .A = [.fixed 1 1 .discarded []] ∧ t.pair.refs.map Referee.expired = [true] := by decide +kernel

/-- ReleasesAndNoticesAreTaken: INT32 output 0x300 with its range at index 7, and rate limit 9 of 1 a tick both ways. -/
def limited (old : Option Rate) : State :=
  let f (r : Region) : Region := { r with
    attr := [(0x300, BitVec.ofNat 64 (5 * 2 ^ 61 + 7 * 2 ^ 16 + 9))]
    limits := [(7, BitVec.ofNat 64 (10 * 2 ^ 32)), (9, BitVec.ofNat 64 (2 ^ 32 + 1))] }
  { up with erA := f up.erA, erB := f up.erB, ir := { up.ir with rates := [(0x300, old)] } }

theorem test_clamp : let r := (limited none).erA
    cidxOf (attrOf r 0x300) = 7 ∧ typeOf { r with image := [(0x300, 0x200)] } 0x300 = tyInt ∧ (let range := limitOf r 7
      pointNum tyInt (range.setWidth 32) = 0 ∧ pointNum tyInt (BitVec.ofNat 32 (range.toNat / 2 ^ 32)) = 10) ∧
    fixerValue { r with image := [(0x300, 0x200)] } work 0x300 11 9 = .value (some work) 0x300 10 false true false 9 ∧
    fixerValue { r with image := [(0x300, 0x200)] } work 0x300 0xFFFFFFFF 9 = .value (some work) 0x300 0 false true false 9 ∧
    fixerValue { r with image := [(0x300, 0x200)] } work 0x300 10 9 = .value (some work) 0x300 10 false false false 9 := by decide +kernel

/-- The rate state is 5 at tick 7; the value 20 comes at tick 9, so that it may rise to 7. -/
def relL (v : W32) : Release := .value (some work) 0x300 v false false false 9
def rated (v : W32) : State :=
  let s := limited (some { vp := 5, tp := 7 })
  let f (r : Region) : Region := { r with image := [(0x300, 0x200)] }
  { s with erA := f s.erA, erB := f s.erB, ir := { s.ir with relA := [relL v], relB := [relL v] } }

theorem test_rate : let s := rated 20
    nextRelease (fun x => !s.duplex || (x.work.map (inheritedWork s)).getD false) (s.rel (otherEr s.lead)) [] (s.rel s.lead) = some (relL 20, some (relL 20)) ∧
    ridxOf (attrOf s.image 0x300) = 9 ∧ isMemo (modeOf s.image 0x300) = false ∧ look none s.ir.rates 0x300 = some { vp := 5, tp := 7 } ∧
    ((after .releaseAccepted s).cell 0x300).v = 7 ∧ ((after .releaseAccepted s).cell 0x300).clamped = true ∧
    look none (after .releaseAccepted s).ir.rates 0x300 = some { vp := 7, tp := 9 } ∧
    ((after .releaseAccepted (rated 0)).cell 0x300).v = 3 ∧ ((after .releaseAccepted (rated 6)).cell 0x300).clamped = false := by decide +kernel

/-- LocalPinsFollowTheirEvents: equation 63 forces PWM pin 46, safe level high, while pin 47 (`SEL` 0x2F at index bit 0) is high. -/
def eqT : List W64 :=
  [2, 0, 0, 0, 0, 0, 0, 0, BitVec.ofNat 64 (0x30303030303030 * 256 + 0x2F), BitVec.ofNat 64 (2 ^ 46), BitVec.ofNat 64 (3 * 2 ^ 62 + 5 * 2 ^ 44), 0]
def tripReady : State :=
  { up with ir := { up.ir with pins := [(46, { cfg := BitVec.ofNat 64 (125 * 2 ^ 40 + 0x203) }), (47, { cfg := 0x401 })], eq0 := [(63, eqT)], eq1 := [(63, eqT)] } }

theorem test_trip : let s := tripReady
    let t := after (.lioLevelChange 47 true) s
    (s.pin 47).mode = 1 ∧ eqCopy s 63 false = some eqT ∧ eqCopy s 63 true = some eqT ∧ bit (eqWord eqT 10) 63 = true ∧ bit s.ir.latches 63 = false ∧
    eqIndex (modPin s 47 (fun x => { x with sync := true })) eqT = 1 ∧ tableBit eqT 0 1 = true ∧ (s.pin 46).isOut = true ∧
    bit t.ir.latches 63 = true ∧ pinForced t 46 = true ∧ (t.pin 46).drive = true ∧ (t.pin 46).land = true ∧
    ((t.queue (sourceQueue .ir)).held.map Group.items) =
      [[.input 47 1 false false, .input 0x10F 1 false false], [.interlocked 46 125 true, .tripState 63 true (some 5)]] ∧
    (t.recd.inq.map Record.code) = [0x1201] := by decide +kernel

/-- OnLineChangesMigrateFlipOrEnd: the new image's task 1 with VINIT, an instance that both images hold, and the flip that takes them. -/
def inst (voff : Nat) : Inst := { iid := 9, kind := 0x80, slot := 1, voff := voff, len := 32 }
def newP : Program := { p1 with part := 127, vinit := [(1, [1, 2, 3])] }
def areas (insts : Bool) (c : Change) : State :=
  withA (fun r => { r with
    programs := [(127, some { newP with insts := if insts then [inst 0] else [] })]
    waiting := [(127, some { newP with insts := if insts then [inst 32] else [] })]
    vars := [(1, [(8, 77), (3, 0x80), (4, 9)])]
    newVars := if c.migrated then [(1, [(0, 5)])] else []
    changes := [(127, some c)], tick := 20 }) up

theorem test_vinit : let s := areas false (chg .migrating false)
    let t := after (.migration .A 127) s
    tableWf ([] : Mem) (s.region .A).newVars = true ∧ newP.vinit.filter (fun v => v.1 == 1) = [(1, [1, 2, 3])] ∧
    carried (oldProgram (s.region .A) 127) newP = [] ∧ Mem.readBytes (look [] t.erA.newVars 1) 0 3 = [1, 2, 3] := by decide +kernel

theorem test_carried : let s := areas true (chg .migrating false)
    let t := after (.migration .A 127) s
    carried (oldProgram (s.region .A) 127) { newP with insts := [inst 32] } = [(inst 0, inst 32)] ∧
    Mem.readBytes (look [] t.erA.newVars 1) 40 1 = [77] ∧ Mem.readBytes (look [] t.erA.newVars 1) 35 2 = [0x80, 9] := by decide +kernel

theorem test_flip_areas : let s := areas false (chg .migrating true)
    let t := after (.flip .A 127) s
    tableWf ([] : Mem) (s.region .A).vars = true ∧ (newP.tasks.map Task.slot).Nodup ∧ (chg .migrating true).tf.toNat ≤ (s.region .A).tick.toNat ∧
    look [] t.erA.vars 1 = [(0, 5)] ∧ look [] t.erA.newVars 1 = [] := by decide +kernel

/-! ### Faults, blocks, contact sheet and rejoin -/

/-- BlockFaultsFollowTheLevelTable: engine 0 of ER-A with spare 33; queues of ER-A (shared producer), SR and HR. -/
theorem test_block_fault : tableWf ({} : Block) up.health.blocks = true ∧ (up.block (blockId (erNum .A) 1 0)).state = .inService ∧
    spareOf up (erNum .A) 1 = some (blockId (erNum .A) 1 33) ∧
    (let t := after (.blockFault (.block (BitVec.ofNat 16 (blockId (erNum .A) 1 0)) false false 0)) up
     (t.block 0x100).state = .underTest ∧ (t.block 0x121).state = .inService) ∧
    ((after (.blockFault (.corrected 0x100)) up).block 0x100).corr = 1 := by decide +kernel

theorem test_faults : (after (.blockFault (.selfFlag .A 3 0xFFFF false)) up).pair.active = .B ∧ (after (.blockFault .lockstep) up).dev.dstate = .halt ∧
    (2 ≤ (0xFFFE : BitVec 16).toNat / 8192) ∧ ((after (.blockFault (.ledger 0 0xFFFE 0)) up).queue 0xFFFE).frozen = true ∧
    (after (.blockFault (.bothFlags 1 0xFFFF 2 0xFFFF)) up).dev.dstate = .halt ∧ (after (.blockFault (.bothFlags 1 0xFFFF 2 0xFFFF)) up).serving .A = false ∧
    (after (.blockFault (.selfFlag .A 3 0xFFFF true)) up).dev.dstate = .halt ∧
    (after (.blockFault (.shared 5 0)) up).sec.secOff = true ∧ (after (.blockFault (.shared 6 0)) up).hr.running = false := by decide +kernel

/-- BlockTestsAndScrubbingDecideTheBlock. -/
def withBlock (b : Nat) (x : Block) : State := { up with health := { up.health with blocks := put {} up.health.blocks b x } }
def tested : State := withBlock 0x100 { state := .underTest, targeted := true }

/-- BlocksOutOfServiceAreRetired: the spare engine 33 of ER-A and its lane 8 under test, and engine 0 under test. -/
theorem test_out_of_service : blkRegion (0x121 : BitVec 16).toNat < 2 ∧ blkKind (0x121 : BitVec 16).toNat = 1 ∧ blkKind (0x208 : BitVec 16).toNat = 2 ∧
    (up.block 0x121).state = .spare ∧ (up.block 0x208).state = .underTest ∧ (tested.block 0x100).state = .underTest ∧
    ((after (.blockFault (.block 0x121 false false 0)) up).block 0x121).state = .retired ∧
    ((after (.blockFault (.block 0x208 false true 9)) up).block 0x208).state = .retired ∧
    ((after (.blockFault (.block 0x208 false true 9)) up).pair = up.pair) ∧
    ((after (.blockFault (.block 0x100 false true 9)) tested).block 0x100).state = .retired := by decide +kernel

theorem test_self_test : blkKind (0x100 : BitVec 16).toNat = 1 ∧ blkKind (0x208 : BitVec 16).toNat = 2 ∧ (tested.block 0x100).state = .underTest ∧
    (tested.block 0x100).targeted = true ∧ ((after (.selfTestComplete 0x100 0 9) tested).block 0x100).state = .spare ∧
    ((after (.selfTestComplete 0x100 1 9) tested).block 0x100).state = .retired ∧
    after (.selfTestComplete 0x100 0 9) (withBlock 0x100 { state := .retired }) = withBlock 0x100 { state := .retired } ∧
    (let s := withBlock 0x33F { segments := 2, spares := 1 }
     (s.block 0x33F).segments ≠ 0 ∧ ((after (.selfTestComplete 0x33F 0 9) s).block 0x33F).segments = 1 ∧
     ((after (.selfTestComplete 0x33F 0 9) s).block 0x33F).spares = 2) := by decide +kernel

theorem test_scrub : tableWf ({} : Block) up.health.blocks = true ∧ up.serving .A = true ∧ blkKind (0x33F : BitVec 16).toNat = 3 ∧
    (up.block 0x33F).spares ≠ 0 ∧ ((after (.scrubPass .A [] [0x33F]) up).block 0x33F).spares = 3 ∧
    ((after (.scrubPass .A [0x33F, 0x33F] []) up).block 0x33F).corr = 2 ∧
    (let t := after (.fixerKat .A none) { up with health := { up.health with katA := 63 } }
     katBit t.health .A = 0 ∧ katBit t.health .B = 0) ∧ katBit (after (.fixerKat .B none) up).health .B = 1 ∧
    (after .healthRecordWrite tested).health.mram = tested.health.blocks := by decide +kernel

/-- RotationsMoveTheBlockUnderTest: engine 32 has passed its test; engine 0 is next, free or running; lane 8 has passed. -/
def rot : State := withBlock 0x120 { state := .underTest, passed := true }

theorem test_engine_rotation : (inState rot (erNum .A) 1 .underTest).filter (fun b => !(rot.block b).targeted) = [0x120] ∧ after (.engineRotation .A) up = up ∧
    inState rot (erNum .A) 1 .spare ++ [0x120] = [0x121, 0x120] ∧ nextInService rot (erNum .A) 1 0x120 = some 0x100 ∧
    tableWf ({} : Block) rot.health.blocks = true ∧
    ((after (.engineRotation .A) rot).block 0x100).state = .underTest ∧ ((after (.engineRotation .A) rot).block 0x121).state = .inService ∧
    ((after (.engineRotation .A) rot).block 0x120).state = .spare := by decide +kernel

theorem test_engine_leaves : let s := withA (fun r => { r with engines := [(1, { leaving := true }), (33, { leaving := true })] }) up
    tableWf ({} : Engine) (s.region .A).engines = true ∧ (engineOf (s.region .A) 33).leaving = true ∧
    (s.block 0x101).state = .inService ∧ ((after (.engineLeavesService .A) s).block 0x101).state = .underTest ∧
    (s.block 0x121).state ≠ .inService ∧ (after (.engineLeavesService .A) s).block 0x121 = s.block 0x121 := by decide +kernel

theorem test_lane_rotation : let s := withBlock 0x208 { state := .underTest, passed := true }
    (inState s (erNum .A) 2 .underTest).filter (fun b => !(s.block b).targeted && (s.block b).passed) ++ inState s (erNum .A) 2 .spare = [0x208] ∧
    nextInService s (erNum .A) 2 0x208 = some 0x200 ∧ tableWf ({} : Block) s.health.blocks = true ∧
    ((after (.laneRotation .A) s).block 0x208).state = .inService ∧ ((after (.laneRotation .A) s).block 0x200).state = .underTest := by decide +kernel

/-- RejoinRunsItsPhases. -/
def rejoining (ph pass : Nat) : State :=
  { alone with pair := { alone.pair with stateB := if ph = 1 then .testing else .joining, rejoin := some { er := .B, phase := ph, pass := pass } } }

theorem test_rejoin_start : alone.regState .B = .out ∧ alone.pair.autoRejoin = true ∧ mayRejoin alone .B = true ∧
    (after (.rejoinStarted .B) alone).regState .B = .testing ∧ enoughBlocks alone (erNum .B) = true ∧ testsDue (rejoining 1 0) (erNum .B) = false ∧
    (let s := { rejoining 1 0 with health := { up.health with blocks := put {} up.health.blocks 0x2100 { state := .underTest, targeted := true } } }
     testsDue s (erNum .B) = true ∧ after (.rejoinTestingComplete .B false) s = s) ∧
    (after (.rejoinTestingComplete .B false) (rejoining 1 0)).pair.rejoin = some { er := .B, phase := 2, pass := 0 } := by decide +kernel

theorem test_rejoin_copy : (after (.rejoinCopyPassComplete .B 64) (rejoining 2 0)).pair.rejoin.map Rejoin.phase = some 4 ∧
    (after (.rejoinCopyPassComplete .B 65) (rejoining 3 2)).pair.rejoin.map Rejoin.phase = some 3 ∧
    (after (.rejoinCopyPassComplete .B 65) (rejoining 3 3)).pair.rejoin.map Rejoin.phase = some 4 ∧
    (after (.rejoinCopyPassComplete .B 65) (rejoining 4 4)).pair.rejoin.map Rejoin.phase = some 5 := by decide +kernel

theorem test_rejoin_join : let s := rejoining 5 5
    s.img.update = none ∧ s.img.reload = [] ∧ (0 : W64).toNat ≤ ((s.region (otherEr .B)).tick + 1).toNat ∧
    (after (.rejoinJoin .B) s).regState .B = .standby ∧ (after (.rejoinJoin .B) s).pair.rejoins = 1 := by decide +kernel

theorem test_mirror_ack : let s := { both (cl0 42 false) run1 (fun r => { r with vars := [(1, [(0, 9)])] }) up with pair := { up.pair with mirror := [work] } }
    s.duplex = true ∧ work ∈ s.pair.mirror ∧ findRun (s.region s.pair.active) 1 1 = some (cl0 42 false) ∧
    tableWf ([] : Mem) (s.region (otherEr s.pair.active)).vars = true ∧ (after (.mirrorAck work) s).pair.mirror = [] := by decide +kernel

/-! ### Mailbox pages and registers -/

/-- PagesFollowTheirRequests: page 127 with a request for VAR_READ (12 bytes), a name unknown, and a LOOP_WRITE whose data follow. -/
def page (x : Page) : State := { up with hr := { up.hr with pcie := true, windows := [(127, (0, 4096))], pages := [(127, x)] } }
def ring (x : Page) : Page := (after (.mbxDoorbell 127 9) (page x)).page 127
def reqOf (cmd len : Nat) : W32 := BitVec.ofNat 32 (cmd * 65536 + len)

theorem test_doorbell : (ring { req := reqOf 0x0101 0, busy := true }).dberr = true ∧ requestLen 0xFFFF = none ∧
    (ring { req := reqOf 0xFFFF 0 }).stat = Stat.unknownCommand.code ∧ requestLen 0x0101 = some (0, false) ∧
    (ring { req := reqOf 0x0101 0 }).busy = true ∧ (ring { req := reqOf 0x0101 1 }).stat = Stat.badLength.code ∧
    ((after (.mbxDoorbell 127 9) { page { req := reqOf 0x0101 0 } with hr := { (page { req := reqOf 0x0101 0 }).hr with running := false } }).page 127).stat =
      Stat.unavailable.code := by decide +kernel

/-- A request with a tail: its length at the limit of 1984, and as bulk data. -/
theorem test_doorbell_bulk : (∃ n, requestLen 0x0A04 = some (n, true) ∧ n ≤ 1984) ∧ takesContainer 0x0A04 = false ∧
    (ring { req := reqOf 0x0A04 1984 }).busy = true ∧ (ring { req := reqOf 0x0A04 1985 }).stat = Stat.badLength.code ∧
    (ring { req := reqOf 0x0A04 1984, bctrl := 0x80000000, blen := 4097 }).stat = Stat.windowFault.code ∧
    (ring { req := reqOf 0x0A04 1984, bctrl := 0x80000000, blen := 4096 }).busy = true ∧
    (ring { req := reqOf 0x0A04 1984, bctrl := 0xA0000000, blen := 4, boff := 4 }).stat = Stat.segmentError.code ∧
    (ring { req := reqOf 0x0A04 1984, bctrl := 0xA0000000, blen := 4096 }).stat = Stat.segmentOk.code ∧
    (ring { req := reqOf 0x0A04 1984, bctrl := 0xE0000000, boff := 4 }).stat = Stat.segmentError.code :=
  ⟨⟨_, rfl, by decide⟩, by decide +kernel⟩

theorem test_dma : tableWf ({} : Page) (page { busy := true, bctrl := 0xC0000000, object := some [1, 2], baddr := 64 }).hr.pages = true ∧
    (let x : Page := { busy := true, bctrl := 0xC0000000, object := some [1, 2], baddr := 64 }
     x.bulk = true ∧ x.segm = false ∧ x.toHost = true ∧
     (after (.bulkDmaComplete 127 true []) (page x)).hr.hostWrites = [(64, [1, 2])] ∧
     ((after (.bulkDmaComplete 127 false []) (page x)).page 127).stat = Stat.dmaFailed.code) ∧
    (let x : Page := { busy := true, bctrl := 0x80000000, req := reqOf 0x0A04 1984, blen := 1 }
     x.toHost = false ∧ takesContainer x.cmd = false ∧ ((after (.bulkDmaComplete 127 true [7]) (page x)).page 127).gathered = [7]) := by decide +kernel

theorem test_expiries : ((after (.segmentTimeout 127) (page { gatherCmd := some (0x0A04, 9, []) })).page 127).timedOut = true ∧
    ((after (.objectCopyExpiry 127) (page { object := some [1] })).page 127).object = none ∧
    (let s := { page { busy := true } with hr := { (page { busy := true }).hr with running := false } }
     s.hr.running = false ∧ (s.hr.pages.all (fun e => decide (e.1 < 128))) = true ∧
     ((after .hrRestartComplete s).page 127).stat = Stat.unavailable.code) := by decide +kernel

/-- RegisterWritesReachTheirUnit: the words of page 127 at the ends of their ranges. -/
def regw (k : Nat) (x : Page) : Page := (after (.registerWrite .bar0 (0x10000 + 127 * 0x1000 + k) 0xFFFFFFFF) (page x)).page 127

/-- What a read of page 127's word k, or of a counter, returns after the write or the read of its lower word. -/
def back (k : Nat) (x : Page) : W32 :=
  readBar0 (after (.registerWrite .bar0 (0x10000 + 127 * 0x1000 + k) 0xFFFFFFFF) (page x)) .hostPort (0x10000 + 127 * 0x1000 + k)

theorem test_read_back : back 0x18 {} = 0xFFFF07FF ∧ back 0x1C {} = 0xF0000000 ∧ back 0x2C {} = 0xFFFFFFFF ∧ back 0x7FC {} = 0xFFFFFFFF ∧
    back 0x14 {} = 0 ∧ bit (readBar0 (after (.registerWrite .bar0 (0x10000 + 127 * 0x1000 + 0x18) 0) (page { busy := true })) .hostPort
      (0x10000 + 127 * 0x1000)) 28 = true ∧ Mem.wf ({} : Page).reqBuf = true ∧
    readEvc (after (.registerWrite (.evcCore .b1) 0x17C 5) up) .b1 0x17C = 5 ∧ tableWf 0xFFFFFFFF (up.target .b1).mask = true ∧
    tableWf 0 (up.target .b1).hold = true ∧
    readTimeUnit (after (.registerWrite (.timeUnit true) 8 0xFFFFFFFFFFFFFFFF) up) 8 = 0xFFFFFFFFFFFF := by decide +kernel

theorem test_hold : let s := { up with time := { up.time with dtime := 0x123456789 }, net := { up.net with port0 := { up.net.port0 with counters := [(0, 0x500000000), (1, 7)] } } }
    readBar0 (after (.counterLowerWordRead .hostPort .dtime) s) .hostPort 0x34 = 1 ∧
    statSlot s 4 = some (48, 0x500000000) ∧ readBar2 (after (.counterLowerWordRead .hostPort (.portOctets .np0 0)) s) .hostPort 4 = 5 ∧
    (statSlot s 20).map Prod.fst = some 32 ∧ readBar2 s .hostPort 20 = 0 := by decide +kernel

theorem test_registers : (regw 0x18 {}).req = 0xFFFF07FF ∧ (regw 0x2C {}).baddr = 0xFFFFFFFF00000000 ∧ (regw 0x7FC {}).reqBuf.length = 4 ∧
    regw 0x7FC { busy := true } = { busy := true, wrerr := true } ∧ regw 0x30 { busy := true } = { busy := true, dberr := true } ∧
    look 0xFFFFFFFF (after (.registerWrite (.evcCore .b1) 0x17C 5) up).evc.b1.mask 31 = 5 ∧
    look 0 (after (.registerWrite (.evcCore .b1) 0x27C 0xFFFFF) up).evc.b1.hold 31 = 0xFFFF ∧
    (after (.registerWrite (.timeUnit true) 0 0x500000007) up).time.rate = 5 ∧ tableWf 0 up.hr.holds = true := by decide +kernel

/-! ### Reads -/

/-- ReadsAnswerWhatTheStateHolds: partition 0's program with one named instance, loop 8191 valid and its own. -/
def readable : State := withA (fun r => { r with
  programs := [(0, some { p1 with insts := [{ iid := 9, kind := 1, slot := 1, voff := 8, len := 16 }] })]
  loops := [(8191, { words := [(0, 0x8000000000000000)] })]
  reports := [(0, some { result := 0, tc := 1, tend := 2, gapp := 3, budget := 4, recs := [] })] }) up

theorem test_reads_image : (programOf readable.image 0).isSome = true ∧
    (((programOf readable.image 0).map (fun g => g.insts.find? (fun x => x.iid == 9 && x.kind == 1))).getD none).isSome = true ∧
    taskOf readable.image ((1 : W32).setWidth 9) = some t1 ∧ t1.part = 0 ∧ (loopOf readable.image 8191).owner = 0 ∧
    (loopOf readable.image 8191).valid = true ∧
    (answer0 (.pointRead 0 0xFFFFF 1) readable).1 = Stat.ok.code ∧ (answer0 (.varRead 0 9 8 8) readable).1 = Stat.ok.code ∧
    (answer0 (.varRead 0 9 8 9) readable).1 ≠ Stat.ok.code ∧ (answer0 (.taskCounters 0 1) readable).1 = Stat.ok.code ∧
    (answer0 (.grantRead 0 8191) readable).1 = Stat.ok.code ∧ (answer0 (.attrRead 0 0xFFFFF) readable).1 = Stat.ok.code ∧
    (answer0 (.changeReport 0) readable).1 = Stat.ok.code ∧ (answer0 (.programInfo 0) readable).1 = Stat.ok.code ∧
    (answer0 (.forceList 0) readable).1 = Stat.ok.code ∧ (answer0 (.loopRead 0 8191) readable).1 = Stat.ok.code := by decide +kernel

theorem test_reads_units : (answer0 (.deviceInfo 0) up).1 = Stat.ok.code ∧ (answer0 (.queueCounters 0 0) up).1 = Stat.ok.code ∧
    (answer0 (.lostAtReset 0 65535) up).1 = Stat.ok.code ∧ (answer0 (.interlockRead 0 63) up).1 = Stat.ok.code ∧
    (answer0 (.channelCounters 0 31 0 255) up).1 = Stat.ok.code ∧ (answer0 (.channelCounters 0 31 1 63) up).1 = Stat.ok.code ∧
    (answer0 (.channelCounters 0 31 2 127) up).1 = Stat.ok.code ∧ (answer0 (.stationState 0 4095) up).1 = Stat.ok.code ∧
    (answer0 (.vstationCounters 0 4095) up).1 = Stat.ok.code ∧ (answer0 (.stationState 0 0x1FFF) up).1 = Stat.ok.code ∧
    (answer0 (.recRead 0 0x7FFFF 1) up).1 = Stat.ok.code ∧ (answer0 (.ptpRead 0 3) up).1 = Stat.ok.code := by decide +kernel

theorem test_contact_sheet : (answer0 (.contactSheet 0) up).1 = Stat.needsBulk.code ∧ (answer0 (.contactSheet 0) up).2.length = 4 := by
  decide +kernel

/-- RegisterWritesReachTheirUnit: a serial frame that writes two words of page 127's request buffer and a partial word; a read frame. -/
theorem test_frame : let s := after (.registerWrite (.frame [0x38, 0x08, 0xF0, 0x40, 1, 2, 3, 4, 5, 6, 7, 8, 9]) 0 0) up
    (readFrame s [0xEB, 0x08, 0xF0, 0x40] 3).1 = [0x04030201, 0x08070605, 0] ∧ up.hr.pcie = false ∧
    (readFrame s [0xEB, 0x88, 0xF0, 0x40] 1).1 = [0] ∧
    (after (.registerWrite (.words [(0xF, 1), (7, 2)]) 0x8F040 0) up) = up := by decide +kernel

/-! ### Configuration and requests -/

/-- FieldRequestsTakeEffect, on channel 31: 200 time quanta in a bit; the last filter, buffers, entries, node. -/
def chan31 (ch : Channel) : State := { up with chans := [(31, ch)] }
def quanta : W64 := BitVec.ofNat 64 (158 * 2 ^ 47 + 39 * 2 ^ 40 + 39 * 2 ^ 33)
def record8 : List W64 := [BitVec.ofNat 64 (2 ^ 63), quanta, 0, 0, 0, 0, 0, 0]

theorem test_channel_ready : ChannelReady (chan31 ch3) 31 ∧ (31 : W32).toNat < 32 :=
  ⟨⟨rfl, rfl, ⟨rfl, rfl, rfl, rfl⟩⟩, by decide⟩

theorem test_channel_write : record8.length = 8 ∧ recordClean record8 = true ∧ recordOk record8 = true ∧
    busWords record8 ≠ busWords ch3.record ∧ ((after (.channelWrite 0 31 record8) (chan31 ch3)).chan 31).state = .stopping ∧
    ((after (.channelWrite 0 31 record8) (chan31 { ch3 with record := record8 })).chan 31).state = .running ∧
    ((after (.channelWrite 0 31 record8) (chan31 {})).chan 31).state = .integrating ∧
    ((after (.channelWrite 0 31 record8) (chan31 { ch3 with state := .isolated })).chan 31).state = .isolated ∧
    ((after (.channelWrite 0 31 record8) (chan31 { ch3 with state := .stopping })).chan 31).nextRecord = some record8 := by decide +kernel

/-- Between two frames a write acts at once; with a frame on the bus it waits. -/
def sending31 : State := chan31 { ch3 with sending := .buffer 5 }

theorem test_writes_wait : ActsAtOnce ((chan31 ch3).chan 31) ∧ (sending31.chan 31).between = false ∧
    ((after (.emergencyWrite 0 31 7 0 0 0 []) sending31).chan 31).writes.length = 1 ∧
    ((after (.rxbufConfig 0 31 255 0xC000007F) sending31).chan 31).writes = [.rxbuf 255 0xC000007F] ∧
    ((after (.rxbufConfig 0 31 255 0xC000007F) sending31).chan 31).rx = ch3.rx ∧
    answer0 (.rxbufConfig 0 31 255 0xC000007F) sending31 = (Stat.ok.code, []) := by
  refine ⟨⟨rfl, by decide +kernel⟩, by decide +kernel⟩

theorem test_filter_write : let fs : List (W64 × W64) := [(BitVec.ofNat 64 (2 ^ 63 + 2 ^ 61 + 255 * 2 ^ 50), 0x1FFFFFFF1FFFFFFF)]
    (127 : W32).toNat + fs.length ≤ 128 ∧ fs.all filterClean = true ∧ fs.all filterOk = true ∧
    answer0 (.filterWrite 0 31 127 fs) (chan31 ch3) = (Stat.ok.code, []) ∧ answer0 (.filterWrite 0 31 128 fs) (chan31 ch3) = (Stat.outOfRange.code, [0, 0, 0, 0]) := by
  decide +kernel

theorem test_rxbuf : zeroBits (0xC000007F : W32) 29 7 = true ∧ answer0 (.rxbufConfig 0 31 255 0xC000007F) (chan31 ch3) = (Stat.ok.code, []) := by
  decide +kernel

/-- Entry 4095: bit 0 of buffer 255 as node 127's heartbeat, and the table of channel 3 with it. -/
def entry : W64 × W64 := (BitVec.ofNat 64 (2 ^ 63 + 2 * 2 ^ 57 + 255 * 2 ^ 8), 0)

theorem test_mapping : [entry].all mappingClean = true ∧ bit entry.1 63 = true ∧ mappingOk (planned (chan31 ch3) 31) 31 entry = true ∧
    tableOk ((applyWrite (planned (chan31 ch3) 31) 31 (.map 4095 [entry])).chan 31) = true ∧
    answer0 (.mappingWrite 0 31 4095 [entry]) (chan31 ch3) = (Stat.ok.code, []) := by decide +kernel

/-- A classical template of 8 bytes. -/
def t8 : W64 := BitVec.ofNat 64 (8 * 2 ^ 32 + 0x7FF)
def d8 : Bytes := List.replicate 8 1
def tx63 : Channel := { state := .running, tx := [(63, { ctrl := BitVec.ofNat 64 (2 ^ 63 + 2 * 2 ^ 61), template := some (frameOf 0 t8 0 d8) })] }

theorem test_txbuf : d8.length = (frameOf 0 t8 0 d8).len ∧ zeroBits (BitVec.ofNat 64 (2 ^ 63 + 2 * 2 ^ 61) : W64) 19 0 = true ∧
    templateClean t8 0 = true ∧ lengthOk (frameOf 0 t8 0 d8) (txCapacity 63) = true ∧ lengthOk (frameOf 0 t8 0 d8) 64 = true ∧
    windowOk ((planned (chan31 ch3) 31).chan 31) (BitVec.ofNat 64 (2 ^ 63 + 2 * 2 ^ 61)) = true ∧
    answer0 (.txbufWrite 0 31 63 (BitVec.ofNat 64 (2 ^ 63 + 2 * 2 ^ 61)) t8 0 d8) (chan31 ch3) = (Stat.ok.code, []) ∧
    answer0 (.emergencyWrite 0 31 7 0 t8 0 d8) (chan31 ch3) = (Stat.ok.code, []) := by decide +kernel

theorem test_station_write : let w : W64 := BitVec.ofNat 64 (2 ^ 63 + 2 ^ 48 + 5 * 2 ^ 24 + 4)
    zeroBits w 62 56 = true ∧ (1 ≤ bits w 55 48 ∧ 5 ≤ bits w 47 24 ∧ bits w 23 0 < bits w 47 24) ∧
    answer0 (.stationWrite 0 31 127 w) (chan31 ch3) = (Stat.ok.code, []) ∧ (((after (.stationWrite 0 31 127 w) (chan31 ch3)).chan 31).st 127).state = .waiting := by
  decide +kernel

theorem test_station_locks (b : Nat) : ((({} : Channel)).rxb b).supLock = false := rfl

theorem test_recover : ((after (.channelRecover 0 31) (chan31 { ch3 with err := .busOff })).chan 31).err = .recovering ∧
    ((after (.tmRestart 0 31) (chan31 { ch3 with foreign := true })).chan 31).foreign = false := by decide +kernel

theorem test_raw : let s := chan31 { tx63 with rx := [(255, { cfg := 0xC0000000, buf := some f123, shadow := some f123 })] }
    bit ((s.chan 31).rxb 255).cfg 30 = true ∧ ((s.chan 31).rxb 255).supLock = false ∧
    answer0 (.rawFrameRead 0 31 255) s = (Stat.ok.code, frameBytes f123) ∧
    bits ((s.chan 31).txb 63).ctrl 62 61 = 2 ∧ allDown s 31 63 = false ∧
    lengthOk { frameOf 0 t8 0 d8 with len := 8 } (txCapacity 63) = true ∧ ((s.chan 31).txb 63).waiting = none ∧
    answer0 (.rawFrameSend 0 31 63 8 d8) s = (Stat.ok.code, []) := by decide +kernel

/-- NetworkConfigurationTakesEffect: rings of 64 and quotas of 1 cell for queue 127, without PCIe. -/
def qr : List W64 := [BitVec.ofNat 64 (2 ^ 63 + 2 ^ 62 + 2 ^ 61 + 6 * 2 ^ 52 + 6 * 2 ^ 48 + 64 * 2 ^ 40 + 2 ^ 16 + 1), 0, 0, 0, 0, 0, BitVec.ofNat 64 (2 ^ 46), 0]

theorem test_queue_write : (0 : W32).toNat = (0 : BitVec 7).toNat ∧ qr.length = 8 ∧ queueClean qr = true ∧ ownerRanges up qr = true ∧
    zeroRanges up 0 qr = true ∧ ringsInside up qr = true ∧ poolFits (modNq up 0 (fun x => { x with record := qr, stopped := x.stopped && !bit (qr.getD 0 0) 62 })) = true ∧
    answer0 (.queueWrite 0 0 qr) up = (Stat.ok.code, []) ∧
    (let r : List W64 := [BitVec.ofNat 64 (2 ^ 16 + 1), 0, 0, 0, 0, 0, BitVec.ofNat 64 (2 ^ 46), 0]
     ownerFields r = ownerFields (up.nq 127).record ∧ answer0 (.queueWrite 0 127 r) up = (Stat.ok.code, [])) ∧
    (let r : List W64 := [BitVec.ofNat 64 (2 ^ 63 + 2 ^ 62 + 6 * 2 ^ 52 + 6 * 2 ^ 48 + 64 * 2 ^ 40), 0, 0, 0, 0, 0, 0, 0]
     zeroFields r = zeroFields (up.nq 127).record ∧ ownerRanges up r = true ∧ ((after (.queueWrite 127 127 r) up).page 127).stat = Stat.ok.code) := by
  decide +kernel

/-- A port record: all four rates advertised, LMODE 3, `MAXLEN` 9216. -/
def pr : List W64 := [BitVec.ofNat 64 (2 ^ 63 + 15 * 2 ^ 57 + 9216 * 2 ^ 37 + 99 * 2 ^ 8 + 100), BitVec.ofNat 64 (2 ^ 48 + 32768 * 2 ^ 16), BitVec.ofNat 64 (2 ^ 8), 0]

theorem test_port_write : pr.length = 4 ∧ portClean pr = true ∧ portRanges pr = true ∧ portOk pr (up.port .np0).record = true ∧ portOk pr pr = true ∧
    renegotiates (up.port .np1).record pr = true ∧ (up.port .np1).step = .full ∧ answer0 (.portWrite 0 1 pr) up = (Stat.ok.code, []) ∧
    ((after (.portWrite 0 0 pr) (np0 0 id)).port .np0).link = false ∧ answer0 (.pairWrite 0 pr pr) up = (Stat.ok.code, []) ∧
    timeSource up = 0 := by decide +kernel

theorem test_net_writes : [((0, 0) : W64 × W64)].all nfilterClean = true ∧ answer0 (.nfilterWrite 0 511 [(0, 0)]) up = (Stat.ok.code, []) ∧
    (let r : Bytes := [0, 0, 0, 4] ++ List.replicate 60 0
     r.length = 64 ∧ zeroBits (recWord r 0) 46 32 = true ∧ 1024 ≤ bits (recWord r 0) 31 16 ∧ answer0 (.vellekWrite 0 r) up = (Stat.ok.code, [])) ∧
    (let s := withNet (fun n => { n with vellek := [0, 0, 0, 4, 0, 0, 0, 0x80, 0, 0, 0, 0, 10, 0, 0, 9] ++ List.replicate 48 0 }) (np0 0 id)
     let r : Bytes := [0, 0, 0, 5, 0, 0, 1, 0x90] ++ List.replicate 56 0
     vstClean { record := r } = true ∧ vstRanges s { record := r } = true ∧ vstOk s 4095 { record := r } = true ∧
     (s.vst 4095).holding = false ∧ waitingFrames s 4095 = [] ∧ answer0 (.vstationWrite 0 4095 r) s = (Stat.ok.code, [])) ∧
    answer0 (.vblockWrite 0 8191 [2048]) up = (Stat.ok.code, []) ∧
    (let s := withA (fun r => { r with attr := [(0x300, BitVec.ofNat 64 (5 * 2 ^ 61 + 0x1003 * 2 ^ 48))], image := [(0x300, 0x200)] }) up
     let w : W64 := BitVec.ofNat 64 (3 * 2 ^ 62 + 0x300 * 2 ^ 32 + 1)
     entryOk s w = true ∧ answer0 (.vblockWrite 0 8191 [w]) s = (Stat.ok.code, []) ∧ entryOk s (w + 1) = false ∧
     disjointBlocks (allBlocks (s.setNet { s.net with vblocks := putAll 0 s.net.vblocks 8191 [w] })) = true) := by
  decide +kernel

theorem test_time_write : let r0 : W64 := BitVec.ofNat 64 (2 ^ 62 + 500 * 2 ^ 52 + 499999999)
    let r1 : W64 := BitVec.ofNat 64 (1000000 * 2 ^ 32)
    zeroBits r0 51 32 = true ∧ zeroBits r1 31 0 = true ∧ bits r0 60 52 = 500 ∧ bits r0 63 62 ≠ timeSource up ∧ pairMode up ≠ 2 ∧
    answer0 (.timeWrite 0 r0 r1) up = (Stat.ok.code, []) ∧ (after (.timeWrite 0 r0 r1) up).time.tstate = 1 := by decide +kernel

theorem test_ptp_write : answer0 (.ptpWrite 0 0 (List.replicate 18 0 ++ [127, 0])) up = (Stat.ok.code, []) ∧
    answer0 (.ptpWrite 0 1 [1, 2, 3, 4]) up = (Stat.ok.code, []) ∧
    ptpOk 2 (List.replicate 11 0 ++ [0xFC] ++ List.replicate 11 0 ++ [2, 4, 0]) = true ∧
    answer0 (.ptpWrite 0 3 (List.replicate 11 0 ++ [0xFC] ++ List.replicate 11 0 ++ [2, 4, 0])) up = (Stat.ok.code, []) ∧
    answer0 (.latencyWrite 0 1 3 7 8) up = (Stat.ok.code, []) := by decide +kernel

theorem test_macsec_config : zeroBits (0x0000200F : W32) 31 14 = true ∧ usable416 (secrets.kslot 7) 0 0 = true ∧
    answer0 (.macsecConfig 0 1 0x00002001 5 7 255 32 (List.replicate 32 1)) secrets = (Stat.ok.code, []) := by decide +kernel

/-- FrameAndPhyRequestsAct: queue 0 in the packet buffer. -/
def onQ0 (x : NQueue) : State := withNet (fun n => { n with queues := [(0, x)] }) (np0 0 id)

theorem test_frames : let s := onQ0 { q5 with frames := [{ word := 0, bytes := [1], read := true }] }
    inBuffer s 0 = true ∧ answer0 (.frameRead 0 0) s = (Stat.ok.code, leBytes 8 0 ++ [1]) ∧ ((after (.frameReturn 0 0) s).nq 0).frames = [] ∧
    (s.nq 0).txen = true ∧ queuePorts s 0 ≠ [] ∧ txFits s 0 (frame 8 0).bytes 7 = true ∧
    (match tagFrame (s.nq 0) (frame 8 0).bytes 7 with
     | some (bs, c) =>
       let f : TxFrame := { src := 0, cls := BitVec.ofNat 3 c, bytes := bs, id := s.net.nextId }
       decide (wireBytes s .np0 f ≤ (s.port .np0).maxlen) && canSend (s.port .np0) f
     | none => false) = true ∧
    (after (.frameSend 0 0 7 (frame 8 0).bytes) s).net.port0.copies.length = 1 := by decide +kernel

theorem test_no_flow_control : NoFlowControl (onQ0 {}) := fun p => by cases p <;> decide

theorem test_phy : answer0 (.phyRead 0 1 31 65535 0xABCD) up = (Stat.ok.code, [0xCD, 0xAB, 0, 0]) ∧ managedPhy 7 60 = true ∧
    (answer0 (.phyWrite 0 1 7 60 0xFFFF) up).1 = Stat.refused.code ∧ managedPhy 31 65535 = false ∧
    answer0 (.phyWrite 0 1 31 65535 0xFFFF) up = (Stat.ok.code, []) := by decide +kernel

/-! ### Requests that the sequencer carries out -/

/-- A part with a waiting program of partition 0, an INT32 output 0x203 and INT32 memory 0x201, 0x202, a force, and loop 8191. -/
def config : State := withA (fun r => { r with
  programs := [(0, some p1)]
  waiting := [(0, some p1)]
  attr := [(0x201, BitVec.ofNat 64 (2 * 2 ^ 61)), (0x202, BitVec.ofNat 64 (2 * 2 ^ 61)), (0x203, BitVec.ofNat 64 (5 * 2 ^ 61))]
  image := [(0x201, 0x200), (0x202, 0x200), (0x203, 0x200)]
  forces := [forceOf 0 (BitVec.ofNat 64 (2 ^ 63 + 0x202 * 2 ^ 32)) 0 7 0]
  loops := [(8191, { words := [(0, 0x8000000000000000)] })] }) up

def busy0 (c : Instr) (s : State) : Bool := ((after c s).page 0).busy && decide (((after c s).queue (sourceQueue (.mgmt .A))).occ ≥ 1)

theorem test_groups : up.duplex = true ∧ busy0 (.roleSwap 0) up = true ∧ (look none config.image.waiting 0).isSome = true ∧
    look none config.image.changes 0 = none ∧ busy0 (.change 0 5) config = true ∧ busy0 (.changeCancel 0) config = true := by decide +kernel

theorem test_forces : let w0 : W64 := BitVec.ofNat 64 (2 ^ 63 + 0x201 * 2 ^ 32)
    let f := forceOf 0 w0 0 7 0
    zeroBits w0 58 52 = true ∧ (f.vkey = false ∧ f.ty = 0 ∧ f.iid = 0 ∧ f.voff = 0) ∧
    (pointForceChecks config.image 0 f).all Prod.fst = true ∧ (config.image.forces.filter (fun g => g.part == 0)).length < 1024 ∧
    busy0 (.forceSet 0 w0 0 7) config = true ∧ holdsForce config.image (forceOf 0 (BitVec.ofNat 64 (2 ^ 63 + 0x202 * 2 ^ 32)) 0 0 0) = true ∧
    busy0 (.forceRemove 0 (BitVec.ofNat 64 (2 ^ 63 + 0x202 * 2 ^ 32)) 0) config = true := by decide +kernel

/-- A variable force of REAL64 on the last 8 bytes of a named instance. -/
def named : State := withA (fun r => { r with programs := [(0, some { p1 with insts := [{ iid := 9, kind := 1, slot := 1, voff := 8, len := 16 }] })] }) up

theorem test_var_force : let w0 : W64 := BitVec.ofNat 64 (2 ^ 63 + 2 ^ 62 + 3 * 2 ^ 59 + 9)
    let f := forceOf 0 w0 8 7 0
    (f.vkey = true ∧ f.ty < 6 ∧ f.point = 0 ∧ f.voff % forceWidth f.ty = 0) ∧ (varForceChecks named.image 0 f).all Prod.fst = true ∧
    busy0 (.forceSet 0 w0 8 7) named = true := by decide +kernel

theorem test_loop_requests : (loopOf config.image 8191).owner = 0 ∧ (loopOf config.image 8191).valid = true ∧
    busy0 (.loopSetpoint 0 8191 5) config = true ∧ busy0 (.loopBank 0 8191 1) config = true ∧ busy0 (.loopRun 0 8191 1) config = true ∧
    admitted config.image.loops = true ∧ busy0 (.loopRemove 0 8191) config = true ∧
    ([p1, p1].all (fun g => g.tasks.all (fun k => k.loops.all (fun x => x.toNat != 8191)))) = true := by decide +kernel

/-- An unconfigured equation neither holds nor blocks; its acknowledge is decided by its record. -/
theorem test_interlock : eqClean (List.replicate 12 0) = true ∧ bit up.ir.latches 63 = false ∧ busy0 (.interlockWrite 0 63 (List.replicate 12 0)) up = true ∧
    (let s := { up with ir := { up.ir with latches := 2 ^ 63 } }
     bit s.ir.latches 63 = true ∧ bit s.ir.parity0 63 = false ∧ (answer0 (.interlockWrite 0 63 (List.replicate 12 0)) s).1 = Stat.conflict.code) := by
  decide +kernel

/-- ConfigurationRequestsPresentTheirGroup: entries at the ends of their tables. -/
theorem test_config_requests : (let w : W64 := BitVec.ofNat 64 (0xFFFFF * 2 ^ 32)
     zeroBits w 55 52 = true ∧ bits w 19 0 ≤ bits w 51 32 ∧ busy0 (.grantWrite 0 8191 w) up = true) ∧
    limitKeeps up.image 65535 0 = true ∧ busy0 (.limitWrite 0 65535 0) up = true ∧
    (attrChecks up 0x205 2 (BitVec.ofNat 64 (5 * 2 ^ 61))).all Prod.fst = true ∧ busy0 (.attrWrite 0 0x205 2 (BitVec.ofNat 64 (5 * 2 ^ 61))) up = true ∧
    typeOf up.image 0xFFFFF ≠ tyCount2 ∧ busy0 (.pointOwner 0 0xFFFFF 127) up = true ∧ busy0 (.pointOwner 0 0x2F 127) up = true ∧
    busy0 (.loopAssign 0 8191 1 127) up = true := by decide +kernel

theorem test_lio_config : let w : W64 := BitVec.ofNat 64 (125 * 2 ^ 40 + 3)
    zeroBits w 39 12 = true ∧ zeroBits w 8 3 = true ∧ bits w 2 0 = 3 ∧ bits w 63 40 = 125 ∧ referenced up.image 47 = false ∧
    busy0 (.lioConfig 0 47 w) up = true := by decide +kernel

/-- Loop 8191 with measured value 0x201, setpoint 0x202 and output 0x203, every 2 ticks. -/
def loopRec : List W64 :=
  [BitVec.ofNat 64 (2 ^ 63 + 0x201 * 2 ^ 32 + 2), BitVec.ofNat 64 (0x202 * 2 ^ 32 + 1), 0x203] ++ List.replicate 21 0

theorem test_loop_write : loopRec.length = 24 ∧ loopRecordOk config.image 0 8191 loopRec = true ∧
    admitted (put {} config.image.loops 8191 (writeLoop (loopOf config.image 8191) loopRec)) = true ∧ busy0 (.loopWrite 0 8191 loopRec) config = true := by
  decide +kernel

/-- DeviceRequestsActAtOnce. -/
theorem test_device_requests : answer0 (.partitionSet 0 127 5) up = (Stat.ok.code, []) ∧ (look 0 (after (.partitionSet 0 127 5) up).pair.budgets 127) = 5 ∧
    answer0 (.dmaWindow 0 127 0xFFFFFFFFFFFFF000 0x1000) up = (Stat.ok.code, []) ∧ answer0 (.route 0 671 1) up = (Stat.ok.code, []) ∧
    answer0 (.route 0 31 1) up = (Stat.ok.code, []) ∧ answer0 (.route 0 288 0) up = (Stat.ok.code, []) ∧
    answer0 (.healthClear 0) up = (Stat.ok.code, []) ∧ (after (.recFreeze 0) up).recd.frozen = true ∧
    (after (.recThaw 0) { up with recd := { up.recd with frozen := true } }).recd.drainCause = 2 ∧
    (after (.autoRejoin 0 0) up).pair.autoRejoin = false := by decide +kernel

theorem test_region_requests : regionArg 1 = .B ∧ mayRejoin alone (regionArg 1) = true ∧ (after (.rejoin 0 1) alone).regState .B = .testing ∧
    (after (.regionOut 0 0) up).pair.active = .B ∧ answer0 (.regionOut 0 1) alone = (Stat.conflict.code, [0, 0, 0, 0]) := by decide +kernel

/-- TenantsAreDeniedDeviceRequests: the first and the last tenant. -/
theorem test_denied : zeroOnly (.slotStatus 127) = some 127 ∧ ((after (.slotStatus 127) up).page 127).stat = Stat.denied.code ∧
    ((after (.contactSheet 1) up).page 1).stat = Stat.denied.code := by decide +kernel

/-! ### The invariant -/

/-- StepKeepsCanonicalTables: the state after reset meets it. -/
theorem test_canonical : Canonical State.reset ∧ (match step { State.reset with pending := [.suppliesGood] } with | .next _ => true | _ => false) = true :=
  ⟨⟨rfl, by decide +kernel, by decide +kernel, rfl, rfl, rfl, rfl, fun _ => ⟨rfl, rfl, rfl, rfl⟩, rfl, rfl, fun _ => rfl, fun _ => rfl,
    fun p => by cases p <;> rfl, fun er => by cases er <;> exact ⟨rfl, rfl, rfl, rfl, rfl, rfl, rfl⟩⟩, by decide +kernel⟩

/-- RequestsPresentTheirGroup, the acknowledge: all inputs the constant 0, `TRIP` clear and `RESET` set at index 0. -/
def acked (latched : Bool) : State :=
  { up with ir := { up.ir with
    eq0 := [(63, [0, 0, 0, 0, 1, 0, 0, 0, 0x3030303030303030, 0, 0x8000000000000000, 0])]
    eq1 := [(63, [0, 0, 0, 0, 1, 0, 0, 0, 0x3030303030303030, 0, 0x8000000000000000, 0])]
    latches := if latched then 0x8000000000000000 else 0 } }

theorem test_ack : ackOk (acked true) 63 = true ∧ ackOk up 63 = false ∧ bit (acked true).ir.latches 63 = true ∧
    (List.range 8).all (fun k => decide (0x30 ≤ bits (eqWord (eqRecord (acked true) 63) 8) (8 * k + 6) (8 * k))) = true ∧
    busy0 (.interlockAck 0 63) (acked true) = true ∧
    bit (runEff .A 5 true (acked true) (.eqAck 63 0 none)).ir.latches 63 = false ∧ (runEff .A 5 true up (.eqAck 63 0 none)).ir = up.ir ∧
    eqLocked (acked true) 63 = true ∧ eqLocked up 63 = false ∧ eqCopy (runEff .A 5 true up (.eqWrite 63 [5] none)) 63 true = some [5] := by
  decide +kernel

/-! ### Requests that were rung, and corners of the clauses -/

/-- PARTITION_SET of partition 127 with budget 5 as page 0 rings it: header with code 0x0203, two words in the request buffer. -/
def rung : State :=
  let x : Page := { busy := true, rung := true, req := reqOf 0x0203 8, reqBuf := (leBytes 4 127 ++ leBytes 4 5).zipIdx.filterMap (fun e =>
    if e.1 = 0 then none else some (0x40 + e.2, e.1)) }
  { withPage 0 x up with hr := { (withPage 0 x up).hr with doorbells := [0] } }

theorem test_asked : rung.asks 0 (Req.partitionSet 127 5) = true ∧ rung.asks 0 (Req.partitionSet 127 6) = false ∧ rung.asks 0 (Req.slotStatus) = false ∧
    up.asks 0 (Req.partitionSet 127 6) = true ∧ answer0 (.partitionSet 0 127 5) rung = (Stat.ok.code, []) ∧
    ((after (.partitionSet 0 127 5) rung).page 0).rung = false ∧ (after (.partitionSet 0 127 5) rung).hr.doorbells = [] ∧
    after (.partitionSet 0 127 6) rung = rung ∧
    ({ rung with hr := { rung.hr with doorbells := [9, 0] } }).asks 0 (Req.partitionSet 127 5) = false := by decide +kernel

/-- What the change log gains. -/
theorem test_logged : currentLog (after (.partitionSet 0 127 5) up).img = currentLog up.img ++ [(0, 0x0203, [127, 0, 0, 0, 5, 0, 0, 0])] ∧
    up.dev.cutoff = false := by decide +kernel

/-- InterruptTargetsFollowTheirRules: sources 31 and 32 at level 7 and 3 with group hold-off times, one of them above the running
priority; HOST's registers while HR is in reset. -/
def heldOff : Evc := { two false with idle := false, rpri := 6, level := (List.range 128).map (fun k => (k, if k = 36 then 0x77777773 else 0x77777777)), hold := [(31, 5)] }

theorem test_hold_off : qualifying (evA heldOff) .a0 = [1023] ∧ (heldOff.levelOf 288, heldOff.levelOf 1023) = (3, 7) ∧
    (let t := (after (.interruptDelivery .a0) (evA heldOff)).evc.a0
     t.rpri = 7 ∧ t.stack = [(false, 6)] ∧ t.holding = 0x80000000 ∧ look 0 t.undel 9 = 1 ∧ look 0 t.undel 31 = 0) ∧
    (let s := { hostMsi with hr := { hostMsi.hr with running := false } }
     after (.endOfInterrupt .host) s = s ∧ after (.evcPendWrite .host 1 0 0) s = s ∧ after (.evcCtrlPmodeWrite .host 0) s = s) := by decide +kernel

/-- RecorderFollowsItsRules: a frozen ring takes nothing; a drain of one event after three were lost; HR in reset. -/
theorem test_frozen_ring : (let s := recOf (fun r => { r with frozen := true, inq := [ev0] }); after .recordWrite s = s) ∧
    (let t := (after .recorderDrainComplete (recOf (fun r => { r with draining := true, drainCause := 3, holdq := [ev0], lostHold := 3, head := 0x7FFFF }))).recd
     t.slot 0x7FFFF = { ev0 with rseq := nextRseq 0 } ∧ (t.slot 0).code = 0x2601 ∧ (t.slot 0).p1 = 3 ∧ (t.slot 0).p2 = 1 ∧
     (t.slot 1).code = 0x2603 ∧ (t.slot 1).p1 = 3 ∧ (t.slot 1).p2 = 1 ∧ t.head = 2) ∧
    (let s := { up with hr := { up.hr with running := false } }
     after (.recCtrlFreezeSet 0x80000000) s = s ∧ after .recWinLastRead s = s) := by decide +kernel

/-- ImageFollowsUpdatesAndTheSweep, COUNT48 point 0x300: count 2^48 - 1 wraps; a counter of 4 bits passes its end; another epoch. -/
def counted (w1 : W64) : Region := { up.erA with image := [(0x300, BitVec.ofNat 64 (0xFFFFFFFF * 2 ^ 32 + 0x500)), (0x301, w1)] }
def count48Of (r : Region) : Nat := bits (look 0 r.image 0x301) 47 32 * 2 ^ 32 + bits (look 0 r.image 0x300) 63 32
def added (w1 : W64) (raw : BitVec 16) : Nat := count48Of (applyItem (counted w1) 77 (.count48 0x300 raw 4 7 false)).1

theorem test_count48 : typeOf (counted 1) 0x300 = tyCount ∧ (15 : BitVec 16).toNat < 2 ^ 4 ∧
    count48Of (counted (BitVec.ofNat 64 (0xFFFF * 2 ^ 32))) = 2 ^ 48 - 1 ∧
    added (BitVec.ofNat 64 (0xFFFF * 2 ^ 32)) 15 = 2 ^ 48 - 1 ∧
    added (BitVec.ofNat 64 (14 * 2 ^ 48 + 0xFFFF * 2 ^ 32 + 2 ^ 24 + 7)) 15 = 0 ∧
    added (BitVec.ofNat 64 (14 * 2 ^ 48 + 0xFFFF * 2 ^ 32 + 2 ^ 24 + 7)) 1 = 2 ∧
    added (BitVec.ofNat 64 (14 * 2 ^ 48 + 0xFFFF * 2 ^ 32 + 2 ^ 24 + 6)) 15 = 14 := by decide +kernel

/-- StationsFollowTheirChecks: node 9 in WAITING is heard, without and with a transmit buffer that carries its point 0x300. -/
def heard9 (carries : Bool) (st : Station) : State :=
  let ch : Channel := { ch3 with
    rx := [(2, { cfg := 0xC0000009 })]
    stations := [(9, { st with word := BitVec.ofNat 64 (2 ^ 63 + 2 * 2 ^ 48 + 10 * 2 ^ 24) })]
    tx := [(63, { ctrl := BitVec.ofNat 64 (2 ^ 63), template := some { f123 with len := 8, data := [] } })]
    map := if carries then [(4095, (BitVec.ofNat 64 (2 ^ 63 + 2 ^ 62 + 0x300 * 2 ^ 32 + 63 * 2 ^ 8), 31))] else [] }
  withA (fun r => { r with attr := [(0x300, BitVec.ofNat 64 (5 * 2 ^ 61 + (3 * 128 + 9) * 2 ^ 48))], image := [(0x300, 0x200)] }) (withChan 3 ch up)

theorem test_heard_up : let s := heard9 false { state := .waiting }
    let t := after (.fieldFrameValid 3 f123 false) s
    stationTx s 3 9 = [] ∧ filterTarget (s.chan 3) (normFrame f123) = some 2 ∧ (t.chan 3 |>.st 9).state = .up ∧ (t.chan 3 |>.st 9).heard = true ∧
    (t.chan 3 |>.rxb 2).supLock = false ∧ (t.chan 3 |>.rxb 2).buf.isSome = true := by decide +kernel

theorem test_heard_returning : let s := heard9 true { state := .down }
    let t := after (.fieldFrameValid 3 f123 false) s
    stationTx s 3 9 = [63] ∧ (t.chan 3 |>.st 9).state = .returning ∧ (t.chan 3 |>.rxb 2).supLock = true ∧ (t.chan 3 |>.st 9).toSend = [(63, 1)] ∧
    (t.chan 3 |>.txb 63).builds = 1 := by decide +kernel

/-- The last frame that a RETURNING station waits for, and the first of two. -/
def returning9 (wants : List (Nat × Nat)) : State :=
  let s := heard9 true { state := .returning, toSend := wants }
  withChan 3 { s.chan 3 with sending := .buffer 63, tx := [(63, { ((s.chan 3).txb 63) with committed := some f123, committedNo := 4, inFlight := true })], rx := [(2, { cfg := 0xC0000009, supLock := true })] } s

theorem test_returned : (let t := after (.fieldFrameSent 3) (returning9 [(63, 4)])
     (t.chan 3 |>.st 9).state = .up ∧ (t.chan 3 |>.rxb 2).supLock = false) ∧
    ((after (.fieldFrameSent 3) (returning9 [(5, 1), (63, 4)])).chan 3 |>.st 9).toSend = [(5, 1)] := by decide +kernel

/-- FieldRequestsTakeEffect: buffer 2 is given node 9, which is RETURNING. -/
theorem test_rxbuf_locks : let s := heard9 false { state := .returning }
    ActsAtOnce (s.chan 3) ∧ (s.chan 3 |>.rxb 2).supLock = false ∧
    ((after (.rxbufConfig 0 3 2 0xC0000009) s).chan 3 |>.rxb 2) = { cfg := 0xC0000009, supLock := true } ∧
    ((after (.rxbufConfig 0 3 2 0xC0000008) s).chan 3 |>.rxb 2) = { cfg := 0xC0000008 } := by
  refine ⟨⟨rfl, by decide +kernel⟩, by decide +kernel⟩

/-- ClocksCrossingsAndResetsFollowTheirRules: a channel on its way to isolation is reset; SR is reset. -/
theorem test_resets : let s := withChan 3 { ch3 with state := .stopping, stopCause := 3 } up
    ((after (.resetAssert (.channel 3)) s).chan 3).state = .isolated ∧
    (let t := after (.resetAssert .sr) secrets
     secrets.hr.pages = [] ∧ t.sec.running = false ∧ t.sec.drbgOn = false ∧ t.sec.secOff = true ∧ t.sec.slots = secrets.sec.slots) := by decide +kernel

/-- NetworkReceptionReachesItsOutcome: a bad frame for a ring in host memory leaves its bytes in the first of its buffers. -/
theorem test_bad_fills : let x : NQueue := { record := [BitVec.ofNat 64 (2 ^ 63 + 2 ^ 62 + 6 * 2 ^ 52 + 6 * 2 ^ 48 + 100 * 2 ^ 16 + 100), 0, 0x1000, 0, 0x1000, 0x1000, BitVec.ofNat 64 (2 ^ 46 + 7 * 2 ^ 60 + 2 ^ 48), 0], rxProd := 2 }
    let s : State := { to5 x with hr := { up.hr with pcie := true } }
    wouldSteer s .np0 { frame 8 0 with fcsOk := false, bufs := [0x1000, 0x1100] } = some 5 ∧ inBuffer s 5 = false ∧ (s.nq 5).rxen = true ∧
    buffersFilled s 5 { word := 0, bytes := (frame 8 0).bytes } [0x1000, 0x1100] = 1 ∧
    (after (.networkFrameReceived .np0 { frame 8 0 with fcsOk := false, bufs := [0x1000, 0x1100] }) s).hr.hostWrites.length =
      buffersFilled s 5 { word := 0, bytes := (frame 8 0).bytes } [0x1000, 0x1100] := by decide +kernel

/-- LinksFollowPollsAndRateSteps: the source port's link goes down, with and without a master at the other port. -/
def srcDown (code : Bool) : State :=
  let s := np0 0 id
  { s with
    time := { s.time with srcPort := some .np0, tstate := 2, rec0 := BitVec.ofNat 64 (2 ^ 62) }
    net := { s.net with port1 := { s.net.port1 with link := true, ptp := if code then .other 9 else .listening } } }

theorem test_source_moves : ((srcDown true).port .np1).hasMaster = true ∧ (after (.linkDown .np0 1) (srcDown true)).time.srcPort = some .np1 ∧
    ((srcDown false).port .np1).hasMaster = false ∧ timeSource (srcDown false) = 1 ∧
    (let t := after (.linkDown .np0 1) (srcDown false)
     t.time.srcPort = none ∧ t.time.tstate = 3 ∧ t.time.slewRem = 0) := by decide +kernel

/-- SecurityCommandsFollowTheirRules: what waits that can fall into SR's command. -/
theorem test_cuts_short : (let s (l : List Instr) : State := { up with pending := l }
    cutsShort (s [.tamperT1 3]) = true ∧ cutsShort (s [.tamperT1 4]) = false ∧ cutsShort (s [.tamperT2 4]) = true ∧ cutsShort (s [.resetAssert .sr]) = true ∧
    cutsShort (s [.powerWarning, .commitCutoff, .brownOut]) = true ∧ cutsShort (s [.powerWarning, .resetN]) = false ∧ cutsShort (s []) = false) := by
  decide +kernel

/-- BlockFaultsFollowTheLevelTable: an event without a code of the spec joins the queue; one each of SR, HR and AR. -/
theorem test_open_records : [5, 6, 7].all (fun r => (after (.blockFault (.shared r 0)) up).recd.inq.any (fun e => e.src.toNat == r)) = true ∧
    ((after (.blockFault (.shared 7 0)) up).recd.inq.length = 1) := by decide +kernel

/-- BlockTestsAndScrubbingDecideTheBlock: part 3 of the code store of ER-A passes; a scrub counts an error of an instance at the block. -/
theorem test_code_store : let s := withBlock (blockOf 0x903) { segments := 1, spares := 127, parts := [(3, 3)] }
    blockOf 0x903 = blockOf 0x900 ∧ blkKind (0x903 : BitVec 16).toNat = 9 ∧ look 4 (s.block (blockOf 0x903)).parts 3 = 3 ∧ tableWf 4 (s.block (blockOf 0x903)).parts = true ∧
    tableWf ({} : Block) s.health.blocks = true ∧ look 4 ((after (.selfTestComplete 0x903 0 9) s).block (blockOf 0x903)).parts 3 = 4 ∧
    ((after (.scrubPass .A [0x903, 0x902] []) up).block (blockOf 0x900)).corr = 2 := by decide +kernel

end Sys2Proof.Tests
end

section
/-! SUPPORT. Register writes and the reads behind them (R15, R17 to R19, R309, R378 to R381, R462 to R468): what each space and each
word takes, and what a read of it shows. -/

namespace Sys2Proof.Machine

/-! ### Little-endian bytes (R6) -/

@[simp] theorem leBytes_length (n v : Nat) : (leBytes n v).length = n := by
  induction n generalizing v with
  | zero => rfl
  | succ n ih => simp [leBytes, ih]

@[simp] theorem leNat_leBytes (n v : Nat) : leNat (leBytes n v) = v % 256 ^ n := by
  induction n generalizing v with
  | zero => simp [leBytes, leNat, Nat.mod_one]
  | succ n ih => simp [leBytes, leNat, ih, Nat.pow_succ', Nat.mod_mul]

theorem leBytes_append (m n v : Nat) : leBytes (m + n) v = leBytes m v ++ leBytes n (v / 256 ^ m) := by
  induction m generalizing v with
  | zero => simp [leBytes]
  | succ m ih => rw [Nat.add_right_comm]; simp [leBytes, ih, Nat.pow_succ', Nat.div_div_eq_div_mul]

/-- The first bytes of a field that is laid out behind `a` read back. -/
theorem fieldLE_append_leBytes (a c : Bytes) {m n off : Nat} (v : Nat) (h : a.length = off) (hm : m ≤ n) :
    fieldLE (a ++ (leBytes n v ++ c)) off m = v % 256 ^ m := by
  obtain ⟨r, rfl⟩ := Nat.exists_eq_add_of_le hm
  have hf : (leBytes m v ++ (leBytes r (v / 256 ^ m) ++ c)).take m = leBytes m v := List.take_left' (leBytes_length m v)
  rw [fieldLE, ← h, List.drop_left, leBytes_append, List.append_assoc, hf, leNat_leBytes]

theorem fitBytes_length (n : Nat) (bs : Bytes) : (fitBytes n bs).length = n := by
  simp [fitBytes]; omega

theorem leNat_word (w : W32) : leNat (leBytes 4 w.toNat) = w.toNat := by
  rw [leNat_leBytes]; exact Nat.mod_eq_of_lt w.isLt

/-- The four bytes of a word are one whole word of a serial frame (R464). -/
theorem wholeWords_leBytes (w : W32) : wholeWords (leBytes 4 w.toNat) = [w] :=
  calc wholeWords (leBytes 4 w.toNat) = [BitVec.ofNat 32 (leNat (leBytes 4 w.toNat))] := rfl
    _ = [w] := by rw [leNat_word, BitVec.ofNat_toNat, BitVec.setWidth_eq]

theorem lookAll_putAll {α : Type} [DecidableEq α] (d : α) (m : SMap α) (k : Nat) (vs : List α) (h : tableWf d m = true) :
    lookAll d (putAll d m k vs) k vs.length = vs := by
  induction vs generalizing m k with
  | nil => rfl
  | cons v vs ih =>
    have hk : look d (putAll d (put d m k v) (k + 1) vs) k = v := by
      rw [look_putAll_outside d vs _ _ _ (by omega), look_put_self d m k v h]
    simp only [putAll, List.length_cons, lookAll, hk, ih _ _ (put_wf d m k v h)]

/-- A word written into a memory reads back. -/
theorem Mem.readWord_writeWord (m : Mem) (a : Nat) (w : W32) (h : m.wf = true) :
    BitVec.ofNat 32 (leNat ((m.writeBytes a (leBytes 4 w.toNat)).readBytes a 4)) = w := by
  have hr : (m.writeBytes a (leBytes 4 w.toNat)).readBytes a 4 = leBytes 4 w.toNat := lookAll_putAll 0 m a (leBytes 4 w.toNat) h
  rw [hr, leNat_word, BitVec.ofNat_toNat, BitVec.setWidth_eq]

/-- The lower word of a 64-bit register after a write of it. -/
theorem setBits_lower (x : W64) (w : W32) : (setBits x 31 0 w.toNat).setWidth 32 = w := by
  apply BitVec.eq_of_toNat_eq
  simp only [setBits, bits, BitVec.toNat_setWidth, BitVec.toNat_ofNat]
  omega

/-- The upper word of a 64-bit register after a write of it. -/
theorem setBits_upper (x : W64) (w : W32) : ((setBits x 63 32 w.toNat) >>> 32).setWidth 32 = w := by
  apply BitVec.eq_of_toNat_eq
  simp only [setBits, bits, BitVec.toNat_setWidth, BitVec.toNat_ofNat, BitVec.toNat_ushiftRight, Nat.shiftRight_eq_div_pow]
  omega

/-! ### A register write by its space (R17, R309, R376, R378, R462 to R464) -/

theorem whenPowered_next {s : State} (hp : s.powered = true) (t : State) : whenPowered s t = .next t := by simp [whenPowered, hp]

section
variable {s : State} (hp : s.powered = true)
include hp

theorem registerWrite_bar0 (off : Nat) (v : W64) :
    exec (.registerWrite .bar0 off v) s = .next (writeBar0 s off (v.setWidth 32)) := whenPowered_next hp _

theorem registerWrite_words {l : List (BitVec 4 × W32)} (off : Nat) (v : W64) :
    exec (.registerWrite (.words l) off v) s =
      .next (if l.all (fun e => e.1 == 0xF) then writeWords s off (l.map Prod.snd) else s) := whenPowered_next hp _

theorem registerWrite_frame (bs : Bytes) (off : Nat) (v : W64) :
    exec (.registerWrite (.frame bs) off v) s = .next (if s.hr.pcie then s else writeFrame s bs) := whenPowered_next hp _

theorem registerWrite_serial (off : Nat) (v : W64) :
    exec (.registerWrite .serial off v) s = .next (if s.hr.pcie then s else writeBar0 s off (v.setWidth 32)) := whenPowered_next hp _

theorem registerWrite_evcCore (t : Target) (off : Nat) (v : W64) :
    exec (.registerWrite (.evcCore t) off v) s =
      .next (if off % 4 = 0 ∧ reaches s t then writeEvc s t off (v.setWidth 32) else s) := whenPowered_next hp _

theorem registerWrite_routeTable (fromActive : Bool) (n : Nat) (v : W64) :
    exec (.registerWrite (.routeTable fromActive) n v) s = .next (if fromActive then writeRoute s n v else s) := whenPowered_next hp _

theorem registerWrite_timeUnit (fromActive : Bool) (off : Nat) (v : W64) :
    exec (.registerWrite (.timeUnit fromActive) off v) s = .next (if fromActive then writeTimeUnit s off v else s) := whenPowered_next hp _

theorem counterLowerWordRead_next (who : Requester) (reg : WideReg) :
    exec (.counterLowerWordRead who reg) s = .next (if holdNo who != 0 || s.hr.running then holdUpper s who reg else s) :=
  whenPowered_next hp _

end

/-! ### The pages' words in BAR0 (R465, R468) -/

/-- The address of word k of a page lies in the window of that page alone. -/
theorem pageAddress (p : BitVec 7) {k : Nat} (hk : k < 0x1000) :
    0x10000 ≤ 0x10000 + p.toNat * 0x1000 + k ∧ 0x10000 + p.toNat * 0x1000 + k < 0x90000 ∧
      (0x10000 + p.toNat * 0x1000 + k - 0x10000) / 0x1000 = p.toNat ∧ (0x10000 + p.toNat * 0x1000 + k) % 0x1000 = k := by
  have := p.isLt
  omega

theorem pageAddress_comm (p : BitVec 7) (k : Nat) : 0x10000 + k + p.toNat * 0x1000 = 0x10000 + p.toNat * 0x1000 + k := by omega

theorem writeBar0_page {s : State} (hr : s.hr.running = true) (p : BitVec 7) {k : Nat} (hk : k < 0x1000) (h4 : k % 4 = 0) (w : W32) :
    writeBar0 s (0x10000 + p.toNat * 0x1000 + k) w = writePage s p k w := by
  obtain ⟨hlo, hhi, hpage, hoff⟩ := pageAddress p hk
  unfold writeBar0
  rw [hpage, hoff, if_neg (by simp [hr]; omega), if_neg (by omega), if_neg (by omega), if_neg (by omega), if_pos ⟨hlo, hhi⟩,
    BitVec.ofNat_toNat, BitVec.setWidth_eq]

theorem readBar0_page (s : State) (who : Requester) (p : BitVec 7) {k : Nat} (hk : k < 0x1000) (h4 : k % 4 = 0) :
    readBar0 s who (0x10000 + p.toNat * 0x1000 + k) = readPage s who p k := by
  obtain ⟨hlo, hhi, hpage, hoff⟩ := pageAddress p hk
  unfold readBar0
  rw [hpage, hoff, if_neg (by omega), if_neg (by omega), if_neg (by omega), if_neg (by omega), if_neg (by omega), if_neg (by omega),
    if_pos ⟨hlo, hhi⟩, BitVec.ofNat_toNat, BitVec.setWidth_eq]

/-- The request words of a page (R468): page x becomes y by a write of w at offset k. -/
def RequestWord (x : Page) (k : Nat) (w : W32) (y : Page) : Prop :=
  (k = 0x18 ∧ y = { x with req := w &&& 0xFFFF07FF }) ∨ (k = 0x1C ∧ y = { x with bctrl := w &&& 0xF0000000 }) ∨
    (k = 0x20 ∧ y = { x with boff := w }) ∨ (k = 0x24 ∧ y = { x with blen := w }) ∨
    (k = 0x28 ∧ y = { x with baddr := setBits x.baddr 31 0 w.toNat }) ∨ (k = 0x2C ∧ y = { x with baddr := setBits x.baddr 63 32 w.toNat }) ∨
    (0x40 ≤ k ∧ k < 0x800 ∧ k % 4 = 0 ∧ y = { x with reqBuf := x.reqBuf.writeBytes k (leBytes 4 w.toNat) })

theorem RequestWord.offset {x y : Page} {k : Nat} {w : W32} (h : RequestWord x k w y) : k < 0x1000 ∧ k % 4 = 0 := by
  rcases h with ⟨rfl, -⟩ | ⟨rfl, -⟩ | ⟨rfl, -⟩ | ⟨rfl, -⟩ | ⟨rfl, -⟩ | ⟨rfl, -⟩ | ⟨-, hhi, h4, -⟩ <;> omega

/-- While a page is not busy, a write reaches its request word (R470). -/
theorem writePage_requestWord {s : State} {p : BitVec 7} {k : Nat} {w : W32} {y : Page} (hb : (s.page p).busy = false)
    (h : RequestWord (s.page p) k w y) : writePage s p k w = s.setPage p y := by
  rcases h with ⟨rfl, rfl⟩ | ⟨rfl, rfl⟩ | ⟨rfl, rfl⟩ | ⟨rfl, rfl⟩ | ⟨rfl, rfl⟩ | ⟨rfl, rfl⟩ | ⟨hlo, hhi, -, rfl⟩
  case inr.inr.inr.inr.inr.inr =>
    have hne : ∀ c, c < 0x40 → k ≠ c := by omega
    simp [writePage, hb, hlo, hhi, hne]
  all_goals simp [writePage, hb]

/-- While a page is busy, its request words are closed, and a write of one sets `WRERR` (R470). -/
theorem writePage_closed {s : State} {p : BitVec 7} {k : Nat} (w : W32) (hb : (s.page p).busy = true)
    (hk : (0x18 ≤ k ∧ k < 0x30) ∨ (0x40 ≤ k ∧ k < 0x800)) :
    writePage s p k w = s.setPage p { s.page p with wrerr := true } := by
  simp [writePage, hb, hk]

/-- A request word reads as it was written, as far as it holds it. -/
theorem readPage_requestWord {x : Page} {k : Nat} {w : W32} {t : State} {p : BitVec 7} (h : RequestWord x k w (t.page p))
    (hm : 0x40 ≤ k → x.reqBuf.wf = true) (who : Requester) :
    readPage t who p k = if k = 0x18 then w &&& 0xFFFF07FF else if k = 0x1C then w &&& 0xF0000000 else w := by
  rcases h with ⟨rfl, hy⟩ | ⟨rfl, hy⟩ | ⟨rfl, hy⟩ | ⟨rfl, hy⟩ | ⟨rfl, hy⟩ | ⟨rfl, hy⟩ | ⟨hlo, hhi, -, hy⟩
  case inr.inr.inr.inr.inr.inr =>
    have hne : ∀ c, c < 0x40 → k ≠ c := by omega
    simp [readPage, hy, hlo, hhi, hne, Mem.readWord_writeWord x.reqBuf k w (hm hlo)]
  all_goals simp [readPage, hy, setBits_lower, setBits_upper]

/-- Bit 28 of a page's first word is `WRERR`. -/
theorem readPage_wrerr {t : State} {p : BitVec 7} (who : Requester) (h : (t.page p).wrerr = true) : bit (readPage t who p 0) 28 = true := by
  have hs := (t.page p).seqNo.isLt
  have h1 := (t.page p).busy.toNat_le
  have h2 := (t.page p).valid.toNat_le
  have h3 := (t.page p).dberr.toNat_le
  simp only [readPage, bit, h, Nat.testBit_eq_decide_div_mod_eq, BitVec.toNat_ofNat, decide_eq_true_eq, if_true, Bool.toNat_true]
  omega

theorem readPage_writeOnly (s : State) (who : Requester) (p : BitVec 7) : readPage s who p 0x14 = 0 ∧ readPage s who p 0x30 = 0 := by
  simp [readPage]

/-- A write that turns page p into y changes that page alone. -/
theorem setPage_frame (s : State) (p : BitVec 7) (y : Page) :
    { s.setPage p y with hr := s.hr } = s ∧ { (s.setPage p y).hr with pages := s.hr.pages } = s.hr ∧
      ∀ q, q ≠ p → (s.setPage p y).page q = s.page q :=
  ⟨rfl, rfl, fun _ hq => State.setPage_page_other s y hq.symm⟩

/-! ### The words of an interrupt target (R378 to R381) -/

/-- Changing one target leaves the others and everything else. -/
theorem modTarget_frame (s : State) (t : Target) (f : Evc → Evc) :
    { modTarget s t f with evc := s.evc } = s ∧ (modTarget s t f).target t = f (s.target t) ∧
      ∀ u, u ≠ t → (modTarget s t f).target u = s.target u :=
  ⟨by cases t <;> rfl, State.setTarget_target_self s t _, fun _ hu => State.setTarget_target_other s _ hu.symm⟩

theorem writeEvc_mask (s : State) (t : Target) {g : Nat} (hg : g < 32) (v : W32) :
    writeEvc s t (0x100 + 4 * g) v = modTarget s t (fun e => { e with mask := put 0xFFFFFFFF e.mask g v }) := by
  have hk : (0x100 + 4 * g) % 128 / 4 = g := by omega
  unfold writeEvc
  simp only [hk]
  rw [if_neg (by omega), if_neg (by omega), if_neg (by omega), if_neg (by omega), if_pos (by omega)]

theorem writeEvc_hold (s : State) (t : Target) {g : Nat} (hg : g < 32) (v : W32) :
    writeEvc s t (0x200 + 4 * g) v = modTarget s t (fun e => { e with hold := put 0 e.hold g (v &&& 0xFFFF) }) := by
  have hk : (0x200 + 4 * g) % 128 / 4 = g := by omega
  unfold writeEvc
  simp only [hk]
  rw [if_neg (by omega), if_neg (by omega), if_neg (by omega), if_neg (by omega), if_neg (by omega), if_pos (by omega)]

theorem readEvc_mask (s : State) (t : Target) {g : Nat} (hg : g < 32) :
    readEvc s t (0x100 + 4 * g) = look 0xFFFFFFFF (s.target t).mask g := by
  have hk : (0x100 + 4 * g) % 128 / 4 = g := by omega
  unfold readEvc
  simp only [hk]
  rw [if_neg (by omega), if_neg (by omega), if_neg (by omega), if_pos (by omega), Evc.maskWord]

theorem readEvc_hold (s : State) (t : Target) {g : Nat} (hg : g < 32) :
    readEvc s t (0x200 + 4 * g) = look 0 (s.target t).hold g := by
  have hk : (0x200 + 4 * g) % 128 / 4 = g := by omega
  unfold readEvc
  simp only [hk]
  rw [if_neg (by omega), if_neg (by omega), if_neg (by omega), if_neg (by omega), if_neg (by omega), if_pos (by omega)]

theorem reaches_of {s : State} {t : Target} (h : t ≠ .host ∨ s.hr.running = true) : reaches s t = true := by
  simpa [reaches] using h

/-! ### Serial frames and words (R462 to R464) -/

/-- One word is one register access. -/
theorem writeWords_one (s : State) (off : Nat) (w : W32) : writeWords s off [w] = writeBar0 s off w := rfl

/-- The three address bytes of a frame give back its address. -/
theorem frameAddress {off : Nat} (h : off < 2 ^ 24) :
    (BitVec.ofNat 8 (off / 65536)).toNat * 65536 + (BitVec.ofNat 8 (off / 256)).toNat * 256 + (BitVec.ofNat 8 off).toNat = off := by
  simp only [BitVec.toNat_ofNat]
  omega

/-- A write frame with one whole word in BAR0's window writes that word (R464). -/
theorem writeFrame_word (s : State) {off : Nat} (h : off < 2 ^ 22) (w : W32) :
    writeFrame s (0x38 :: BitVec.ofNat 8 (off / 65536) :: BitVec.ofNat 8 (off / 256) :: BitVec.ofNat 8 off :: leBytes 4 w.toNat) =
      writeBar0 s off w := by
  have ha := frameAddress (off := off) (by omega)
  simp only [writeFrame, ha]
  rw [if_pos ⟨trivial, Nat.div_eq_of_lt h⟩, Nat.mod_eq_of_lt h, wholeWords_leBytes, writeWords_one]

/-! ### Words of BAR0 that take no write (R26, R465) -/

/-- The status block and the reserved page behind it ignore a write. -/
theorem writeBar0_below (s : State) {off : Nat} (h : off < 0x2000) (w : W32) : writeBar0 s off w = s := by
  unfold writeBar0
  split
  · rfl
  · rw [if_neg (by omega), if_neg (by omega), if_neg (by omega), if_neg (by omega)]

/-- While HR's port is held in reset, no word but a doorbell acts. -/
theorem writeBar0_held {s : State} (hr : s.hr.running = false) {off : Nat} (hd : isDoorbell off = false) (w : W32) :
    writeBar0 s off w = s := by
  unfold writeBar0
  rw [if_pos (Or.inr (by rw [hr, hd]; rfl))]

/-! ### The time unit's words (R309) -/

theorem toNat_ofNat_bits {w m : Nat} (x : BitVec w) (hi lo : Nat) (h : hi + 1 - lo ≤ m) :
    (BitVec.ofNat m (bits x hi lo)).toNat = x.toNat / 2 ^ lo % 2 ^ (hi + 1 - lo) := by
  rw [BitVec.toNat_ofNat, bits]
  exact Nat.mod_eq_of_lt (lt_of_lt_of_le (Nat.mod_lt _ (Nat.two_pow_pos _)) (Nat.pow_le_pow_right (by omega) h))

/-- RATE and SLEWMAX read back as written. -/
theorem readTimeUnit_rate (s : State) (v : W64) :
    readTimeUnit (s.setTime { s.time with rate := BitVec.ofNat 32 (bits v 63 32), slewMax := BitVec.ofNat 27 (bits v 26 0) }) 0 =
      v &&& 0xFFFFFFFF07FFFFFF := by
  have hand : (v &&& 0xFFFFFFFF07FFFFFF).toNat = v.toNat &&& 0xFFFFFFFF07FFFFFF := BitVec.toNat_and ..
  have hhi : (v.toNat &&& 0xFFFFFFFF07FFFFFF) / 2 ^ 32 = v.toNat / 2 ^ 32 % 2 ^ 32 := by
    rw [Nat.and_div_two_pow]; exact Nat.and_two_pow_sub_one_eq_mod _ 32
  have hlo : (v.toNat &&& 0xFFFFFFFF07FFFFFF) % 2 ^ 32 = v.toNat % 2 ^ 32 % 2 ^ 27 := by
    rw [Nat.and_mod_two_pow]; exact Nat.and_two_pow_sub_one_eq_mod _ 27
  have hread (t : State) : readTimeUnit t 0 = BitVec.ofNat 64 (t.time.rate.toNat * 2 ^ 32 + t.time.slewMax.toNat) := rfl
  apply BitVec.eq_of_toNat_eq
  rw [hand, hread, State.setTime_time, toNat_ofNat_bits v 63 32 (by omega), toNat_ofNat_bits v 26 0 (by omega), BitVec.toNat_ofNat]
  omega

/-- The remaining slew, 48 bits signed, reads back as written. -/
theorem readTimeUnit_slew (s : State) (v : W64) :
    readTimeUnit (s.setTime { s.time with slewRem := (BitVec.ofNat 48 (bits v 47 0)).toInt * 2 ^ 40 }) 8 = v &&& 0x0000FFFFFFFFFFFF := by
  have hand : (v &&& 0x0000FFFFFFFFFFFF).toNat = v.toNat % 2 ^ 48 :=
    (BitVec.toNat_and ..).trans (Nat.and_two_pow_sub_one_eq_mod _ 48)
  have hslew : Int.tdiv ((BitVec.ofNat 48 (bits v 47 0)).toInt * 2 ^ 40) (2 ^ 40) = (BitVec.ofNat 48 (bits v 47 0)).toInt :=
    Int.mul_tdiv_cancel _ (by decide)
  have hread (t : State) : readTimeUnit t 8 = BitVec.ofNat 64 (BitVec.ofInt 48 (Int.tdiv t.time.slewRem (2 ^ 40))).toNat := rfl
  apply BitVec.eq_of_toNat_eq
  rw [hand, hread, State.setTime_time, hslew, BitVec.ofInt_toInt, toNat_ofNat_bits v 47 0 (by omega), BitVec.toNat_ofNat]
  omega

/-! ### Wide registers and their upper words (R15, R305) -/

/-- DTIME and the tick stand at 0x30 and 0x38 of the status block (R467). -/
theorem statusBlock_times (s : State) : ∃ pre post : Bytes, pre.length = 0x30 ∧
    statusBlock s = pre ++ (leBytes 8 s.time.dtime.toNat ++ (leBytes 8 s.nowTick ++ post)) := by
  refine ⟨fitBytes 32 deviceId ++ leBytes 4 (devState s).toNat ++ leBytes 4 s.dev.fwver.toNat ++ leBytes 4 s.dev.srver.toNat ++
      leBytes 4 s.dev.cfmt.toNat,
    leBytes 4 s.dev.changes.toNat ++ leBytes 4 s.dev.opTime.toNat ++ leBytes 4 s.dev.pcycle.toNat ++ leBytes 4 (hostIf s), ?_, ?_⟩
  · simp [fitBytes_length]
  · simp only [statusBlock, List.append_assoc]

theorem ofNat_mod_word (v : Nat) : BitVec.ofNat 32 (v % 256 ^ 4) = BitVec.ofNat 32 v := by
  apply BitVec.eq_of_toNat_eq
  simp only [BitVec.toNat_ofNat]
  omega

theorem readBar0_dtime (s : State) (who : Requester) : readBar0 s who 0x30 = lowerWord s .dtime := by
  obtain ⟨pre, post, hlen, hblock⟩ := statusBlock_times s
  have h : fieldLE (statusBlock s) 0x30 4 = s.time.dtime.toNat % 256 ^ 4 := by
    rw [hblock]; exact fieldLE_append_leBytes pre _ _ hlen (by omega)
  calc readBar0 s who 0x30 = BitVec.ofNat 32 (fieldLE (statusBlock s) 0x30 4) := by simp [readBar0, readDev]
    _ = lowerWord s .dtime := by rw [h, ofNat_mod_word]; rfl

theorem readBar0_tick (s : State) (who : Requester) : readBar0 s who 0x38 = lowerWord s .tick := by
  obtain ⟨pre, post, hlen, hblock⟩ := statusBlock_times s
  have h : fieldLE (statusBlock s) 0x38 4 = s.nowTick % 256 ^ 4 := by
    rw [hblock, ← List.append_assoc]; exact fieldLE_append_leBytes (pre ++ _) post _ (by simp [hlen]) (by omega)
  calc readBar0 s who 0x38 = BitVec.ofNat 32 (fieldLE (statusBlock s) 0x38 4) := by simp [readBar0, readDev]
    _ = lowerWord s .tick := by rw [h, ofNat_mod_word]; rfl

/-- The words behind DTIME, behind the tick, and behind a page's FIXED_TICK are the requester's hold. -/
theorem readBar0_upper (s : State) (who : Requester) :
    readBar0 s who 0x34 = heldWord s who ∧ readBar0 s who 0x3C = heldWord s who ∧
      ∀ p : BitVec 7, readBar0 s who (0x1000C + p.toNat * 0x1000) = heldWord s who := by
  refine ⟨by simp [readBar0, readDev], by simp [readBar0, readDev], fun p => ?_⟩
  rw [pageAddress_comm p 0xC, readBar0_page s who p (by omega) (by omega)]
  simp [readPage]

/-- The upper word of a counter: the hold of a 48-bit one, zero of a 32-bit one. -/
theorem readBar2_upper {s : State} (who : Requester) {off w v : Nat} (h : statSlot s off = some (w, v)) (h8 : off % 8 = 4) :
    readBar2 s who off = if w = 48 then heldWord s who else 0 := by
  simp [readBar2, h, h8]

/-- Reading a lower word fills the requester's hold and changes nothing else. -/
theorem holdUpper_frame (s : State) (who : Requester) (reg : WideReg) :
    { holdUpper s who reg with hr := s.hr } = s ∧ { (holdUpper s who reg).hr with holds := s.hr.holds } = s.hr ∧
      ∀ k, k ≠ holdNo who → look 0 (holdUpper s who reg).hr.holds k = look 0 s.hr.holds k :=
  ⟨rfl, rfl, fun _ hk => look_put_other _ _ _ hk.symm⟩

theorem heldWord_holdUpper {s : State} (who : Requester) (reg : WideReg) (h : tableWf 0 s.hr.holds = true) :
    heldWord (holdUpper s who reg) who = BitVec.ofNat 32 (wideValue s reg / 2 ^ 32) := look_put_self _ _ _ _ h

theorem statSlot_holdUpper (s : State) (who : Requester) (reg : WideReg) (off : Nat) :
    statSlot (holdUpper s who reg) off = statSlot s off := rfl

/-- The host port's two reads in a row of a wide register give its lower and its upper word, of one instant. -/
theorem readWordsUp_wide {s : State} {off : Nat} {reg : WideReg} (h : tableWf 0 s.hr.holds = true) (hw : wideAt false off = some reg)
    (hlow : readBar0 s .hostPort off = lowerWord s reg)
    (hup : readBar0 (holdUpper s .hostPort reg) .hostPort (off + 4) = heldWord (holdUpper s .hostPort reg) .hostPort) :
    (readWordsUp false 2 off s).1 = [BitVec.ofNat 32 (wideValue s reg), BitVec.ofNat 32 (wideValue s reg / 2 ^ 32)] := by
  rw [heldWord_holdUpper _ _ h] at hup
  simp [readWordsUp, readWord, hw, hlow, hup, lowerWord]

/-- A read frame in the first 256 bytes of BAR0 (R464). -/
theorem readFrame_bar0 {s : State} (hp : s.hr.pcie = false) (hr : s.hr.running = true) (a : Byte) (n : Nat) :
    readFrame s [0xEB, 0, 0, a] n = readWordsUp false n a.toNat s := by
  have ha : a.toNat < 2 ^ 22 := by have := a.isLt; omega
  have h0 : (0 : Byte).toNat * 65536 + (0 : Byte).toNat * 256 + a.toNat = a.toNat := by simp
  simp only [readFrame, h0, hp, hr, Nat.div_eq_of_lt ha, Nat.mod_eq_of_lt ha]
  rfl

theorem holds_of {s : State} {who : Requester} (h : who ≠ .hostPort ∧ who ≠ .core .host ∨ s.hr.running = true) :
    (holdNo who != 0 || s.hr.running) = true := by
  rcases h with ⟨hport, hhost⟩ | hr
  · match who with
    | .hostPort => exact absurd rfl hport
    | .core .host => exact absurd rfl hhost
    | .core .a0 | .core .a1 | .core .b0 | .core .b1 => rfl
  · simp [hr]

end Sys2Proof.Machine
end

section
open Sys2Proof Sys2Proof.Machine

/-- Settles O51, word by word: what a write leaves is the lemma of its space and its word, what a read returns that of the word. -/
theorem registerWritesReachTheirUnit : Obligations.RegisterWritesReachTheirUnit := by
  intro s hp
  refine ⟨?_, ?_, ?_, ?_, ?_, ?_, ?_, ?_, ?_, ?_, ?_⟩
  -- Words of a page.
  · intro p k v y hwf hr x w open_ closed hor
    have hk : k < 0x1000 ∧ k % 4 = 0 := by
      rcases hor with ⟨-, h⟩ | ⟨-, h4, h, -⟩
      · exact RequestWord.offset h
      · omega
    have hw : writePage s p k w = s.setPage p y := by
      rcases hor with ⟨hb, h⟩ | ⟨hb, -, h, rfl⟩
      · exact writePage_requestWord hb h
      · exact writePage_closed w hb h
    have hself : (s.setPage p y).page p = y := State.setPage_page_self s p y hwf
    obtain ⟨hrest, hpages, hother⟩ := setPage_frame s p y
    have hread (ho : open_) (hm : 0x40 ≤ k → x.reqBuf.wf = true) (who : Requester) :=
      (readBar0_page (s.setPage p y) who p hk.1 hk.2).trans (readPage_requestWord (hself.symm ▸ ho.2 : RequestWord x k w _) hm who)
    refine ⟨s.setPage p y, ?_, hrest, hpages, hself, hother, fun who => ⟨?_, ?_, ?_, ?_⟩⟩
    · rw [registerWrite_bar0 hp, writeBar0_page hr p hk.1 hk.2, hw]
    · intro ho h18 h1C hm
      rw [hread ho hm who, if_neg h18, if_neg h1C]
    · rintro ho rfl
      rw [pageAddress_comm p 0x18, hread ho (by omega) who, if_pos rfl]
    · rintro ho rfl
      rw [pageAddress_comm p 0x1C, hread ho (by omega) who, if_neg (by omega), if_pos rfl]
    · intro hc
      have hy : ((s.setPage p y).page p).wrerr = true := by rw [hself, hc.2.2.2]
      rw [← Nat.add_zero (0x10000 + p.toNat * 0x1000), readBar0_page _ who p (by omega) rfl]
      exact readPage_wrerr who hy
  -- Write-only words.
  · intro p who
    rw [pageAddress_comm p 0x14, pageAddress_comm p 0x30, readBar0_page s who p (by omega) (by omega), readBar0_page s who p (by omega) (by omega)]
    exact ⟨(readPage_writeOnly s who p).1, (readPage_writeOnly s who p).2, rfl⟩
  -- The words of a target.
  · intro tg g v hg hh
    have hreach := reaches_of hh
    constructor
    · obtain ⟨hrest, hself, hother⟩ := modTarget_frame s tg (fun e => { e with mask := put 0xFFFFFFFF e.mask g (v.setWidth 32) })
      refine ⟨_, ?_, hrest, hself, hother, fun hwf => ?_⟩
      · rw [registerWrite_evcCore hp, if_pos ⟨by omega, hreach⟩, writeEvc_mask s tg hg]
      · rw [readEvc_mask _ tg hg, hself]; exact look_put_self _ _ _ _ hwf
    · obtain ⟨hrest, hself, hother⟩ := modTarget_frame s tg (fun e => { e with hold := put 0 e.hold g (v.setWidth 32 &&& 0xFFFF) })
      refine ⟨_, ?_, hrest, hself, hother, fun hwf => ?_⟩
      · rw [registerWrite_evcCore hp, if_pos ⟨by omega, hreach⟩, writeEvc_hold s tg hg]
      · rw [readEvc_hold _ tg hg, hself]; exact look_put_self _ _ _ _ hwf
  -- Serial frames and partial words.
  · intro off v l
    refine ⟨fun h => ?_, fun h hoff => ?_, fun ⟨e, he, hne⟩ => ?_, ?_⟩
    · rw [registerWrite_serial hp, h, if_pos rfl]
    · rw [registerWrite_frame hp, registerWrite_bar0 hp, h, writeFrame_word s hoff]; rfl
    · have hall : l.all (fun e => e.1 == 0xF) = false := List.all_eq_false.2 ⟨e, he, by simpa using hne⟩
      rw [registerWrite_words hp, hall]; rfl
    · rw [registerWrite_words hp, registerWrite_bar0 hp]; rfl
  -- Routes.
  · intro n v hn hroute
    rw [registerWrite_routeTable hp, if_pos rfl, writeRoute, if_pos ⟨hn, hroute⟩]; rfl
  -- Writes without effect.
  · intro off v
    refine ⟨by rw [registerWrite_timeUnit hp]; rfl, by rw [registerWrite_routeTable hp]; rfl, fun h => ?_⟩
    rw [registerWrite_bar0 hp, writeBar0_below s h]
  -- The time unit.
  · intro v
    exact ⟨⟨by rw [registerWrite_timeUnit hp]; rfl, readTimeUnit_rate s v⟩, by rw [registerWrite_timeUnit hp]; rfl, readTimeUnit_slew s v⟩
  -- HR's port held in reset.
  · intro off v hr hd
    refine ⟨by rw [registerWrite_bar0 hp, writeBar0_held hr hd], fun reg => ?_⟩
    rw [counterLowerWordRead_next hp, hr]; rfl
  -- Partial words of a read.
  · intro bar2 off l ⟨e, he, hne⟩
    have hall : l.all (· == 0xF) = false := List.all_eq_false.2 ⟨e, he, by simpa using hne⟩
    rw [readRequest, if_pos (Or.inr (Or.inr (by rw [hall]; rfl)))]
  -- A read frame over a wide register.
  · intro off hpcie hr hoff hwf
    rw [readFrame_bar0 hpcie hr]
    rcases hoff with rfl | rfl
    · exact readWordsUp_wide (reg := .dtime) hwf rfl (readBar0_dtime s _) (readBar0_upper _ _).1
    · exact readWordsUp_wide (reg := .tick) hwf rfl (readBar0_tick s _) (readBar0_upper _ _).2.1
  -- A lower word.
  · intro who reg hwf hh
    obtain ⟨hrest, hhr, hother⟩ := holdUpper_frame s who reg
    have hheld := heldWord_holdUpper who reg hwf
    obtain ⟨hdtime, -, hpage⟩ := readBar0_upper (holdUpper s who reg) who
    refine ⟨holdUpper s who reg, ?_, hrest, hhr, hheld, hother, hdtime.trans hheld, fun p => (hpage p).trans hheld, fun off w v hs h8 => ?_⟩
    · rw [counterLowerWordRead_next hp, holds_of hh, if_pos rfl]
    · rw [readBar2_upper who (statSlot_holdUpper s who reg off ▸ hs) h8, hheld]
end

section
/-! SUPPORT. Golup instruction words (R117, R120, R121): the fields of the word that a format lays out, and the word that a format's
fields lay out again. -/

namespace Sys2Proof.Golup

open Sys2Proof.Machine

/-! ### The parts of a word -/

theorem bits_word {n : Nat} (h : n < 2 ^ 64) (hi lo : Nat) : bits (BitVec.ofNat 64 n) hi lo = n / 2 ^ lo % 2 ^ (hi + 1 - lo) := by
  rw [bits, BitVec.toNat_ofNat, Nat.mod_eq_of_lt h]

theorem bit_word {n : Nat} (h : n < 2 ^ 64) {k : Nat} {b : Bool} (hb : n / 2 ^ k % 2 = b.toNat) : bit (BitVec.ofNat 64 n) k = b := by
  rw [bit, BitVec.toNat_ofNat, Nat.mod_eq_of_lt h, Nat.testBit_eq_decide_div_mod_eq, hb]
  cases b <;> rfl

theorem toNat_bit {w : Nat} (x : BitVec w) (k : Nat) : (bit x k).toNat = x.toNat / 2 ^ k % 2 := Nat.toNat_testBit ..

theorem fld_word {n k : Nat} (h : n < 2 ^ 64) {hi lo : Nat} {v : BitVec k} (hv : n / 2 ^ lo % 2 ^ (hi + 1 - lo) = v.toNat) :
    fld k (BitVec.ofNat 64 n) hi lo = v := by
  rw [fld, bits_word h, hv, BitVec.ofNat_toNat, BitVec.setWidth_eq]

theorem tyOf_tyCode (ty : Ty) : tyOf (tyCode ty) = some ty := by cases ty <;> rfl

theorem tyCode_lt (ty : Ty) : tyCode ty < 8 := by cases ty <;> decide

theorem tyCode_of_tyOf {n : Nat} {ty : Ty} (h : tyOf n = some ty) : tyCode ty = n := by
  unfold tyOf at h; split at h <;> cases h <;> rfl

theorem szOf_szCode (sz : Sz) : szOf (szCode sz) = some sz := by cases sz <;> rfl

theorem szCode_lt (sz : Sz) : szCode sz < 8 := by cases sz <;> decide

theorem szCode_of_szOf {n : Nat} {sz : Sz} (h : szOf n = some sz) : szCode sz = n := by
  unfold szOf at h; split at h <;> cases h <;> rfl

theorem spaceOf_spaceCode (sp : Space) : spaceOf (spaceCode sp) = some sp := by cases sp <;> rfl

theorem spaceCode_lt (sp : Space) : spaceCode sp < 8 := by cases sp <;> decide

theorem spaceCode_of_spaceOf {n : Nat} {sp : Space} (h : spaceOf n = some sp) : spaceCode sp = n := by
  unfold spaceOf at h; split at h <;> cases h <;> rfl

/-! ### The fields of a word that a format lays out -/

/-- Format O: every field, and the opcode, stands where the decoder reads it. -/
theorem fieldsO_wordO {op : Nat} (hop : op < 256) (f : OFields) :
    bits (wordO op f) 63 56 = op ∧ fieldsO (wordO op f) = some f := by
  have hty := tyCode_lt f.ty
  have him := f.im.toNat_lt
  have hcw := f.cw.toNat_lt
  have hn : op * 2 ^ 56 + tyCode f.ty * 2 ^ 53 + f.wd.toNat * 2 ^ 48 + f.wa.toNat * 2 ^ 43 + f.wb.toNat * 2 ^ 38 + f.cb.toNat * 2 ^ 35
    + f.im.toNat * 2 ^ 34 + f.cw.toNat * 2 ^ 33 + f.imm.toNat < 2 ^ 64 := by omega
  have hty' : bits (wordO op f) 55 53 = tyCode f.ty := (bits_word hn ..).trans (by omega)
  have hwd : fld _ (wordO op f) 52 48 = f.wd := fld_word hn (by omega)
  have hwa : fld _ (wordO op f) 47 43 = f.wa := fld_word hn (by omega)
  have hwb : fld _ (wordO op f) 42 38 = f.wb := fld_word hn (by omega)
  have hcb : fld _ (wordO op f) 37 35 = f.cb := fld_word hn (by omega)
  have him' : bit (wordO op f) 34 = f.im := bit_word hn (by omega)
  have hcw' : bit (wordO op f) 33 = f.cw := bit_word hn (by omega)
  have hres : bit (wordO op f) 32 = false := bit_word hn (by rw [Bool.toNat_false]; omega)
  have himm : fld _ (wordO op f) 31 0 = f.imm := fld_word hn (by omega)
  refine ⟨(bits_word hn ..).trans (by omega), ?_⟩
  rw [fieldsO, hty', tyOf_tyCode]
  simp only [hres, him', hcw', hwd, hwa, hwb, hcb, himm]
  rfl

/-- Format M. -/
theorem fieldsM_wordM {op : Nat} (hop : op < 256) (f : MFields) :
    bits (wordM op f) 63 56 = op ∧ fieldsM (wordM op f) = some f := by
  have hsz := szCode_lt f.sz
  have hsp := spaceCode_lt f.sp
  have hn : op * 2 ^ 56 + szCode f.sz * 2 ^ 53 + f.wd.toNat * 2 ^ 48 + f.wa.toNat * 2 ^ 43 + f.wb.toNat * 2 ^ 38
    + spaceCode f.sp * 2 ^ 32 + f.off.toNat < 2 ^ 64 := by omega
  have hsz' : bits (wordM op f) 55 53 = szCode f.sz := (bits_word hn ..).trans (by omega)
  have hwd : fld _ (wordM op f) 52 48 = f.wd := fld_word hn (by omega)
  have hwa : fld _ (wordM op f) 47 43 = f.wa := fld_word hn (by omega)
  have hwb : fld _ (wordM op f) 42 38 = f.wb := fld_word hn (by omega)
  have hres : bits (wordM op f) 37 35 = 0 := (bits_word hn ..).trans (by omega)
  have hsp' : bits (wordM op f) 34 32 = spaceCode f.sp := (bits_word hn ..).trans (by omega)
  have hoff : fld _ (wordM op f) 31 0 = f.off := fld_word hn (by omega)
  refine ⟨(bits_word hn ..).trans (by omega), ?_⟩
  rw [fieldsM, hsz', szOf_szCode, hsp', spaceOf_spaceCode]
  simp only [hres, hwd, hwa, hwb, hoff]
  rfl

/-- Format B. -/
theorem fieldsB_wordB {op : Nat} (hop : op < 256) (f : BFields) :
    bits (wordB op f) 63 56 = op ∧ fieldsB (wordB op f) = some f := by
  have hneg := f.neg.toNat_lt
  have hcnd := f.cnd.toNat_lt
  have hn : op * 2 ^ 56 + f.neg.toNat * 2 ^ 39 + f.cnd.toNat * 2 ^ 38 + f.cb.toNat * 2 ^ 35 + f.tgt.toNat < 2 ^ 64 := by omega
  have hres : bits (wordB op f) 55 40 = 0 := (bits_word hn ..).trans (by omega)
  have hneg' : bit (wordB op f) 39 = f.neg := bit_word hn (by omega)
  have hcnd' : bit (wordB op f) 38 = f.cnd := bit_word hn (by omega)
  have hcb : fld _ (wordB op f) 37 35 = f.cb := fld_word hn (by omega)
  have hres' : bits (wordB op f) 34 32 = 0 := (bits_word hn ..).trans (by omega)
  have htgt : fld _ (wordB op f) 31 0 = f.tgt := fld_word hn (by omega)
  refine ⟨(bits_word hn ..).trans (by omega), ?_⟩
  rw [fieldsB, hres, hres', hneg', hcnd', hcb, htgt]
  rfl

/-- Format J. -/
theorem fieldsJ_wordJ {op : Nat} (hop : op < 256) (f : JFields) :
    bits (wordJ op f) 63 56 = op ∧ fieldsJ (wordJ op f) = some f := by
  have hn : op * 2 ^ 56 + f.wa.toNat * 2 ^ 43 + f.wb.toNat * 2 ^ 38 + f.idx.toNat < 2 ^ 64 := by omega
  have hres : bits (wordJ op f) 55 48 = 0 := (bits_word hn ..).trans (by omega)
  have hwa : fld _ (wordJ op f) 47 43 = f.wa := fld_word hn (by omega)
  have hwb : fld _ (wordJ op f) 42 38 = f.wb := fld_word hn (by omega)
  have hres' : bits (wordJ op f) 37 32 = 0 := (bits_word hn ..).trans (by omega)
  have hidx : fld _ (wordJ op f) 31 0 = f.idx := fld_word hn (by omega)
  refine ⟨(bits_word hn ..).trans (by omega), ?_⟩
  rw [fieldsJ, hres, hres', hwa, hwb, hidx]
  rfl

/-- Format F. -/
theorem fieldsF_wordF {op : Nat} (hop : op < 256) (f : FFields) :
    bits (wordF op f) 63 56 = op ∧ fieldsF (wordF op f) = some f := by
  have hty := tyCode_lt f.ty
  have hn : op * 2 ^ 56 + tyCode f.ty * 2 ^ 53 + f.wd.toNat * 2 ^ 48 + f.wa.toNat * 2 ^ 43 + f.wb.toNat * 2 ^ 38
    + f.cq.toNat * 2 ^ 35 + f.ci.toNat * 2 ^ 32 + f.cj.toNat * 2 ^ 29 + f.ck.toNat * 2 ^ 26 + f.cl.toNat * 2 ^ 23
    + f.off.toNat < 2 ^ 64 := by omega
  have hty' : bits (wordF op f) 55 53 = tyCode f.ty := (bits_word hn ..).trans (by omega)
  have hwd : fld _ (wordF op f) 52 48 = f.wd := fld_word hn (by omega)
  have hwa : fld _ (wordF op f) 47 43 = f.wa := fld_word hn (by omega)
  have hwb : fld _ (wordF op f) 42 38 = f.wb := fld_word hn (by omega)
  have hcq : fld _ (wordF op f) 37 35 = f.cq := fld_word hn (by omega)
  have hci : fld _ (wordF op f) 34 32 = f.ci := fld_word hn (by omega)
  have hcj : fld _ (wordF op f) 31 29 = f.cj := fld_word hn (by omega)
  have hck : fld _ (wordF op f) 28 26 = f.ck := fld_word hn (by omega)
  have hcl : fld _ (wordF op f) 25 23 = f.cl := fld_word hn (by omega)
  have hres : bits (wordF op f) 22 20 = 0 := (bits_word hn ..).trans (by omega)
  have hoff : fld _ (wordF op f) 19 0 = f.off := fld_word hn (by omega)
  refine ⟨(bits_word hn ..).trans (by omega), ?_⟩
  rw [fieldsF, hty', tyOf_tyCode]
  simp only [hres, hwd, hwa, hwb, hcq, hci, hcj,
    hck, hcl, hoff]
  rfl

/-! ### The word that the decoded fields lay out -/

theorem toNat_fld {n : Nat} (w : W64) (hi lo : Nat) (h : hi + 1 - lo ≤ n) : (fld n w hi lo).toNat = w.toNat / 2 ^ lo % 2 ^ (hi + 1 - lo) :=
  toNat_ofNat_bits w hi lo h

/-- A number that spells a word spells that word. -/
theorem ofNat_eq_word {n : Nat} {w : W64} (h : n = w.toNat) : BitVec.ofNat 64 n = w := by
  rw [h, BitVec.ofNat_toNat, BitVec.setWidth_eq]

theorem wordO_fieldsO {w : W64} {f : OFields} (h : fieldsO w = some f) : wordO (bits w 63 56) f = w := by
  unfold fieldsO at h
  split at h
  · rename_i ty hty
    split at h
    · cases h
    · rename_i hres
      cases h
      have hbit : w.toNat / 2 ^ 32 % 2 = 0 := by rw [← toNat_bit, Bool.eq_false_of_not_eq_true hres]; rfl
      have hw := w.isLt
      refine ofNat_eq_word ?_
      simp only [tyCode_of_tyOf hty, toNat_fld, toNat_bit, bits, Nat.reduceAdd, Nat.reduceSub, Nat.reduceLeDiff]
      omega
  · cases h

theorem wordM_fieldsM {w : W64} {f : MFields} (h : fieldsM w = some f) : wordM (bits w 63 56) f = w := by
  unfold fieldsM at h
  split at h
  · rename_i sz sp hsz hsp
    split at h
    · cases h
    · rename_i hres
      cases h
      have hw := w.isLt
      refine ofNat_eq_word ?_
      simp only [szCode_of_szOf hsz, spaceCode_of_spaceOf hsp, toNat_fld, bits, Nat.reduceAdd, Nat.reduceSub, Nat.reduceLeDiff] at hres ⊢
      omega
  · cases h

theorem wordB_fieldsB {w : W64} {f : BFields} (h : fieldsB w = some f) : wordB (bits w 63 56) f = w := by
  unfold fieldsB at h
  split at h
  · cases h
  · rename_i hres
    cases h
    have hw := w.isLt
    refine ofNat_eq_word ?_
    simp only [toNat_fld, toNat_bit, bits, Nat.reduceAdd, Nat.reduceSub, Nat.reduceLeDiff] at hres ⊢
    omega

theorem wordJ_fieldsJ {w : W64} {f : JFields} (h : fieldsJ w = some f) : wordJ (bits w 63 56) f = w := by
  unfold fieldsJ at h
  split at h
  · cases h
  · rename_i hres
    cases h
    have hw := w.isLt
    refine ofNat_eq_word ?_
    simp only [toNat_fld, bits, Nat.reduceAdd, Nat.reduceSub, Nat.reduceLeDiff] at hres ⊢
    omega

theorem wordF_fieldsF {w : W64} {f : FFields} (h : fieldsF w = some f) : wordF (bits w 63 56) f = w := by
  unfold fieldsF at h
  split at h
  · rename_i ty hty
    split at h
    · cases h
    · rename_i hres
      cases h
      have hw := w.isLt
      refine ofNat_eq_word ?_
      simp only [tyCode_of_tyOf hty, toNat_fld, bits, Nat.reduceAdd, Nat.reduceSub, Nat.reduceLeDiff] at hres ⊢
      generalize w.toNat = n at *
      have hlow : n / 2 ^ 29 % 2 ^ 3 * 2 ^ 29 + n / 2 ^ 26 % 2 ^ 3 * 2 ^ 26 + n / 2 ^ 23 % 2 ^ 3 * 2 ^ 23 + n / 2 ^ 0 % 2 ^ 20 =
          n % 2 ^ 32 := by omega
      have hhigh : n / 2 ^ 56 % 2 ^ 8 * 2 ^ 56 + n / 2 ^ 53 % 2 ^ 3 * 2 ^ 53 + n / 2 ^ 48 % 2 ^ 5 * 2 ^ 48 + n / 2 ^ 43 % 2 ^ 5 * 2 ^ 43 +
          n / 2 ^ 38 % 2 ^ 5 * 2 ^ 38 + n / 2 ^ 35 % 2 ^ 3 * 2 ^ 35 + n / 2 ^ 32 % 2 ^ 3 * 2 ^ 32 = n / 2 ^ 32 * 2 ^ 32 := by clear hlow; omega
      calc _ = (n / 2 ^ 56 % 2 ^ 8 * 2 ^ 56 + n / 2 ^ 53 % 2 ^ 3 * 2 ^ 53 + n / 2 ^ 48 % 2 ^ 5 * 2 ^ 48 + n / 2 ^ 43 % 2 ^ 5 * 2 ^ 43 +
          n / 2 ^ 38 % 2 ^ 5 * 2 ^ 38 + n / 2 ^ 35 % 2 ^ 3 * 2 ^ 35 + n / 2 ^ 32 % 2 ^ 3 * 2 ^ 32) +
          (n / 2 ^ 29 % 2 ^ 3 * 2 ^ 29 + n / 2 ^ 26 % 2 ^ 3 * 2 ^ 26 + n / 2 ^ 23 % 2 ^ 3 * 2 ^ 23 + n / 2 ^ 0 % 2 ^ 20) := by
            simp only [Nat.add_assoc]
        _ = n := by rw [hhigh, hlow]; exact Nat.div_add_mod' n _
  · cases h

/-! ### Opcodes (R121) -/

theorem instrO_word {e : EngId} {f : OFields} {op : Nat} {i : Instr} (h : instrO e f op = some i) :
    golupEngine i = some e ∧ encodeWord i = some (wordO op f) := by
  unfold instrO at h; split at h <;> cases h <;> exact ⟨rfl, rfl⟩

theorem instrM_word {e : EngId} {f : MFields} {op : Nat} {i : Instr} (h : instrM e f op = some i) :
    golupEngine i = some e ∧ encodeWord i = some (wordM op f) := by
  unfold instrM at h; split at h <;> cases h <;> exact ⟨rfl, rfl⟩

theorem instrB_word {e : EngId} {f : BFields} {op : Nat} {i : Instr} (h : instrB e f op = some i) :
    golupEngine i = some e ∧ encodeWord i = some (wordB op f) := by
  unfold instrB at h; split at h <;> cases h <;> exact ⟨rfl, rfl⟩

theorem instrJ_word {e : EngId} {f : JFields} {op : Nat} {i : Instr} (h : instrJ e f op = some i) :
    golupEngine i = some e ∧ encodeWord i = some (wordJ op f) := by
  unfold instrJ at h; split at h <;> cases h <;> exact ⟨rfl, rfl⟩

theorem instrF_word {e : EngId} {f : FFields} {op : Nat} {i : Instr} (h : instrF e f op = some i) :
    golupEngine i = some e ∧ encodeWord i = some (wordF op f) := by
  unfold instrF at h; split at h <;> cases h <;> exact ⟨rfl, rfl⟩

/-- A word of a format decodes by its opcode. -/
theorem decodeWord_wordO (e : EngId) (f : OFields) {op : Nat} (h : op < 0x50) : decodeWord e (wordO op f) = instrO e f op := by
  obtain ⟨hop, hf⟩ := fieldsO_wordO (show op < 256 by omega) f
  simp only [decodeWord, hop, hf, h, if_true]

theorem decodeWord_wordM (e : EngId) (f : MFields) {op : Nat} (h : 0x50 ≤ op ∧ op < 0x60) : decodeWord e (wordM op f) = instrM e f op := by
  obtain ⟨hop, hf⟩ := fieldsM_wordM (show op < 256 by omega) f
  simp only [decodeWord, hop, hf]
  rw [if_neg (by omega), if_pos (by omega)]

theorem decodeWord_wordB (e : EngId) (f : BFields) {op : Nat} (h : 0x60 ≤ op ∧ op < 0x70) : decodeWord e (wordB op f) = instrB e f op := by
  obtain ⟨hop, hf⟩ := fieldsB_wordB (show op < 256 by omega) f
  simp only [decodeWord, hop, hf]
  rw [if_neg (by omega), if_neg (by omega), if_pos (by omega)]

theorem decodeWord_wordJ (e : EngId) (f : JFields) {op : Nat} (h : 0x70 ≤ op ∧ op < 0x80) : decodeWord e (wordJ op f) = instrJ e f op := by
  obtain ⟨hop, hf⟩ := fieldsJ_wordJ (show op < 256 by omega) f
  simp only [decodeWord, hop, hf]
  rw [if_neg (by omega), if_neg (by omega), if_neg (by omega), if_pos (by omega)]

theorem decodeWord_wordF (e : EngId) (f : FFields) {op : Nat} (h : 0x80 ≤ op ∧ op < 256) : decodeWord e (wordF op f) = instrF e f op := by
  obtain ⟨hop, hf⟩ := fieldsF_wordF h.2 f
  simp only [decodeWord, hop, hf]
  rw [if_neg (by omega), if_neg (by omega), if_neg (by omega), if_neg (by omega)]

end Sys2Proof.Golup
end

section
open Sys2Proof Sys2Proof.Machine

/-- Settles O27, format by format: the instruction's word has its opcode and its fields where the decoder reads them. -/
theorem golupEncodeThenDecode : Obligations.GolupEncodeThenDecode := by
  intro id i w hid hw
  unfold Golup.encodeWord at hw
  split at hw <;> cases hw <;> cases hid
  iterate 45 exact Golup.decodeWord_wordO id _ (by decide)
  iterate 2 exact Golup.decodeWord_wordM id _ (by decide)
  iterate 4 exact Golup.decodeWord_wordB id _ (by decide)
  iterate 4 exact Golup.decodeWord_wordJ id _ (by decide)
  iterate 11 exact Golup.decodeWord_wordF id _ (by decide)

/-- Settles O28, format by format: the fields that a word's reserved bits let through lay out that word again. -/
theorem golupDecodeThenEncode : Obligations.GolupDecodeThenEncode := by
  intro id w i h
  simp only [Golup.decodeWord] at h
  split at h
  · split at h
    · rename_i f hf; have hi := Golup.instrO_word h; rwa [Golup.wordO_fieldsO hf] at hi
    · cases h
  split at h
  · split at h
    · rename_i f hf; have hi := Golup.instrM_word h; rwa [Golup.wordM_fieldsM hf] at hi
    · cases h
  split at h
  · split at h
    · rename_i f hf; have hi := Golup.instrB_word h; rwa [Golup.wordB_fieldsB hf] at hi
    · cases h
  split at h
  · split at h
    · rename_i f hf; have hi := Golup.instrJ_word h; rwa [Golup.wordJ_fieldsJ hf] at hi
    · cases h
  · split at h
    · rename_i f hf; have hi := Golup.instrF_word h; rwa [Golup.wordF_fieldsF hf] at hi
    · cases h
end

section
/-! SUPPORT. A scan engine under the operations of Operands (R115, R122): what each changes and what it leaves, the registers and
condition bits that an instruction answers, and the canonical form that every operation keeps. -/

namespace Sys2Proof.Machine

/-! ### What an operation leaves -/

/-- Between `e` and `e'` lies work on registers, condition bits, time, slots, position and the address-fault count alone. -/
structure OperandsOnly (e e' : Engine) : Prop where
  stack : e'.stack = e.stack
  scr : e'.scr = e.scr
  journal : JournalKept e e'
  rest : EngineRestKept e e'
  overlay : OverlayKept e e'

theorem OperandsOnly.update (e : Engine) (w : SMap W64) (c : BitVec 8) (pc : W32) (faults : BitVec 16) (cyc : Nat)
    (readyW readyC loadW : SMap Nat) (busy : List Nat) :
    OperandsOnly e { e with w := w, c := c, pc := pc, faults := faults, cyc := cyc, readyW := readyW, readyC := readyC, loadW := loadW,
                            busy := busy } :=
  ⟨rfl, rfl, ⟨rfl, rfl, rfl, rfl⟩, ⟨rfl, rfl, rfl, rfl, rfl, rfl, rfl⟩, rfl, rfl⟩

theorem OperandsOnly.refl (e : Engine) : OperandsOnly e e := OperandsOnly.update e ..

theorem OperandsOnly.trans {e e' e'' : Engine} (h : OperandsOnly e e') (h' : OperandsOnly e' e'') : OperandsOnly e e'' := by
  obtain ⟨hstack, hscr, hjournal, hrest, hoverlay⟩ := h
  obtain ⟨hstack', hscr', hjournal', hrest', hoverlay'⟩ := h'
  constructor <;> simp_all [JournalKept, EngineRestKept, OverlayKept]

theorem setReg_operandsOnly (e : Engine) (n : Nat) (v : W64) (r : Nat) : OperandsOnly e (e.setReg n v r) := by
  unfold Engine.setReg
  split
  · exact OperandsOnly.refl e
  · exact OperandsOnly.update e ..

theorem setCond_operandsOnly (e : Engine) (n : Nat) (b : Bool) (r : Nat) : OperandsOnly e (e.setCond n b r) := OperandsOnly.update e ..

theorem loadReg_operandsOnly (e : Engine) (n : Nat) (v : W64) (r : Nat) : OperandsOnly e (e.loadReg n v r) := by
  unfold Engine.loadReg
  split
  · exact OperandsOnly.refl e
  · exact (setReg_operandsOnly e n v r).trans (OperandsOnly.update _ ..)

theorem advance_operandsOnly (e : Engine) (t n : Nat) : OperandsOnly e (e.advance t n) := OperandsOnly.update e ..

theorem hold_operandsOnly (e : Engine) (t : Nat) (l : List Nat) : OperandsOnly e (e.hold t l) := OperandsOnly.update e ..

theorem fault_operandsOnly (e : Engine) : OperandsOnly e e.fault := OperandsOnly.update e ..

/-! ### Registers -/

section
variable (e : Engine) (n : Nat) (v : W64) (r : Nat)

@[simp] theorem setReg_pc : (e.setReg n v r).pc = e.pc := by unfold Engine.setReg; split <;> rfl
@[simp] theorem setReg_faults : (e.setReg n v r).faults = e.faults := by unfold Engine.setReg; split <;> rfl
@[simp] theorem setReg_busy : (e.setReg n v r).busy = e.busy := by unfold Engine.setReg; split <;> rfl
@[simp] theorem setReg_c : (e.setReg n v r).c = e.c := by unfold Engine.setReg; split <;> rfl
@[simp] theorem setReg_readyC : (e.setReg n v r).readyC = e.readyC := by unfold Engine.setReg; split <;> rfl
@[simp] theorem setReg_loadW : (e.setReg n v r).loadW = e.loadW := by unfold Engine.setReg; split <;> rfl

end

theorem look_readyW_setReg {e : Engine} (h : tableWf 0 e.readyW = true) (n : Nat) (v : W64) (r m : Nat) :
    look 0 (e.setReg n v r).readyW m = if m = n ∧ m ≠ 0 then r else look 0 e.readyW m := by
  unfold Engine.setReg
  split
  · rename_i h0; subst h0; rw [if_neg (fun h => h.2 h.1)]
  · rename_i h0
    by_cases hm : m = n
    · subst hm; rw [if_pos ⟨rfl, h0⟩]; exact look_put_self _ _ _ _ h
    · rw [if_neg (fun h => hm h.1)]; exact look_put_other _ _ _ (Ne.symm hm)

/-! ### Condition bits -/

/-- Write condition bits, all ready at one cycle. -/
def Engine.setConds (e : Engine) (cs : List (Nat × Bool)) (ready : Nat) : Engine := cs.foldl (fun e c => e.setCond c.1 c.2 ready) e

section
variable (e : Engine) (cs : List (Nat × Bool)) (r : Nat)

theorem setConds_cons (n : Nat) (b : Bool) : e.setConds ((n, b) :: cs) r = (e.setCond n b r).setConds cs r := rfl

/-- What no condition bit changes, several do not change. -/
theorem setConds_field {α : Type} (p : Engine → α) (hp : ∀ e n b r, p (Engine.setCond e n b r) = p e) : p (e.setConds cs r) = p e := by
  induction cs generalizing e with
  | nil => rfl
  | cons c cs ih => exact (ih (e.setCond c.1 c.2 r)).trans (hp ..)

theorem setConds_operandsOnly : OperandsOnly e (e.setConds cs r) := by
  induction cs generalizing e with
  | nil => exact OperandsOnly.refl e
  | cons c cs ih => exact (setCond_operandsOnly e c.1 c.2 r).trans (ih _)

end

theorem cond_mod (e : Engine) (k : Nat) : e.cond (k % 8) = e.cond k := by rw [Engine.cond, Engine.cond, Nat.mod_mod]

theorem cond_setConds_other {cs : List (Nat × Bool)} {m : Nat} (hm : m < 8) (h : ∀ c ∈ cs, m ≠ c.1 % 8) (e : Engine) (r : Nat) :
    (e.setConds cs r).cond m = e.cond m := by
  induction cs generalizing e with
  | nil => rfl
  | cons c cs ih =>
    have hc := h c (List.mem_cons_self ..)
    rw [setConds_cons, ih (fun d hd => h d (List.mem_cons_of_mem _ hd)), cond_setCond _ _ _ _ _ hm, if_neg hc]

theorem look_readyC_setConds {e : Engine} (hw : tableWf 0 e.readyC = true) (cs : List (Nat × Bool)) (r m : Nat) :
    look 0 (e.setConds cs r).readyC m = if ∃ c ∈ cs, c.1 % 8 = m then r else look 0 e.readyC m := by
  induction cs generalizing e with
  | nil => simp [Engine.setConds]
  | cons c cs ih =>
    rw [setConds_cons, ih (e := e.setCond c.1 c.2 r) (put_wf 0 _ _ _ hw)]
    by_cases hc : c.1 % 8 = m
    · subst hc
      have : look 0 (e.setCond c.1 c.2 r).readyC (c.1 % 8) = r := look_put_self _ _ _ _ hw
      simp [this]
    · have : look 0 (e.setCond c.1 c.2 r).readyC m = look 0 e.readyC m := look_put_other _ _ _ hc
      simp only [this, List.mem_cons, exists_eq_or_imp, hc, false_or]

/-! ### What an instruction answers -/

/-- Write a work register and condition bits, all ready at one cycle. -/
def Engine.answer (e : Engine) (n : Nat) (v : W64) (cs : List (Nat × Bool)) (ready : Nat) : Engine :=
  (e.setReg n v ready).setConds cs ready

section
variable (e : Engine) (n : Nat) (v : W64) (cs : List (Nat × Bool)) (r : Nat)

theorem answer_operandsOnly : OperandsOnly e (e.answer n v cs r) :=
  (setReg_operandsOnly e n v r).trans (setConds_operandsOnly _ cs r)

/-- What neither a register nor a condition bit changes, an answer does not change. -/
theorem answer_field {α : Type} (p : Engine → α) (hc : ∀ e n b r, p (Engine.setCond e n b r) = p e) :
    p (e.answer n v cs r) = p (e.setReg n v r) := setConds_field _ cs r p hc

@[simp] theorem answer_pc : (e.answer n v cs r).pc = e.pc := (answer_field e n v cs r Engine.pc fun _ _ _ _ => rfl).trans (setReg_pc ..)
@[simp] theorem answer_faults : (e.answer n v cs r).faults = e.faults := (answer_field e n v cs r Engine.faults fun _ _ _ _ => rfl).trans (setReg_faults ..)
@[simp] theorem answer_busy : (e.answer n v cs r).busy = e.busy := (answer_field e n v cs r Engine.busy fun _ _ _ _ => rfl).trans (setReg_busy ..)
@[simp] theorem answer_loadW : (e.answer n v cs r).loadW = e.loadW := (answer_field e n v cs r Engine.loadW fun _ _ _ _ => rfl).trans (setReg_loadW ..)

theorem reg_answer {e : Engine} (h : tableWf 0 e.w = true) (m : Nat) :
    (e.answer n v cs r).reg m = if m = n then (if n = 0 then 0 else v) else e.reg m := by
  rw [← reg_setReg h n v r m]
  exact answer_field e n v cs r (fun e => e.reg m) fun _ _ _ _ => rfl

theorem look_readyW_answer {e : Engine} (h : tableWf 0 e.readyW = true) (m : Nat) :
    look 0 (e.answer n v cs r).readyW m = if m = n ∧ m ≠ 0 then r else look 0 e.readyW m := by
  rw [← look_readyW_setReg h n v r m]
  exact answer_field e n v cs r (fun e => look 0 e.readyW m) fun _ _ _ _ => rfl

theorem look_readyC_answer {e : Engine} (h : tableWf 0 e.readyC = true) (m : Nat) :
    look 0 (e.answer n v cs r).readyC m = if ∃ c ∈ cs, c.1 % 8 = m then r else look 0 e.readyC m := by
  rw [Engine.answer, look_readyC_setConds (by simpa using h), setReg_readyC]

theorem cond_answer_other {cs : List (Nat × Bool)} {m : Nat} (hm : m < 8) (h : ∀ c ∈ cs, m ≠ c.1 % 8) :
    (e.answer n v cs r).cond m = e.cond m := by
  rw [Engine.answer, cond_setConds_other hm h, Engine.cond, Engine.cond, setReg_c]

/-- A condition bit that is written once reads as written. -/
theorem cond_answer_self {cs : List (Nat × Bool)} (k : Nat) (b : Bool) (h : ∀ c ∈ cs, k % 8 ≠ c.1 % 8) :
    (e.answer n v ((k, b) :: cs) r).cond k = b := by
  have hk : k % 8 < 8 := Nat.mod_lt _ (by omega)
  rw [← cond_mod, Engine.answer, setConds_cons, cond_setConds_other hk h, cond_setCond _ _ _ _ _ hk, if_pos rfl]

/-- The second of two condition bits reads as written. -/
theorem cond_answer_second (c : Nat × Bool) (k : Nat) (b : Bool) : (e.answer n v [c, (k, b)] r).cond k = b := by
  have hk : k % 8 < 8 := Nat.mod_lt _ (by omega)
  rw [← cond_mod, Engine.answer, setConds_cons, setConds_cons]
  exact (cond_setCond _ _ _ _ _ hk).trans (if_pos rfl)

end

/-! ### The canonical form of an engine -/

theorem EngineWf.setReg {e : Engine} (h : EngineWf e) (n : Nat) (v : W64) (r : Nat) : EngineWf (e.setReg n v r) := by
  obtain ⟨hw, hreadyW, hrest⟩ := h
  unfold Engine.setReg
  split
  · exact ⟨hw, hreadyW, hrest⟩
  · exact ⟨put_wf _ _ _ _ hw, put_wf _ _ _ _ hreadyW, hrest⟩

theorem EngineWf.loadReg {e : Engine} (h : EngineWf e) (n : Nat) (v : W64) (r : Nat) : EngineWf (e.loadReg n v r) := by
  obtain ⟨hw, hreadyW, hreadyC, hloadW, hrest⟩ := h.setReg n v r
  unfold Engine.loadReg
  split
  · exact h
  · exact ⟨hw, hreadyW, hreadyC, put_wf _ _ _ _ (setReg_loadW e n v r ▸ hloadW), hrest⟩

theorem EngineWf.setCond {e : Engine} (h : EngineWf e) (n : Nat) (b : Bool) (r : Nat) : EngineWf (e.setCond n b r) := by
  obtain ⟨hw, hreadyW, hreadyC, hrest⟩ := h
  exact ⟨hw, hreadyW, put_wf _ _ _ _ hreadyC, hrest⟩

theorem EngineWf.setConds {e : Engine} (h : EngineWf e) (cs : List (Nat × Bool)) (r : Nat) : EngineWf (e.setConds cs r) := by
  induction cs generalizing e with
  | nil => exact h
  | cons c cs ih => exact ih (h.setCond c.1 c.2 r)

theorem EngineWf.answer {e : Engine} (h : EngineWf e) (n : Nat) (v : W64) (cs : List (Nat × Bool)) (r : Nat) :
    EngineWf (e.answer n v cs r) := (h.setReg n v r).setConds cs r

end Sys2Proof.Machine
end

section
/-! SUPPORT. A Golup instruction on its region (R115, R118, R122): what an instruction that issues in time leaves, by what it makes of
its engine and its run's variables. -/

namespace Sys2Proof.Machine

/-! ### An instruction as an effect on its context -/

/-- Instruction `i` runs on engine `id` with need `need` and effect `k`. -/
def RunsAs (s : State) (id : EngId) (i : Instr) (need : Ctx → Need) (k : Ctx → Nat → Ctx) : Prop :=
  golupEngine i = some id ∧ exec i s = golup id i.wf need s k

/-- A well-formed Golup instruction names an engine that exists (R21). -/
theorem exists_of_wf {i : Instr} {id : EngId} (h : golupEngine i = some id) (hwf : i.wf = true) : id.exists = true := by
  by_contra he
  unfold golupEngine at h
  split at h <;> cases h <;> simp [Instr.wf, he] at hwf

theorem OnEngine.running {s : State} {id : EngId} {c : Ctx} (hon : OnEngine s id c) : c.e.running = true := (ctxOf_some hon.2.2).2.1

theorem OnEngine.engineWf {s : State} {id : EngId} {c : Ctx} (hon : OnEngine s id c) : EngineWf c.e := by
  obtain ⟨-, ⟨-, -, -, hw⟩, hc⟩ := hon
  rw [(ctxOf_some hc).1]; exact hw _

theorem OnEngine.findRun_self {s : State} {id : EngId} {c : Ctx} (hon : OnEngine s id c) :
    findRun (s.region id.er) c.x.slot c.x.no = some c.x := by
  obtain ⟨-, -, hx, -⟩ := ctxOf_some hon.2.2
  rw [(findRun_key hx).1, (findRun_key hx).2]; exact hx

/-- The variables of a context are those of its task, or the overlay of a re-execution (R198). -/
theorem OnEngine.vars {s : State} {id : EngId} {c : Ctx} (hon : OnEngine s id c) :
    c.vars = if c.e.redo then c.e.view else look [] (s.region id.er).vars c.x.slot.toNat := by
  obtain ⟨-, -, hx, -, hv⟩ := ctxOf_some hon.2.2
  rw [hv, (findRun_key hx).1]

theorem OnEngine.varsWf {s : State} {id : EngId} {c : Ctx} (hon : OnEngine s id c) : c.vars.wf = true := by
  obtain ⟨-, -, hvars, -⟩ := hon.2.1
  obtain ⟨-, -, -, -, -, -, -, -, -, hview⟩ := hon.engineWf
  rw [hon.vars]
  split
  · exact hview
  · exact hvars _

/-! ### An instruction that changes its engine alone -/

/-- An instruction that issues in time and changes registers, condition bits, scratch memory, journal buffer, position or time of its
engine leaves everything else, and the engine as its effect gives it. -/
theorem RunsAs.engine {s : State} {id : EngId} {i : Instr} {need : Ctx → Need} {k : Ctx → Nat → Ctx} (hi : RunsAs s id i need k)
    (hwf : i.wf = true) {c : Ctx} (hon : OnEngine s id c) (ht : InTime (need c) c) {e : Engine}
    (hk : k c (issueCycle c.e (need c)) = { c with e := e }) (hrest : EngineRestKept c.e e) (hview : e.view = c.e.view) :
    ∃ t, exec i s = .next t ∧ GolupFrame id s t ∧ engineOf (t.region id.er) id.n = e := by
  obtain ⟨hrun, hredo, -⟩ := hrest
  have hrun' : e.running = true := hrun.trans hon.running
  have hexec := golup_inTime (k := k) hwf (exists_of_wf hi.1 hwf) hon ht
  rw [hk, if_pos hrun'] at hexec
  refine ⟨_, hi.2.trans hexec, putCtx_frame hon e hrun' hredo, ?_⟩
  rw [State.setRegion_region_self, engineOf_putCtx _ _ _ hrun', if_pos rfl]
  split
  · rename_i hr
    have hv : c.vars = e.view := by rw [hon.vars, if_pos (hredo ▸ hr), hview]
    show { e with view := c.vars } = e
    rw [hv]
  · rfl

/-! ### An instruction that writes variables -/

/-- The region after a context was written back, but for its engine, its run and its run's variables. -/
theorem putCtx_storeFrame {s : State} {id : EngId} {c c' : Ctx} (hon : OnEngine s id c) (hrun : c'.e.running = true)
    (hredo : c'.e.redo = c.e.redo) (hx : c'.x.slot = c.x.slot ∧ c'.x.no = c.x.no) :
    GolupStoreFrame id c s (s.setRegion id.er (putCtx (s.region id.er) id.n c')) := by
  refine ⟨?_, ?_, ?_, ?_, ?_⟩
  · unfold OnlyRegion; cases id with | mk er n => cases er <;> rfl
  · simp only [State.setRegion_region_self]; unfold putCtx modRun; simp only; split <;> rfl
  · intro m hm; rw [State.setRegion_region_self, engineOf_putCtx _ _ _ hrun, if_neg hm]
  · intro slot no hne
    have hmod : findRun (putCtx (s.region id.er) id.n c') slot no = findRun (modRun (s.region id.er) c.x.slot c.x.no (fun _ => c'.x)) slot no := by
      unfold putCtx findRun modRun; simp only [hx]; split <;> rfl
    rw [State.setRegion_region_self, hmod, findRun_modRun _ _ _ _ hx _ hon.findRun_self, if_neg hne]
  · intro slot hslot
    rw [State.setRegion_region_self]
    unfold putCtx modRun; simp only
    rw [hredo]
    split
    · rfl
    · rename_i hr
      have hne : slot ≠ c.x.slot.toNat := hslot.resolve_right hr
      exact look_put_other _ _ _ (by rw [hx.1]; exact hne.symm)

/-- The variables that the run's instructions see after a context was written back. -/
theorem seenVars_putCtx {r : Region} {n : Nat} {c c' : Ctx} (hw : tableWf ([] : Mem) r.vars = true) (hrun : c'.e.running = true)
    (hredo : c'.e.redo = c.e.redo) (hx : c'.x.slot = c.x.slot) : seenVars (putCtx r n c') n c = c'.vars := by
  unfold seenVars
  rw [engineOf_putCtx _ _ _ hrun, if_pos rfl, hredo]
  split
  · rfl
  · rename_i hr
    unfold putCtx modRun; simp only
    rw [hredo, if_neg hr, ← hx]
    exact look_put_self _ _ _ _ hw

/-- An instruction that issues in time leaves everything but its engine, its run and its run's variables, and these as its effect gives
them. -/
theorem RunsAs.store {s : State} {id : EngId} {i : Instr} {need : Ctx → Need} {k : Ctx → Nat → Ctx} (hi : RunsAs s id i need k)
    (hwf : i.wf = true) {c : Ctx} (hon : OnEngine s id c) (ht : InTime (need c) c) {c' : Ctx}
    (hk : k c (issueCycle c.e (need c)) = c') (hrest : EngineRestKept c.e c'.e) (hx : c'.x.slot = c.x.slot ∧ c'.x.no = c.x.no) :
    ∃ t, exec i s = .next t ∧ GolupStoreFrame id c s t ∧ seenVars (t.region id.er) id.n c = c'.vars ∧
      engineOf (t.region id.er) id.n = { c'.e with view := if c'.e.redo then c'.vars else c'.e.view } := by
  obtain ⟨hrun, hredo, -⟩ := hrest
  have hrun' : c'.e.running = true := hrun.trans hon.running
  have hexec := golup_inTime (k := k) hwf (exists_of_wf hi.1 hwf) hon ht
  rw [hk, if_pos hrun'] at hexec
  refine ⟨_, hi.2.trans hexec, putCtx_storeFrame hon hrun' hredo hx, ?_, ?_⟩
  · rw [State.setRegion_region_self]; exact seenVars_putCtx hon.2.1.2.1 hrun' hredo hx.1
  · rw [State.setRegion_region_self, engineOf_putCtx _ _ _ hrun', if_pos rfl]
    split <;> rfl

end Sys2Proof.Machine
end

section
/-! SUPPORT. The rows of R121 as effects on a context: what an instruction of formats O and F makes of its engine. -/

namespace Sys2Proof.Machine

/-! ### Format O -/

/-- The engine after an instruction that writes `WD`, and `CB` when `CW` is 1. -/
def operated (f : OFields) (v : W64 × Bool) (issue result : Nat) (e : Engine) (t : Nat) : Engine :=
  (e.answer f.wd.toNat v.1 (if f.cw then [(f.cb.toNat, v.2)] else []) (t + result)).advance t issue

/-- The engine after an instruction that writes `CB` alone. -/
def tested (f : OFields) (v : Bool) (issue result : Nat) (e : Engine) (t : Nat) : Engine :=
  (e.answer 0 0 [(f.cb.toNat, v)] (t + result)).advance t issue

/-- What a row that writes `WD` makes of the context. -/
def operateEffect (row : OperateRow OFields (W64 × Bool)) (f : OFields) (c : Ctx) (t : Nat) : Ctx :=
  { c with e := operated f (row.value f c) (row.issue f) (row.result f) c.e t }

/-- What a row that writes `CB` alone makes of the context. -/
def testEffect (row : OperateRow OFields Bool) (f : OFields) (c : Ctx) (t : Nat) : Ctx :=
  { c with e := tested f (row.value f c) (row.issue f) (row.result f) c.e t }

/-- Every instruction that writes `WD` answers it, and `CB` under `CW`. -/
theorem opO_eq (id : EngId) (f : OFields) (wf : Bool) (regs : Ctx → List Nat) (conds : List Nat) (issue result : Nat)
    (val : Ctx → W64 × Bool) (s : State) :
    opO id f wf regs conds issue result val s = golup id wf (fun c => { regs := regs c, conds := conds, writes := [f.wd.toNat] }) s
      (fun c t => { c with e := operated f (val c) issue result c.e t }) := by
  unfold opO operated
  congr 1
  funext c t
  cases f.cw <;> rfl

/-- An instruction of format O whose need, value and columns are a row's runs as the row says. -/
theorem runsAs_operated {s : State} {id : EngId} {f : OFields} {i : Instr} {need : Ctx → Need} {value : Ctx → W64 × Bool} {issue result : Nat}
    (regs : Ctx → List Nat) (conds : List Nat) (hid : golupEngine i = some id)
    (hexec : exec i s = opO id f i.wf regs conds issue result value s)
    (hneed : need = fun c => { regs := regs c, conds := conds, writes := [f.wd.toNat] }) :
    RunsAs s id i need (fun c t => { c with e := operated f (value c) issue result c.e t }) :=
  ⟨hid, by rw [hexec, opO_eq, hneed]⟩

theorem longCycles_eq : longCycles = fun f => divCycles f.ty := by
  funext f; unfold longCycles divCycles; cases f.ty <;> rfl

theorem append_low_eq (hi : W32) (a : W64) : hi ++ a.setWidth 32 = BitVec.ofNat 64 (hi.toNat * 2 ^ 32 + a.toNat % 2 ^ 32) := by
  apply BitVec.eq_of_toNat_eq
  rw [BitVec.toNat_append, BitVec.toNat_setWidth, BitVec.toNat_ofNat, Nat.shiftLeft_eq, Nat.mul_comm,
    ← Nat.two_pow_add_eq_or_of_lt (Nat.mod_lt _ (by omega))]
  omega

theorem decide_ne_eq_bne (a b : Int) : decide (a ≠ b) = (a != b) := by cases h : a != b <;> simp_all

theorem moveRow_runs (s : State) (id : EngId) (f : OFields) : ∀ row ∈ moveRows, RunsAs s id (row.instr id f) (row.need f)
    (operateEffect row f) := by
  simp only [moveRows, List.forall_mem_cons, List.not_mem_nil, false_imp_iff, implies_true, and_true]
  refine ⟨?_, ?_, ?_, ?_, ?_, ?_, ?_⟩
  · exact runsAs_operated _ _ rfl rfl rfl
  · simp only [BitVec.ofNat_toNat]
    exact runsAs_operated _ _ rfl rfl rfl
  · simp only [← append_low_eq]
    exact runsAs_operated _ _ rfl rfl rfl
  · exact runsAs_operated _ _ rfl rfl rfl
  · simp only [BitVec.ofNat_toNat]
    exact runsAs_operated _ _ rfl rfl rfl
  · exact runsAs_operated _ _ rfl rfl rfl
  · simp only [decide_ne_eq_bne]
    exact runsAs_operated _ _ rfl rfl rfl

theorem arithmeticRow_runs (s : State) (id : EngId) (f : OFields) : ∀ row ∈ arithmeticRows, RunsAs s id (row.instr id f) (row.need f)
    (operateEffect row f) := by
  simp only [arithmeticRows, List.forall_mem_cons, List.not_mem_nil, false_imp_iff, implies_true, and_true, longCycles_eq]
  refine ⟨?_, ?_, ?_, ?_, ?_, ?_, ?_, ?_, ?_, ?_, ?_, ?_, ?_, ?_, ?_, ?_, ?_⟩
  all_goals exact runsAs_operated _ _ rfl rfl rfl

theorem bitwiseRow_runs (s : State) (id : EngId) (f : OFields) : ∀ row ∈ bitwiseRows, RunsAs s id (row.instr id f) (row.need f)
    (operateEffect row f) := by
  simp only [bitwiseRows, List.forall_mem_cons, List.not_mem_nil, false_imp_iff, implies_true, and_true]
  refine ⟨?_, ?_, ?_, ?_, ?_, ?_, ?_, ?_, ?_⟩
  all_goals exact runsAs_operated _ _ rfl rfl rfl

/-- The 33 rows that write `WD` (R121). -/
theorem operateRow_runs {row : OperateRow OFields (W64 × Bool)} (h : row ∈ operateRows) (s : State) (id : EngId) (f : OFields) :
    RunsAs s id (row.instr id f) (row.need f) (operateEffect row f) := by
  simp only [operateRows, List.mem_append] at h
  obtain (h | h) | h := h
  · exact moveRow_runs s id f row h
  · exact arithmeticRow_runs s id f row h
  · exact bitwiseRow_runs s id f row h

/-- The 12 rows that write `CB` alone (R121). -/
theorem testRow_runs (s : State) (id : EngId) (f : OFields) : ∀ row ∈ testRows, RunsAs s id (row.instr id f) (row.need f)
    (testEffect row f) := by
  simp only [testRows, List.forall_mem_cons, List.not_mem_nil, false_imp_iff, implies_true, and_true]
  refine ⟨?_, ?_, ?_, ?_, ?_, ?_, ?_, ?_, ?_, ?_, ?_, ?_⟩
  all_goals exact ⟨rfl, rfl⟩

section
variable {e : Engine} (hw : EngineWf e) (f : OFields) (issue result t : Nat)
include hw

/-- What an instruction that writes `WD` makes of its engine (R115, R117, R121). -/
theorem operated_spec (v : W64 × Bool) :
    let e' := operated f v issue result e t
    OperandsOnly e e' ∧ RegsKept [f.wd.toNat] e e' ∧ e'.reg f.wd.toNat = (if f.wd = 0 then 0 else v.1) ∧
    CondsKept [f.cb.toNat] e e' ∧ e'.cond f.cb.toNat = (if f.cw then v.2 else e.cond f.cb.toNat) ∧
    e'.pc = e.pc + 8 ∧ e'.cyc = t + issue ∧ e'.faults = e.faults := by
  have hcb : f.cb.toNat % 8 = f.cb.toNat := Nat.mod_eq_of_lt f.cb.isLt
  refine ⟨(answer_operandsOnly ..).trans (advance_operandsOnly ..), fun m hm => ?_, ?_, fun m hm hne => ?_, ?_, ?_, rfl, answer_faults ..⟩
  · exact (reg_answer _ _ _ _ hw.1 m).trans (if_neg (by simpa using hm))
  · refine (reg_answer _ _ _ _ hw.1 _).trans ?_
    simp [BitVec.toNat_eq]
  · have hne' : m ≠ f.cb.toNat := by simpa using hne
    refine cond_answer_other _ _ _ _ hm fun c hc => ?_
    split at hc
    · rw [List.mem_singleton.1 hc, hcb]; exact hne'
    · cases hc
  · show (Engine.answer ..).cond _ = _
    split
    · exact cond_answer_self _ _ _ _ _ _ (by simp)
    · exact cond_answer_other _ _ _ _ f.cb.isLt (by simp)
  · show (Engine.answer ..).pc + 8 = _
    rw [answer_pc]

/-- What an instruction that writes `CB` alone makes of its engine (R121). -/
theorem tested_spec (v : Bool) :
    let e' := tested f v issue result e t
    OperandsOnly e e' ∧ RegsKept [] e e' ∧ CondsKept [f.cb.toNat] e e' ∧ e'.cond f.cb.toNat = v ∧
    e'.pc = e.pc + 8 ∧ e'.cyc = t + issue ∧ e'.faults = e.faults := by
  have hcb : f.cb.toNat % 8 = f.cb.toNat := Nat.mod_eq_of_lt f.cb.isLt
  refine ⟨(answer_operandsOnly ..).trans (advance_operandsOnly ..), fun m _ => ?_, fun m hm hne => ?_, ?_, ?_, rfl, answer_faults ..⟩
  · refine (reg_answer _ _ _ _ hw.1 m).trans ?_
    split
    · rename_i h0; rw [h0]; rfl
    · rfl
  · have hne' : m ≠ f.cb.toNat := by simpa using hne
    exact cond_answer_other _ _ _ _ hm (by simpa [hcb] using hne')
  · exact cond_answer_self _ _ _ _ _ _ (by simp)
  · show (Engine.answer ..).pc + 8 = _
    rw [answer_pc]

end

/-! ### When a result is ready (R121, R122) -/

theorem operated_ready {e : Engine} (hw : EngineWf e) (f : OFields) (v : W64 × Bool) (issue result t : Nat) :
    let e' := operated f v issue result e t
    (∀ r, look 0 e'.readyW r = if r ∈ [f.wd.toNat] ∧ r ≠ 0 then t + result else look 0 e.readyW r) ∧
    (∀ k, k < 8 → look 0 e'.readyC k = if k ∈ (if f.cw then [f.cb.toNat] else []) then t + result else look 0 e.readyC k) ∧
    e'.loadW = e.loadW ∧ e'.busy = e.busy := by
  have hcb : f.cb.toNat % 8 = f.cb.toNat := Nat.mod_eq_of_lt f.cb.isLt
  refine ⟨fun r => ?_, fun k _ => ?_, answer_loadW .., answer_busy ..⟩
  · exact (look_readyW_answer _ _ _ _ hw.2.1 r).trans (if_congr (by simp) rfl rfl)
  · refine (look_readyC_answer _ _ _ _ hw.2.2.1 k).trans (if_congr ?_ rfl rfl)
    split <;> simp [hcb, eq_comm]

theorem tested_ready {e : Engine} (hw : EngineWf e) (f : OFields) (v : Bool) (issue result t : Nat) :
    let e' := tested f v issue result e t
    (∀ r, look 0 e'.readyW r = if r ∈ ([] : List Nat) ∧ r ≠ 0 then t + result else look 0 e.readyW r) ∧
    (∀ k, k < 8 → look 0 e'.readyC k = if k ∈ [f.cb.toNat] then t + result else look 0 e.readyC k) ∧
    e'.loadW = e.loadW ∧ e'.busy = e.busy := by
  have hcb : f.cb.toNat % 8 = f.cb.toNat := Nat.mod_eq_of_lt f.cb.isLt
  refine ⟨fun r => ?_, fun k _ => ?_, answer_loadW .., answer_busy ..⟩
  · exact (look_readyW_answer _ _ _ _ hw.2.1 r).trans (if_congr (by simp) rfl rfl)
  · exact (look_readyC_answer _ _ _ _ hw.2.2.1 k).trans (if_congr (by simp [hcb, eq_comm]) rfl rfl)

/-- Every row's next instruction may issue later than itself (R121). -/
theorem operateRow_issue (f : OFields) : ∀ row ∈ operateRows, 0 < row.issue f := by
  have hlong : 0 < longCycles f := by unfold longCycles; split <;> decide
  simp [operateRows, moveRows, arithmeticRows, bitwiseRows, hlong]

theorem testRow_issue (f : OFields) : ∀ row ∈ testRows, 0 < row.issue f := by simp [testRows]

/-! ### A row that issues in time -/

section
variable {s : State} {id : EngId} {f : OFields} {c : Ctx} (hon : OnEngine s id c)
include hon

theorem operateRow_engine {row : OperateRow OFields (W64 × Bool)} (hrow : row ∈ operateRows) (hwf : (row.instr id f).wf = true)
    (ht : InTime (row.need f c) c) : ∃ t, exec (row.instr id f) s = .next t ∧ GolupFrame id s t ∧
      engineOf (t.region id.er) id.n = operated f (row.value f c) (row.issue f) (row.result f) c.e (issueCycle c.e (row.need f c)) := by
  obtain ⟨hkept, -⟩ := operated_spec hon.engineWf f (row.issue f) (row.result f) (issueCycle c.e (row.need f c)) (row.value f c)
  exact (operateRow_runs hrow s id f).engine hwf hon ht rfl hkept.rest hkept.overlay.2

theorem testRow_engine {row : OperateRow OFields Bool} (hrow : row ∈ testRows) (hwf : (row.instr id f).wf = true)
    (ht : InTime (row.need f c) c) : ∃ t, exec (row.instr id f) s = .next t ∧ GolupFrame id s t ∧
      engineOf (t.region id.er) id.n = tested f (row.value f c) (row.issue f) (row.result f) c.e (issueCycle c.e (row.need f c)) := by
  obtain ⟨hkept, -⟩ := tested_spec hon.engineWf f (row.issue f) (row.result f) (issueCycle c.e (row.need f c)) (row.value f c)
  exact (testRow_runs s id f row hrow).engine hwf hon ht rfl hkept.rest hkept.overlay.2

end

end Sys2Proof.Machine
end

section
open Sys2Proof Sys2Proof.Machine

/-- Settles O29, by the two forms of format O: every row's instruction runs as one of them, with the row's own value and columns. -/
theorem golupOperateInstructionsComplete : Obligations.GolupOperateInstructionsComplete := by
  refine ⟨fun row hrow s id f c hwf hon ht => ?_, fun row hrow s id f c hwf hon ht => ?_⟩
  · obtain ⟨hkept, hregs, hreg, hconds, hcond, hpc, hcyc, hfaults⟩ := operated_spec hon.engineWf f (row.issue f) (row.result f)
      (issueCycle c.e (row.need f c)) (row.value f c)
    obtain ⟨t, hexec, hframe, he⟩ := operateRow_engine hon hrow hwf ht
    have hissue := operateRow_issue f row hrow
    refine ⟨t, hexec, hframe, ?_⟩
    rw [he]
    exact ⟨hregs, hreg, hconds, hcond, hpc, by omega, hkept.stack, hkept.scr, hfaults, hkept.journal, hkept.rest, hkept.overlay⟩
  · obtain ⟨hkept, hregs, hconds, hcond, hpc, hcyc, hfaults⟩ := tested_spec hon.engineWf f (row.issue f) (row.result f)
      (issueCycle c.e (row.need f c)) (row.value f c)
    obtain ⟨t, hexec, hframe, he⟩ := testRow_engine hon hrow hwf ht
    have hissue := testRow_issue f row hrow
    refine ⟨t, hexec, hframe, ?_⟩
    rw [he]
    exact ⟨hregs, hconds, hcond, hpc, by omega, hkept.stack, hkept.scr, hfaults, hkept.journal, hkept.rest, hkept.overlay⟩
end

section
/-! SUPPORT. Integers in registers (R116, R125): what a result reads as, in its type's two's complement. -/

namespace Sys2Proof.Machine

/-! ### The range and the layout of a type -/

/-- The smallest value of an integer type. -/
def leastOf (ty : Ty) : Int := -(2 ^ (intWidth ty - 1) : Nat)

/-- The largest value of an integer type. -/
def mostOf (ty : Ty) : Int := (2 ^ (intWidth ty - 1) : Nat) - 1

/-- An INT32 word is sign-extended (R116). -/
def Laid (ty : Ty) (r : W64) : Prop := ty = .int32 → r = (r.setWidth 32 : W32).signExtend 64

theorem setWidth_signExtend_self (x : W32) : (x.signExtend 64).setWidth 32 = x := by
  ext k hk
  have hk' : k < 64 := by omega
  simp [BitVec.getElem_signExtend, hk, hk']

theorem laid_signExtend (ty : Ty) (x : W32) : Laid ty (x.signExtend 64) := fun _ => by rw [setWidth_signExtend_self]

theorem laid_holdInt (ty : Ty) (v : Int) : Laid ty (holdInt ty v) := by
  rintro rfl
  exact laid_signExtend .int32 _ rfl

theorem range_readInt (ty : Ty) (a : W64) : leastOf ty ≤ readInt ty a ∧ readInt ty a ≤ mostOf ty := by
  cases ty
  case int32 =>
    have h := BitVec.le_toInt (a.setWidth 32)
    have h' := BitVec.toInt_le (x := a.setWidth 32)
    exact ⟨h, h'⟩
  all_goals exact ⟨BitVec.le_toInt a, BitVec.toInt_le⟩

/-- A result reads as its value, wrapped to the width of its type. -/
theorem readInt_holdInt (ty : Ty) (v : Int) : readInt ty (holdInt ty v) = v.bmod (2 ^ intWidth ty) := by
  cases ty
  case int32 => exact (congrArg BitVec.toInt (setWidth_signExtend_self _)).trans (BitVec.toInt_ofInt v)
  all_goals exact BitVec.toInt_ofInt v

/-- A value in its type's range reads back. -/
theorem readInt_holdInt_of_range {ty : Ty} {v : Int} (h : leastOf ty ≤ v ∧ v ≤ mostOf ty) : readInt ty (holdInt ty v) = v := by
  rw [readInt_holdInt]
  have hw : (2 ^ intWidth ty : Nat) = 2 * 2 ^ (intWidth ty - 1) := by cases ty <;> rfl
  refine Int.bmod_eq_of_le_mul_two ?_ ?_ <;> rw [hw] <;> unfold leastOf mostOf at h <;> push_cast at h ⊢ <;> omega

/-! ### Wrapped, saturated and exact results -/

/-- The result is the value, wrapped, with signed overflow as status. -/
def Wraps (ty : Ty) (r : W64 × Bool) (v : Int) : Prop :=
  readInt ty r.1 = v.bmod (2 ^ intWidth ty) ∧ r.2 = decide (v < leastOf ty ∨ mostOf ty < v) ∧ Laid ty r.1

/-- The result is the value, saturated, with status when it saturates. -/
def Saturates (ty : Ty) (r : W64 × Bool) (v : Int) : Prop :=
  readInt ty r.1 = max (leastOf ty) (min v (mostOf ty)) ∧ r.2 = decide (v < leastOf ty ∨ mostOf ty < v) ∧ Laid ty r.1

/-- The result is the value, with the given status. -/
def Gives (ty : Ty) (r : W64 × Bool) (v : Int) (st : Bool) : Prop := readInt ty r.1 = v ∧ r.2 = st ∧ Laid ty r.1

theorem leastOf_lt_mostOf (ty : Ty) : leastOf ty < mostOf ty := by cases ty <;> decide

theorem satInt_eq (ty : Ty) (v : Int) :
    satInt (intWidth ty) v = (max (leastOf ty) (min v (mostOf ty)), decide (v < leastOf ty ∨ mostOf ty < v)) := by
  have hlt := leastOf_lt_mostOf ty
  show (if v > mostOf ty then (mostOf ty, true) else if v < leastOf ty then (leastOf ty, true) else (v, false)) = _
  split
  · rw [decide_eq_true (Or.inr ‹_›)]; congr 1; omega
  · split
    · rw [decide_eq_true (Or.inl ‹_›)]; congr 1; omega
    · rw [decide_eq_false (by omega)]; congr 1; omega

theorem wraps_wrapResult (ty : Ty) (v : Int) : Wraps ty (wrapResult ty v) v :=
  ⟨readInt_holdInt ty v, by rw [wrapResult, satInt_eq], laid_holdInt ty v⟩

theorem saturates_satResult (ty : Ty) (v : Int) : Saturates ty (satResult ty v) v := by
  have hlt := leastOf_lt_mostOf ty
  rw [satResult, satInt_eq]
  exact ⟨readInt_holdInt_of_range (by omega), rfl, laid_holdInt ty _⟩

theorem gives_holdInt {ty : Ty} {v : Int} (st : Bool) (h : leastOf ty ≤ v ∧ v ≤ mostOf ty) : Gives ty (holdInt ty v, st) v st :=
  ⟨readInt_holdInt_of_range h, rfl, laid_holdInt ty v⟩

/-- The most negative value has no negative, and gives itself with status (R125). -/
theorem wrapResult_neg_leastOf (ty : Ty) : (wrapResult ty (-leastOf ty)).2 = true ∧ readInt ty (wrapResult ty (-leastOf ty)).1 = leastOf ty := by
  obtain ⟨hv, hst, -⟩ := wraps_wrapResult ty (-leastOf ty)
  refine ⟨hst.trans (decide_eq_true (Or.inr ?_)), hv.trans ?_⟩ <;> cases ty <;> decide

/-- No quotient but that of the most negative value by -1 leaves the range. -/
theorem range_tdiv {ty : Ty} {x y : Int} (hx : leastOf ty ≤ x ∧ x ≤ mostOf ty) (h : ¬(x = leastOf ty ∧ y = -1)) :
    leastOf ty ≤ x.tdiv y ∧ x.tdiv y ≤ mostOf ty := by
  have hsym : mostOf ty = -leastOf ty - 1 ∧ leastOf ty < -1 := by cases ty <;> decide
  have habs : (x.tdiv y).natAbs = x.natAbs / y.natAbs := Int.natAbs_tdiv x y
  by_cases hone : y = -1
  · rw [hone, Int.tdiv_neg, Int.tdiv_one]; omega
  by_cases hpos : y = 1
  · rw [hpos, Int.tdiv_one]; exact hx
  by_cases hzero : y = 0
  · rw [hzero, Int.tdiv_zero]; omega
  have hhalf : x.natAbs / y.natAbs ≤ x.natAbs / 2 := Nat.div_le_div_left (by omega) (by omega)
  omega

theorem tmod_nonpos {x y : Int} (h : x ≤ 0) : x.tmod y ≤ 0 := by
  have hneg := Int.tmod_nonneg y (show 0 ≤ -x by omega)
  rw [Int.neg_tmod] at hneg
  omega

/-- A remainder is smaller than its operand, and has its sign. -/
theorem range_tmod {ty : Ty} {x : Int} (hx : leastOf ty ≤ x ∧ x ≤ mostOf ty) (y : Int) :
    leastOf ty ≤ x.tmod y ∧ x.tmod y ≤ mostOf ty := by
  have hsym : mostOf ty = -leastOf ty - 1 ∧ leastOf ty < -1 := by cases ty <;> decide
  have habs : (x.tmod y).natAbs = x.natAbs % y.natAbs := Int.natAbs_tmod x y
  have hle := Nat.mod_le x.natAbs y.natAbs
  have hneg : x ≤ 0 → x.tmod y ≤ 0 := tmod_nonpos
  have hnonneg : 0 ≤ x → 0 ≤ x.tmod y := Int.tmod_nonneg y
  omega

/-! ### The instructions on integers (R121, R125) -/

section
variable {ty : Ty} (hty : ty.integer = true) (a b d : W64)
include hty

theorem isReal_of_integer : isReal ty = false := by cases ty <;> cases hty <;> rfl

theorem addResult_integer : addResult ty a b = wrapResult ty (readInt ty a + readInt ty b) := by simp [addResult, isReal_of_integer hty]
theorem subResult_integer : subResult ty a b = wrapResult ty (readInt ty a - readInt ty b) := by simp [subResult, isReal_of_integer hty]
theorem mulResult_integer : mulResult ty a b = wrapResult ty (readInt ty a * readInt ty b) := by simp [mulResult, isReal_of_integer hty]
theorem negResult_integer : negResult ty a = wrapResult ty (-readInt ty a) := by simp [negResult, isReal_of_integer hty]
theorem absResult_integer : absResult ty a = wrapResult ty (readInt ty a).natAbs := by simp [absResult, isReal_of_integer hty]

theorem minResult_gives : Gives ty (minResult ty a b) (min (readInt ty a) (readInt ty b)) false := by
  have ha := range_readInt ty a
  have hb := range_readInt ty b
  rw [minResult, isReal_of_integer hty]
  exact gives_holdInt _ (by omega)

theorem maxResult_gives : Gives ty (maxResult ty a b) (max (readInt ty a) (readInt ty b)) false := by
  have ha := range_readInt ty a
  have hb := range_readInt ty b
  rw [maxResult, isReal_of_integer hty]
  exact gives_holdInt _ (by omega)

theorem limitResult_gives : Gives ty (limitResult ty d a b) (max (readInt ty a) (min (readInt ty d) (readInt ty b))) false := by
  have ha := range_readInt ty a
  have hb := range_readInt ty b
  have hd := range_readInt ty d
  rw [limitResult, isReal_of_integer hty]
  exact gives_holdInt _ (by omega)

/-! A division -/

theorem divResult_integer : divResult ty a b =
    if readInt ty b = 0 then (holdInt ty (if readInt ty a > 0 then mostOf ty else if readInt ty a < 0 then leastOf ty else 0), true)
    else if readInt ty a = leastOf ty ∧ readInt ty b = -1 then (holdInt ty (mostOf ty), true)
    else (holdInt ty ((readInt ty a).tdiv (readInt ty b)), false) := by
  rw [divResult, isReal_of_integer hty]; rfl

theorem divResult_zero (hb : readInt ty b = 0) :
    Gives ty (divResult ty a b) (if readInt ty a > 0 then mostOf ty else if readInt ty a < 0 then leastOf ty else 0) true := by
  have hlt : leastOf ty < 0 ∧ 0 < mostOf ty := by cases ty <;> decide
  rw [divResult_integer hty, if_pos hb]
  exact gives_holdInt _ (by split <;> [skip; split] <;> omega)

theorem divResult_overflow (ha : readInt ty a = leastOf ty) (hb : readInt ty b = -1) : Gives ty (divResult ty a b) (mostOf ty) true := by
  have hlt := leastOf_lt_mostOf ty
  rw [divResult_integer hty, if_neg (by omega), if_pos ⟨ha, hb⟩]
  exact gives_holdInt _ (by omega)

theorem divResult_exact (hb : readInt ty b ≠ 0) (h : ¬(readInt ty a = leastOf ty ∧ readInt ty b = -1)) :
    Gives ty (divResult ty a b) ((readInt ty a).tdiv (readInt ty b)) false := by
  rw [divResult_integer hty, if_neg hb, if_neg h]
  exact gives_holdInt _ (range_tdiv (range_readInt ty a) h)

theorem cvtResult_integer {dst : Ty} (hdst : dst.integer = true) (tz : Bool) : cvtResult ty dst tz a = satResult dst (readInt ty a) := by
  cases ty <;> cases hty <;> cases dst <;> cases hdst <;> rfl

theorem cvtResult_toBool (tz : Bool) : cvtResult ty .bool tz a = (if readInt ty a = 0 then 0 else 1, false) := by
  have h : cvtResult ty .bool tz a = (holdBool (readInt ty a != 0), false) := by cases ty <;> cases hty <;> rfl
  rw [h, holdBool]
  by_cases h0 : readInt ty a = 0 <;> simp [h0]

theorem cvtResult_ofBool (tz : Bool) : cvtResult .bool ty tz a = (a &&& 1, false) := by
  have h : cvtResult .bool ty tz a = (holdBool (a.toNat % 2 = 1), false) := by cases ty <;> cases hty <;> rfl
  have hand : (a &&& 1).toNat = a.toNat % 2 := (BitVec.toNat_and ..).trans (Nat.and_one_is_mod _)
  have hv : holdBool (a.toNat % 2 = 1) = a &&& 1 := by
    apply BitVec.eq_of_toNat_eq
    rw [hand, holdBool]
    split <;> rename_i h1 <;> simp at h1 <;> simp [h1]
  rw [h, hv]

theorem compare_integer (r : Rel) : compare r ty a b = r.holds (readInt ty a - readInt ty b) := by
  cases ty <;> cases hty <;> rfl

end

/-- Each relation on the sign of a difference is that relation of the operands. -/
theorem holds_sub (x y : Int) : Rel.eq.holds (x - y) = decide (x = y) ∧ Rel.ne.holds (x - y) = decide (x ≠ y) ∧
    Rel.lt.holds (x - y) = decide (x < y) ∧ Rel.le.holds (x - y) = decide (x ≤ y) ∧ Rel.gt.holds (x - y) = decide (y < x) ∧
    Rel.ge.holds (x - y) = decide (y ≤ x) := by
  refine ⟨?_, ?_, ?_, ?_, ?_, ?_⟩ <;> exact decide_eq_decide.2 (by omega)

theorem compareU_eq (ty : Ty) (a b : W64) : compareU .lt ty a b = decide (readNat ty a < readNat ty b) ∧
    compareU .le ty a b = decide (readNat ty a ≤ readNat ty b) ∧ compareU .gt ty a b = decide (readNat ty b < readNat ty a) ∧
    compareU .ge ty a b = decide (readNat ty b ≤ readNat ty a) := by
  refine ⟨?_, ?_, ?_, ?_⟩ <;> exact decide_eq_decide.2 (by omega)

theorem modResult_zero (ty : Ty) (a : W64) {b : W64} (hb : readInt ty b = 0) : Gives ty (modResult ty a b) 0 true := by
  rw [modResult]; simp only [hb, if_true]
  refine ⟨?_, rfl, ?_⟩
  · cases ty <;> rfl
  · exact fun _ => by decide

theorem modResult_exact (ty : Ty) (a : W64) {b : W64} (hb : readInt ty b ≠ 0) :
    Gives ty (modResult ty a b) ((readInt ty a).tmod (readInt ty b)) false := by
  rw [modResult]; simp only [hb, if_false]
  exact gives_holdInt _ (range_tmod (range_readInt ty a) _)

/-! ### Bitwise instructions and shifts (R125) -/

/-- The bits of a bitwise type that an instruction acts on: bit [0] alone for BOOL. -/
def bitWidth (ty : Ty) : Nat := if ty = .bool then 1 else intWidth ty

theorem getLsbD_holdBits (ty : Ty) (v : W64) {k : Nat} (hk : k < bitWidth ty) : (holdBits ty v).getLsbD k = v.getLsbD k := by
  cases ty
  case int32 =>
    have hk' : k < 32 := hk
    have hk64 : k < 64 := by omega
    simp [holdBits, BitVec.getElem_signExtend, hk', hk64]
  case bool =>
    obtain rfl : k = 0 := Nat.lt_one_iff.1 hk
    simp [holdBits]
  all_goals rfl

theorem holdBits_whole (ty : Ty) (v : W64) : (ty = .bool → (holdBits ty v).toNat < 2) ∧ Laid ty (holdBits ty v) := by
  constructor
  · rintro rfl
    exact lt_of_le_of_lt (BitVec.toNat_and v 1 ▸ Nat.and_le_right) (by decide)
  · rintro rfl
    exact laid_signExtend .int32 _ rfl

theorem shifts_laid (ty : Ty) (a b : W64) : Laid ty (shlResult ty a b) ∧ Laid ty (shrResult ty a b) ∧ Laid ty (sarResult ty a b) := by
  refine ⟨?_, ?_, ?_⟩ <;> rintro rfl <;> exact laid_signExtend .int32 _ rfl

theorem readNat_shlResult (ty : Ty) (a b : W64) :
    readNat ty (shlResult ty a b) = readNat ty a * 2 ^ (b.toNat % 128) % 2 ^ intWidth ty := by
  cases ty
  case int32 =>
    refine (congrArg BitVec.toNat (setWidth_signExtend_self _)).trans ?_
    rw [BitVec.toNat_shiftLeft, Nat.shiftLeft_eq]; rfl
  all_goals exact (BitVec.toNat_shiftLeft ..).trans (by rw [Nat.shiftLeft_eq]; rfl)

theorem readNat_shrResult (ty : Ty) (a b : W64) : readNat ty (shrResult ty a b) = readNat ty a / 2 ^ (b.toNat % 128) := by
  cases ty
  case int32 =>
    refine (congrArg BitVec.toNat (setWidth_signExtend_self _)).trans ?_
    rw [BitVec.toNat_ushiftRight, Nat.shiftRight_eq_div_pow]; rfl
  all_goals exact (BitVec.toNat_ushiftRight ..).trans (Nat.shiftRight_eq_div_pow ..)

/-- An arithmetic shift divides, rounding down, in the register and in the type. -/
theorem toInt_sarResult (ty : Ty) (a b : W64) : (sarResult ty a b).toInt = readInt ty a / (2 ^ (b.toNat % 128) : Nat) := by
  cases ty
  case int32 =>
    refine (BitVec.toInt_signExtend_of_le (by decide)).trans ?_
    rw [BitVec.toInt_sshiftRight, Int.shiftRight_eq_div_pow]; rfl
  all_goals exact BitVec.toInt_sshiftRight.trans (Int.shiftRight_eq_div_pow ..)

theorem readInt_eq_toInt {ty : Ty} {r : W64} (h : Laid ty r) : readInt ty r = r.toInt := by
  cases ty
  case int32 =>
    have hr := congrArg BitVec.toInt (h rfl)
    rw [BitVec.toInt_signExtend_of_le (by decide)] at hr
    exact hr.symm
  all_goals rfl

/-- A shift by the width of the type or more leaves no bit of the operand but its sign (R125). -/
theorem shifts_past_width {ty : Ty} {a b : W64} (h : intWidth ty ≤ b.toNat % 128) :
    shlResult ty a b = 0 ∧ shrResult ty a b = 0 ∧ sarResult ty a b = (if readInt ty a < 0 then BitVec.allOnes 64 else 0) := by
  refine ⟨?_, ?_, BitVec.eq_of_toInt_eq ?_⟩
  · cases ty
    case int32 => exact congrArg (BitVec.signExtend 64) (BitVec.shiftLeft_eq_zero h)
    all_goals exact BitVec.shiftLeft_eq_zero h
  · cases ty
    case int32 => exact congrArg (BitVec.signExtend 64) (BitVec.ushiftRight_eq_zero h)
    all_goals exact BitVec.ushiftRight_eq_zero h
  · have hx := range_readInt ty a
    have hpow : (2 ^ (intWidth ty - 1) : Nat) ≤ 2 ^ (b.toNat % 128) := Nat.pow_le_pow_right (by omega) (by omega)
    have hrange : -(2 ^ (b.toNat % 128) : Nat) ≤ readInt ty a ∧ readInt ty a < (2 ^ (b.toNat % 128) : Nat) := by
      unfold leastOf mostOf at hx; omega
    rw [toInt_sarResult]
    generalize (2 ^ (b.toNat % 128) : Nat) = p at hrange
    split
    · rename_i hneg
      exact (Int.ediv_eq_neg_one_of_neg_of_le hneg (by omega)).trans (by decide)
    · exact (Int.ediv_eq_zero_of_lt (by omega) hrange.2).trans (by decide)

end Sys2Proof.Machine
end

section
open Sys2Proof Sys2Proof.Machine

/-- Settles O30: each result is a wrapped, a saturated or an exact one of its type, bit by bit or as a number. -/
theorem integerResultsFollowTwosComplement : Obligations.IntegerResultsFollowTwosComplement := by
  refine ⟨fun ty a b d hty => ?_, fun ty a b _ => ?_, fun ty a b _ => ?_⟩
  · refine ⟨?_, ?_, ?_, ?_, ?_, ?_, saturates_satResult .., saturates_satResult .., saturates_satResult .., ?_, ?_, ?_,
      minResult_gives hty a b, maxResult_gives hty a b, limitResult_gives hty a b d, ?_, ?_, ?_, ?_, ?_, ?_, ?_⟩
    · rw [addResult_integer hty]; exact wraps_wrapResult ..
    · rw [subResult_integer hty]; exact wraps_wrapResult ..
    · rw [mulResult_integer hty]; exact wraps_wrapResult ..
    · rw [negResult_integer hty]; exact wraps_wrapResult ..
    · rw [absResult_integer hty]; exact wraps_wrapResult ..
    · intro hlo
      have hneg : leastOf ty ≤ 0 := by cases ty <;> decide
      have habs : ((readInt ty a).natAbs : Int) = -leastOf ty := by rw [hlo]; exact Int.ofNat_natAbs_of_nonpos hneg
      obtain ⟨hst, hv⟩ := wrapResult_neg_leastOf ty
      rw [negResult_integer hty, absResult_integer hty, habs, hlo]
      exact ⟨hst, hv, hst, hv⟩
    · exact fun hb => ⟨divResult_zero hty a b hb, modResult_zero ty a hb⟩
    · intro ha hb
      have hmod : (readInt ty a).tmod (readInt ty b) = 0 := by rw [hb, Int.tmod_neg, Int.tmod_one]
      exact ⟨divResult_overflow hty a b ha hb, hmod ▸ modResult_exact ty a (by omega)⟩
    · intro hb h
      refine ⟨divResult_exact hty a b hb h, modResult_exact ty a hb, (Int.mul_tdiv_add_tmod _ _).symm, Int.tmod_nonneg _, tmod_nonpos, ?_⟩
      rw [Int.natAbs_tmod]
      exact Nat.mod_lt _ (Int.natAbs_pos.2 hb)
    iterate 6 rw [compare_integer hty]; simp only [holds_sub]
    intro dst tz hdst
    obtain ⟨hv, hst, -⟩ := saturates_satResult dst (readInt ty a)
    rw [cvtResult_integer hty a hdst]
    exact ⟨⟨hv, hst⟩, cvtResult_toBool hty a tz, cvtResult_ofBool hdst a tz⟩
  · refine ⟨fun k hk => ?_, holdBits_whole ty a⟩
    have hk64 : k < 64 := lt_of_lt_of_le hk (by split <;> [decide; (cases ty <;> decide)])
    simp only [getLsbD_holdBits ty _ hk, BitVec.getLsbD_and, BitVec.getLsbD_or, BitVec.getLsbD_xor, BitVec.getLsbD_not, hk64, decide_true, Bool.true_and,
      and_self]
  · obtain ⟨hshl, hshr, hsar⟩ := shifts_laid ty a b
    refine ⟨hshl, hshr, hsar, fun _ => ⟨readNat_shlResult ty a b, readNat_shrResult ty a b, ?_⟩, shifts_past_width, compareU_eq ty a b⟩
    exact (readInt_eq_toInt hsar).trans (toInt_sarResult ty a b)
end

section
/-! SUPPORT. Loads and stores (R117 to R119, R121, R122): the registers that a load fills, and the bytes that a store writes. -/

namespace Sys2Proof.Machine

/-! ### Bytes in a memory -/

/-- Byte i of a number laid out little-endian (R6). -/
theorem leBytes_getD {n v i : Nat} (hi : i < n) : (leBytes n v).getD i 0 = BitVec.ofNat 8 (v / 2 ^ (8 * i)) := by
  induction n generalizing v i with
  | zero => omega
  | succ n ih =>
    cases i with
    | zero => simp [leBytes]
    | succ i =>
      have hpow : 2 ^ (8 * (i + 1)) = 256 * 2 ^ (8 * i) := by rw [Nat.mul_add, Nat.pow_add, Nat.mul_comm]
      rw [leBytes, List.getD_cons_succ, ih (by omega), Nat.div_div_eq_div_mul, hpow]

/-- A memory after a write of bytes. -/
theorem Mem.read_writeBytes {m : Mem} (hm : m.wf = true) (a : Nat) (bs : Bytes) (b : Nat) :
    (m.writeBytes a bs).read b = if a ≤ b ∧ b < a + bs.length then bs.getD (b - a) 0 else m.read b := by
  split
  · rename_i h
    obtain ⟨i, rfl⟩ := Nat.exists_eq_add_of_le h.1
    have hi : i < bs.length := by omega
    rw [Mem.read_writeBytes_inside m a bs i hm hi, Nat.add_sub_cancel_left, List.getD_eq_getElem _ _ hi]
  · exact Mem.read_writeBytes_outside m a bs b (by omega)

/-- Bytes with those of `keep` left as they are in memory. -/
def keepBytes (m : Mem) (keep : Nat → Bool) (a : Nat) (bs : Bytes) : Bytes :=
  bs.zipIdx.map (fun b => if keep (a + b.2) then m.read (a + b.2) else b.1)

@[simp] theorem keepBytes_length (m : Mem) (keep : Nat → Bool) (a : Nat) (bs : Bytes) : (keepBytes m keep a bs).length = bs.length := by
  simp [keepBytes]

/-- A memory after a write that keeps some bytes. -/
theorem Mem.read_write_keepBytes {m : Mem} (hm : m.wf = true) (keep : Nat → Bool) (a : Nat) (bs : Bytes) (b : Nat) :
    (m.writeBytes a (keepBytes m keep a bs)).read b =
      if a ≤ b ∧ b < a + bs.length ∧ keep b = false then bs.getD (b - a) 0 else m.read b := by
  rw [Mem.read_writeBytes hm, keepBytes_length]
  by_cases hin : a ≤ b ∧ b < a + bs.length
  · have hlen : b - a < bs.length := by omega
    have hlen' : b - a < (keepBytes m keep a bs).length := by simpa using hlen
    have hb : a + (b - a) = b := by omega
    rw [if_pos hin, List.getD_eq_getElem _ _ hlen', List.getD_eq_getElem _ _ hlen]
    simp only [keepBytes, List.getElem_map, List.getElem_zipIdx, Nat.zero_add, hb]
    cases hk : keep b <;> simp [hin]
  · rw [if_neg hin, if_neg (fun h => hin ⟨h.1, h.2.1⟩)]

theorem lookAll_eq_map {α : Type} (d : α) (m : SMap α) (a n : Nat) : lookAll d m a n = (List.range n).map (fun k => look d m (a + k)) := by
  induction n generalizing a with
  | zero => rfl
  | succ n ih =>
    rw [lookAll, ih, List.range_succ_eq_map, List.map_cons, List.map_map]
    simp [Function.comp_def, Nat.add_assoc, Nat.add_comm 1]

/-- Bytes read back as written. -/
theorem Mem.map_read_writeBytes {m : Mem} (hm : m.wf = true) (a : Nat) (bs : Bytes) :
    (List.range bs.length).map (fun k => (m.writeBytes a bs).read (a + k)) = bs :=
  (lookAll_eq_map 0 (m.writeBytes a bs) a bs.length).symm.trans (lookAll_putAll 0 m a bs hm)

/-! ### A write to VAR (R197, R198) -/

theorem preImage_key (vars : Mem) (k : Task) (x : Run) (l : Nat) :
    (preImage vars k x l).slot = x.slot ∧ (preImage vars k x l).no = x.no := by
  unfold preImage; split
  · exact ⟨rfl, rfl⟩
  · split <;> exact ⟨rfl, rfl⟩

theorem preImages_key (vars : Mem) (k : Task) (ls : List Nat) (x : Run) :
    (ls.foldl (preImage vars k) x).slot = x.slot ∧ (ls.foldl (preImage vars k) x).no = x.no := by
  induction ls generalizing x with
  | nil => exact ⟨rfl, rfl⟩
  | cons l ls ih =>
    obtain ⟨hslot, hno⟩ := ih (preImage vars k x l)
    exact ⟨hslot.trans (preImage_key vars k x l).1, hno.trans (preImage_key vars k x l).2⟩

theorem writeVar_vars (c : Ctx) (a : Nat) (bs : Bytes) : (writeVar c a bs).vars = c.vars.writeBytes a bs := by
  unfold writeVar; simp only; split <;> rfl

theorem writeVar_e (c : Ctx) (a : Nat) (bs : Bytes) : (writeVar c a bs).e = { c.e with sig := signBytes c.e.sig a bs.length bs } := by
  unfold writeVar; simp only; split <;> rfl

theorem writeVar_key (c : Ctx) (a : Nat) (bs : Bytes) : (writeVar c a bs).x.slot = c.x.slot ∧ (writeVar c a bs).x.no = c.x.no := by
  unfold writeVar; simp only; split
  · exact ⟨rfl, rfl⟩
  · exact preImages_key ..

/-- The signature takes the bytes written, as they then read (R197). -/
theorem writeVar_sig {c : Ctx} (hm : c.vars.wf = true) (a : Nat) (bs : Bytes) :
    (writeVar c a bs).e.sig =
      signBytes c.e.sig a bs.length ((List.range bs.length).map (fun k => (writeVar c a bs).vars.read (a + k))) := by
  rw [writeVar_e, writeVar_vars, Mem.map_read_writeBytes hm]

end Sys2Proof.Machine
end

section
/-! SUPPORT. LD and ST as effects on a context (R119, R121, R122). -/

namespace Sys2Proof.Machine

/-! ### Registers that a load fills -/

section
variable (e : Engine) (n : Nat) (v : W64) (r : Nat)

theorem loadReg_eq : e.loadReg n v r = { e.setReg n v r with loadW := (e.loadReg n v r).loadW } := by
  unfold Engine.loadReg
  split
  · rename_i h0; rw [Engine.setReg, if_pos h0]
  · rfl

@[simp] theorem loadReg_pc : (e.loadReg n v r).pc = e.pc := by rw [loadReg_eq]; exact setReg_pc ..
@[simp] theorem loadReg_faults : (e.loadReg n v r).faults = e.faults := by rw [loadReg_eq]; exact setReg_faults ..
@[simp] theorem loadReg_busy : (e.loadReg n v r).busy = e.busy := by rw [loadReg_eq]; exact setReg_busy ..
@[simp] theorem loadReg_c : (e.loadReg n v r).c = e.c := by rw [loadReg_eq]; exact setReg_c ..
@[simp] theorem loadReg_readyC : (e.loadReg n v r).readyC = e.readyC := by rw [loadReg_eq]; exact setReg_readyC ..

theorem reg_loadReg {e : Engine} (h : tableWf 0 e.w = true) (m : Nat) :
    (e.loadReg n v r).reg m = if m = n then (if n = 0 then 0 else v) else e.reg m := by
  rw [← reg_setReg h n v r m, loadReg_eq]; rfl

theorem look_readyW_loadReg {e : Engine} (h : tableWf 0 e.readyW = true) (m : Nat) :
    look 0 (e.loadReg n v r).readyW m = if m = n ∧ m ≠ 0 then r else look 0 e.readyW m := by
  rw [← look_readyW_setReg h n v r m, loadReg_eq]

theorem look_loadW_loadReg {e : Engine} (h : tableWf 0 e.loadW = true) (m : Nat) :
    look 0 (e.loadReg n v r).loadW m = if m = n ∧ m ≠ 0 then r else look 0 e.loadW m := by
  unfold Engine.loadReg
  split
  · rename_i h0; subst h0; rw [if_neg (fun h => h.2 h.1)]
  · rename_i h0
    by_cases hm : m = n
    · subst hm; rw [if_pos ⟨rfl, h0⟩]; exact look_put_self _ _ _ _ h
    · rw [if_neg (fun h => hm h.1)]; exact look_put_other _ _ _ (Ne.symm hm)

end

/-- What no load of a register changes, a load of several does not change. -/
theorem loadAll_field {α : Type} (p : Engine → α) (hp : ∀ e n v r, p (Engine.loadReg e n v r) = p e) (r : Nat) (rs : List Nat) (ws : List W64)
    (e : Engine) : p (loadAll r e rs ws) = p e := by
  induction rs generalizing e ws with
  | nil => rfl
  | cons n rs ih =>
    cases ws with
    | nil => rfl
    | cons v ws => exact (ih ws _).trans (hp ..)

theorem loadAll_operandsOnly (r : Nat) (rs : List Nat) (ws : List W64) (e : Engine) : OperandsOnly e (loadAll r e rs ws) := by
  induction rs generalizing e ws with
  | nil => exact OperandsOnly.refl e
  | cons n rs ih =>
    cases ws with
    | nil => exact OperandsOnly.refl e
    | cons v ws => exact (loadReg_operandsOnly e n v r).trans (ih ws _)

theorem EngineWf.loadAll {e : Engine} (h : EngineWf e) (r : Nat) (rs : List Nat) (ws : List W64) : EngineWf (loadAll r e rs ws) := by
  induction rs generalizing e ws with
  | nil => exact h
  | cons n rs ih =>
    cases ws with
    | nil => exact h
    | cons v ws => exact ih (h.loadReg n v r) ws

theorem reg_loadAll_other (r : Nat) {rs : List Nat} (ws : List W64) {e : Engine} (hw : EngineWf e) {m : Nat} (hm : m ∉ rs) :
    (loadAll r e rs ws).reg m = e.reg m := by
  induction rs generalizing e ws with
  | nil => rfl
  | cons n rs ih =>
    cases ws with
    | nil => rfl
    | cons v ws =>
      rw [List.mem_cons, not_or] at hm
      obtain ⟨hn, hrs⟩ := hm
      exact (ih ws (hw.loadReg n v r) hrs).trans ((reg_loadReg n v r hw.1 m).trans (if_neg hn))

/-- Registers that a load fills, none twice, read as loaded. -/
theorem reg_loadAll_map {ι : Type} (r : Nat) {l : List ι} {reg : ι → Nat} (w : ι → W64) (hl : (l.map reg).Nodup) {e : Engine} (hw : EngineWf e)
    {i : ι} (hi : i ∈ l) : (loadAll r e (l.map reg) (l.map w)).reg (reg i) = if reg i = 0 then 0 else w i := by
  induction l generalizing e with
  | nil => cases hi
  | cons j l ih =>
    obtain ⟨hj, hl'⟩ := List.nodup_cons.1 hl
    rcases List.mem_cons.1 hi with rfl | hi
    · exact (reg_loadAll_other r _ (hw.loadReg ..) hj).trans ((reg_loadReg _ _ r hw.1 _).trans (if_pos rfl))
    · exact ih hl' (hw.loadReg ..) hi

/-- A table of ready times after loads of several registers, as after the load of each. -/
theorem look_loadAll_map {ι : Type} (p : Engine → SMap Nat) (r : Nat)
    (hp : ∀ e, EngineWf e → ∀ n v m, look 0 (p (Engine.loadReg e n v r)) m = if m = n ∧ m ≠ 0 then r else look 0 (p e) m)
    (l : List ι) (reg : ι → Nat) (w : ι → W64) {e : Engine} (hw : EngineWf e) (m : Nat) :
    look 0 (p (loadAll r e (l.map reg) (l.map w))) m = if m ∈ l.map reg ∧ m ≠ 0 then r else look 0 (p e) m := by
  induction l generalizing e with
  | nil => simp [loadAll]
  | cons j l ih =>
    rw [List.map_cons, List.map_cons, loadAll, ih (hw.loadReg ..), hp e hw]
    by_cases hm : m ∈ l.map reg ∧ m ≠ 0
    · rw [if_pos hm, if_pos ⟨List.mem_cons_of_mem _ hm.1, hm.2⟩]
    · rw [if_neg hm]
      exact if_congr (by rw [List.mem_cons]; tauto) rfl rfl

/-! ### The slot of an access (R122) -/

/-- Hold the slot of an access: none in SCR. -/
def holdSlot (sp : Space) (e : Engine) (t : Nat) : Engine := if memSlots sp = 0 then e else e.hold t [t + 32]

section
variable (sp : Space) (e : Engine) (t : Nat)

theorem memSlots_eq_zero {sp : Space} : memSlots sp = 0 ↔ sp = .scr := by cases sp <;> simp [memSlots]

theorem holdSlot_field {α : Type} (p : Engine → α) (hp : ∀ e l, p { e with busy := l } = p e) : p (holdSlot sp e t) = p e := by
  unfold holdSlot
  split
  · rfl
  · exact hp e _

theorem holdSlot_operandsOnly : OperandsOnly e (holdSlot sp e t) := by
  unfold holdSlot
  split
  · exact OperandsOnly.refl e
  · exact hold_operandsOnly ..

theorem holdSlot_busy : (sp = .scr → (holdSlot sp e t).busy = e.busy) ∧ (sp ≠ .scr → SlotsHeld e (holdSlot sp e t) t [t + 32]) := by
  rw [← memSlots_eq_zero.ne, ← memSlots_eq_zero, holdSlot]
  exact ⟨fun h => by rw [if_pos h], fun h => by rw [if_neg h]; rfl⟩

end

/-! ### LD -/

/-- The size of one word of a load: a line is eight words (R117, R121). -/
def Sz.part (sz : Sz) : Sz := if sz = .line then .d64 else sz

/-- The words that a load fills. -/
def loadCount (f : MFields) : Nat := if f.sz = .line then 8 else 1

/-- Cycles to a load's result (R121). -/
def loadDelay (sp : Space) : Nat := if sp = .scr then 2 else 32

/-- Word j of a load. -/
def loadedWord (c : Ctx) (f : MFields) (j : Nat) : W64 :=
  if accessOk c f.sp (memAddr c f) (szBytes f.sz) then loadWord (Sz.part f.sz) (readSpace c f.sp (memAddr c f + 8 * j) (szBytes (Sz.part f.sz))) else 0

/-- The engine of an access: a suppressed one counts (R119). -/
def accessed (c : Ctx) (f : MFields) : Engine := if accessOk c f.sp (memAddr c f) (szBytes f.sz) then c.e else c.e.fault

/-- The engine after a load. -/
def loaded (f : MFields) (c : Ctx) (t : Nat) : Engine :=
  (holdSlot f.sp (loadAll (t + loadDelay f.sp) (accessed c f) (loadRegs f) ((List.range (loadCount f)).map (loadedWord c f))) t).advance t 1

theorem loadRegs_eq (f : MFields) : loadRegs f = (List.range (loadCount f)).map (fun j => f.wd.toNat + j) := by
  unfold loadRegs loadCount
  cases f.sz <;> rfl

theorem loadWords_eq (c : Ctx) (f : MFields) :
    (if accessOk c f.sp (memAddr c f) (szBytes f.sz) then loadWords c f (memAddr c f) else (loadRegs f).map (fun _ => 0)) =
      (List.range (loadCount f)).map (loadedWord c f) := by
  unfold loadWords loadRegs loadCount loadedWord Sz.part
  split <;> cases f.sz <;> rfl

theorem ld_runs (s : State) (id : EngId) (f : MFields) :
    RunsAs s id (.ld id f) (fun _ => { regs := [f.wa.toNat], writes := loadRegs f, slots := memSlots f.sp }) (fun c t => { c with e := loaded f c t }) := by
  refine ⟨rfl, ?_⟩
  show execLd id f s = _
  unfold execLd
  congr 1
  funext c t
  rw [loaded, ← loadWords_eq]
  obtain ⟨sz, wd, wa, wb, sp, off⟩ := f
  cases sp <;> rfl

theorem accessed_operandsOnly (c : Ctx) (f : MFields) : OperandsOnly c.e (accessed c f) := by
  unfold accessed
  split
  · exact OperandsOnly.refl _
  · exact fault_operandsOnly _

theorem EngineWf.accessed {c : Ctx} (h : EngineWf c.e) (f : MFields) : EngineWf (accessed c f) := by
  unfold Machine.accessed; split <;> exact h

theorem accessed_faults (c : Ctx) (f : MFields) : (accessed c f).faults =
    if accessOk c f.sp (memAddr c f) (szBytes f.sz) then c.e.faults else satInc c.e.faults := by
  unfold accessed; split <;> rfl

/-- What suppressing an access leaves. -/
theorem accessed_field {α : Type} (p : Engine → α) (hp : ∀ e q, p { e with faults := q } = p e) (c : Ctx) (f : MFields) :
    p (accessed c f) = p c.e := by
  unfold accessed; split
  · rfl
  · exact hp ..

theorem loadRegs_nodup (f : MFields) : (loadRegs f).Nodup := by
  rw [loadRegs_eq]
  exact List.Nodup.map (fun i j h => Nat.add_left_cancel h) List.nodup_range

/-- What a load makes of its engine, but for time (R119, R121). -/
theorem loaded_spec {c : Ctx} (hw : EngineWf c.e) (f : MFields) (t : Nat) :
    let e' := loaded f c t
    OperandsOnly c.e e' ∧ RegsKept (loadRegs f) c.e e' ∧
    (∀ j, j < loadCount f → e'.reg (f.wd.toNat + j) = if f.wd.toNat + j = 0 then 0 else loadedWord c f j) ∧
    CondsKept [] c.e e' ∧ e'.pc = c.e.pc + 8 ∧
    e'.faults = if accessOk c f.sp (memAddr c f) (szBytes f.sz) then c.e.faults else satInc c.e.faults := by
  have hwf := hw.accessed f
  have hfield {α : Type} (p : Engine → α) (hload : ∀ e n v r, p (Engine.loadReg e n v r) = p e) (hbusy : ∀ e l, p { e with busy := l } = p e) :
      p (holdSlot f.sp (loadAll (t + loadDelay f.sp) (accessed c f) (loadRegs f) ((List.range (loadCount f)).map (loadedWord c f))) t) =
        p (accessed c f) := (holdSlot_field _ _ _ p hbusy).trans (loadAll_field p hload ..)
  refine ⟨?_, fun m hm => ?_, fun j hj => ?_, fun m _ _ => ?_, ?_, ?_⟩
  · exact (accessed_operandsOnly c f).trans ((loadAll_operandsOnly ..).trans ((holdSlot_operandsOnly ..).trans (advance_operandsOnly ..)))
  · refine (holdSlot_field _ _ _ (fun e => e.reg m) fun _ _ => rfl).trans ((reg_loadAll_other _ _ hwf hm).trans ?_)
    exact accessed_field (fun e => e.reg m) (fun _ _ => rfl) c f
  · refine (holdSlot_field _ _ _ (fun e => e.reg (f.wd.toNat + j)) fun _ _ => rfl).trans ?_
    rw [loadRegs_eq]
    exact reg_loadAll_map _ (loadedWord c f) (loadRegs_eq f ▸ loadRegs_nodup f) hwf (List.mem_range.2 hj)
  · exact (hfield (fun e => e.cond m) (fun e n v r => by simp [Engine.cond]) fun _ _ => rfl).trans
      (accessed_field (fun e => e.cond m) (fun _ _ => rfl) c f)
  · exact congrArg (· + 8) ((hfield Engine.pc loadReg_pc fun _ _ => rfl).trans (accessed_field Engine.pc (fun _ _ => rfl) c f))
  · exact (hfield Engine.faults loadReg_faults fun _ _ => rfl).trans (accessed_faults c f)

/-- When a load's results are ready (R121, R122). -/
theorem loaded_ready {c : Ctx} (hw : EngineWf c.e) (f : MFields) (t : Nat) :
    let e' := loaded f c t
    (∀ r, look 0 e'.readyW r = if r ∈ loadRegs f ∧ r ≠ 0 then t + loadDelay f.sp else look 0 c.e.readyW r) ∧
    (∀ r, look 0 e'.loadW r = if r ∈ loadRegs f ∧ r ≠ 0 then t + loadDelay f.sp else look 0 c.e.loadW r) ∧
    e'.readyC = c.e.readyC ∧ e'.cyc = t + 1 ∧ (f.sp = .scr → e'.busy = c.e.busy) ∧ (f.sp ≠ .scr → SlotsHeld c.e e' t [t + 32]) := by
  have hwf := hw.accessed f
  have hbusy : (loadAll (t + loadDelay f.sp) (accessed c f) (loadRegs f) ((List.range (loadCount f)).map (loadedWord c f))).busy = c.e.busy :=
    (loadAll_field Engine.busy loadReg_busy ..).trans (accessed_field Engine.busy (fun _ _ => rfl) c f)
  obtain ⟨hfree, hheld⟩ := holdSlot_busy f.sp
    (loadAll (t + loadDelay f.sp) (accessed c f) (loadRegs f) ((List.range (loadCount f)).map (loadedWord c f))) t
  refine ⟨fun r => ?_, fun r => ?_, ?_, rfl, fun h => (hfree h).trans hbusy, fun h => (hheld h).trans (by rw [hbusy])⟩
  · refine (holdSlot_field _ _ _ (fun e => look 0 e.readyW r) fun _ _ => rfl).trans ?_
    rw [loadRegs_eq, look_loadAll_map Engine.readyW _ (fun e he n v m => look_readyW_loadReg n v _ he.2.1 m) _ _ _ hwf,
      accessed_field Engine.readyW (fun _ _ => rfl) c f]
  · refine (holdSlot_field _ _ _ (fun e => look 0 e.loadW r) fun _ _ => rfl).trans ?_
    rw [loadRegs_eq, look_loadAll_map Engine.loadW _ (fun e he n v m => look_loadW_loadReg n v _ he.2.2.2.1 m) _ _ _ hwf,
      accessed_field Engine.loadW (fun _ _ => rfl) c f]
  · exact (holdSlot_field _ _ _ Engine.readyC fun _ _ => rfl).trans
      ((loadAll_field Engine.readyC loadReg_readyC ..).trans (accessed_field Engine.readyC (fun _ _ => rfl) c f))

end Sys2Proof.Machine
end

section
/-! SUPPORT. ST as an effect on a context (R117, R119, R121, R129, R157). -/

namespace Sys2Proof.Machine

theorem accessOk_iff (c : Ctx) (sp : Space) (a n : Nat) : accessOk c sp a n = true ↔ a < 2 ^ 64 ∧ a % n = 0 ∧ a + n ≤ windowLen c sp := by
  simp [accessOk, and_assoc]

/-- The context after the bytes of a store are written, or suppressed. -/
def storeDone (f : MFields) (c : Ctx) : Ctx :=
  if accessOk c f.sp (memAddr c f) (szBytes f.sz) then
    storeBytes c f.sp (memAddr c f) (leBytes (szBytes f.sz) (c.e.reg f.wb.toNat).toNat)
  else { c with e := c.e.fault }

/-- The context after a store. -/
def stored (f : MFields) (c : Ctx) (t : Nat) : Ctx :=
  { storeDone f c with e := (holdSlot f.sp (storeDone f c).e t).advance t 1 }

theorem st_runs (s : State) (id : EngId) (f : MFields) :
    RunsAs s id (.st id f) (fun _ => { regs := [f.wa.toNat, f.wb.toNat], slots := memSlots f.sp }) (stored f) := ⟨rfl, rfl⟩

/-- Bytes are written to VAR: the access is valid and touches no forced word (R157). -/
def storesVar (f : MFields) (c : Ctx) : Bool :=
  f.sp == .var && accessOk c f.sp (memAddr c f) (szBytes f.sz) && !touchesForced c.x.forced (memAddr c f) (szBytes f.sz)

theorem storesVar_iff {f : MFields} {c : Ctx} : storesVar f c = true ↔ f.sp = .var ∧
    accessOk c f.sp (memAddr c f) (szBytes f.sz) = true ∧ ¬touchesForced c.x.forced (memAddr c f) (szBytes f.sz) = true := by
  simp [storesVar, and_assoc]

/-- The bytes that a store writes to VAR: `IID` and `KIND` of function-block instances stay (R129). -/
def storedBytes (f : MFields) (c : Ctx) : Bytes :=
  keepBytes c.vars (instanceByte c) (memAddr c f) (leBytes (szBytes f.sz) (c.e.reg f.wb.toNat).toNat)

theorem storeDone_var {f : MFields} {c : Ctx} (h : storesVar f c = true) : storeDone f c = writeVar c (memAddr c f) (storedBytes f c) := by
  obtain ⟨hsp, hok, hforced⟩ := storesVar_iff.1 h
  rw [storeDone, if_pos hok, hsp]
  simp only [storeBytes, leBytes_length, hforced]
  rfl

/-- A store that writes nothing to VAR changes scratch memory or the address-fault count alone. -/
theorem storeDone_other {f : MFields} {c : Ctx} (h : ¬storesVar f c = true) :
    storeDone f c = { c with e := { c.e with
      scr := if f.sp = .scr ∧ accessOk c f.sp (memAddr c f) (szBytes f.sz) = true then
          c.e.scr.writeBytes (memAddr c f) (leBytes (szBytes f.sz) (c.e.reg f.wb.toNat).toNat) else c.e.scr
      faults := if accessOk c f.sp (memAddr c f) (szBytes f.sz) then c.e.faults else satInc c.e.faults } } := by
  unfold storeDone
  split
  · rename_i hok
    obtain ⟨sz, wd, wa, wb, sp, off⟩ := f
    cases sp
    case var =>
      have hforced : touchesForced c.x.forced (memAddr c ⟨sz, wd, wa, wb, .var, off⟩) (szBytes sz) = true := by
        by_contra hf; exact h (storesVar_iff.2 ⟨rfl, hok, hf⟩)
      simp only [storeBytes, leBytes_length, hforced, if_true]
      rfl
    all_goals simp [storeBytes, hok]
  · rename_i hok
    simp [hok, Engine.fault]

theorem storeDone_e (f : MFields) (c : Ctx) :
    (storeDone f c).e = { c.e with scr := (storeDone f c).e.scr, sig := (storeDone f c).e.sig, faults := (storeDone f c).e.faults } := by
  by_cases h : storesVar f c = true
  · rw [storeDone_var h, writeVar_e]
  · rw [storeDone_other h]

theorem stored_key (f : MFields) (c : Ctx) (t : Nat) : (stored f c t).x.slot = c.x.slot ∧ (stored f c t).x.no = c.x.no := by
  show (storeDone f c).x.slot = _ ∧ (storeDone f c).x.no = _
  by_cases h : storesVar f c = true
  · rw [storeDone_var h]; exact writeVar_key ..
  · rw [storeDone_other h]; exact ⟨rfl, rfl⟩

/-- What a store leaves of its engine, but for time: all but scratch memory, signature and address-fault count. -/
theorem stored_e (f : MFields) (c : Ctx) (t : Nat) :
    (stored f c t).e = { c.e with
      scr := (storeDone f c).e.scr, sig := (storeDone f c).e.sig, faults := (storeDone f c).e.faults,
      busy := (holdSlot f.sp c.e t).busy, cyc := t + 1, pc := c.e.pc + 8 } := by
  have h := storeDone_e f c
  show (holdSlot f.sp (storeDone f c).e t).advance t 1 = _
  rw [h]
  unfold holdSlot
  split <;> rfl

/-- A store's write to VAR (R117, R129, R157), which its signature takes (R197). -/
theorem storeDone_vars {f : MFields} {c : Ctx} (hm : c.vars.wf = true) (b : Nat) :
    (storeDone f c).vars.read b =
      if storesVar f c = true ∧ memAddr c f ≤ b ∧ b < memAddr c f + szBytes f.sz ∧ instanceByte c b = false then
        BitVec.ofNat 8 ((c.e.reg f.wb.toNat).toNat / 2 ^ (8 * (b - memAddr c f)))
      else c.vars.read b := by
  by_cases h : storesVar f c = true
  · rw [storeDone_var h, writeVar_vars, storedBytes, Mem.read_write_keepBytes hm, leBytes_length]
    by_cases hb : memAddr c f ≤ b ∧ b < memAddr c f + szBytes f.sz ∧ instanceByte c b = false
    · rw [if_pos hb, if_pos ⟨h, hb⟩, leBytes_getD (by omega)]
    · rw [if_neg hb, if_neg (fun hh => hb hh.2)]
  · rw [storeDone_other h]; exact (if_neg fun hh => h hh.1).symm

theorem storeDone_sig {f : MFields} {c : Ctx} (hm : c.vars.wf = true) :
    (storesVar f c = true → (storeDone f c).e.sig = signBytes c.e.sig (memAddr c f) (szBytes f.sz)
      ((List.range (szBytes f.sz)).map (fun k => (storeDone f c).vars.read (memAddr c f + k)))) ∧
    (¬storesVar f c = true → (storeDone f c).e.sig = c.e.sig ∧ (storeDone f c).vars = c.vars) := by
  constructor
  · intro h
    have hlen : (storedBytes f c).length = szBytes f.sz := by rw [storedBytes, keepBytes_length, leBytes_length]
    rw [storeDone_var h, writeVar_sig hm, hlen]
  · intro h
    rw [storeDone_other h]
    exact ⟨rfl, rfl⟩

/-- A store's write to scratch memory. -/
theorem storeDone_scr {f : MFields} {c : Ctx} (hm : c.e.scr.wf = true) (b : Nat) :
    (storeDone f c).e.scr.read b =
      if (f.sp = .scr ∧ accessOk c f.sp (memAddr c f) (szBytes f.sz) = true) ∧ memAddr c f ≤ b ∧ b < memAddr c f + szBytes f.sz then
        BitVec.ofNat 8 ((c.e.reg f.wb.toNat).toNat / 2 ^ (8 * (b - memAddr c f)))
      else c.e.scr.read b := by
  by_cases h : storesVar f c = true
  · have hsp : ¬f.sp = .scr := by rw [(storesVar_iff.1 h).1]; decide
    rw [storeDone_var h, writeVar_e, if_neg (fun hh => hsp hh.1.1)]
  · rw [storeDone_other h]
    by_cases hscr : f.sp = .scr ∧ accessOk c f.sp (memAddr c f) (szBytes f.sz) = true
    · show Mem.read (if _ then _ else _) b = _
      rw [if_pos hscr, Mem.read_writeBytes hm, leBytes_length]
      by_cases hb : memAddr c f ≤ b ∧ b < memAddr c f + szBytes f.sz
      · rw [if_pos hb, if_pos ⟨hscr, hb⟩, leBytes_getD (by omega)]
      · rw [if_neg hb, if_neg (fun hh => hb hh.2)]
    · show Mem.read (if _ then _ else _) b = _
      rw [if_neg hscr, if_neg (fun hh => hscr hh.1)]

theorem storeDone_faults (f : MFields) (c : Ctx) :
    (storeDone f c).e.faults = if accessOk c f.sp (memAddr c f) (szBytes f.sz) then c.e.faults else satInc c.e.faults := by
  by_cases h : storesVar f c = true
  · rw [storeDone_var h, writeVar_e, if_pos (storesVar_iff.1 h).2.1]
  · rw [storeDone_other h]

/-! ### The registers of a load (R120, R121) -/

theorem loadRegs_word {f : MFields} (h : f.sz ≠ .line) : loadRegs f = [f.wd.toNat] := by
  rw [loadRegs_eq, loadCount, if_neg h]; rfl

/-- A line fills no register W0. -/
theorem lineLoad_reg_ne_zero {id : EngId} {f : MFields} (hwf : (Instr.ld id f).wf = true) (h : f.sz = .line) (j : Nat) :
    ¬f.wd.toNat + j = 0 := by
  intro h0
  have hwd : f.wd = 0 := BitVec.eq_of_toNat_eq (Nat.eq_zero_of_add_eq_zero_right h0)
  simp [Instr.wf, MFields.loadOk, h, hwd] at hwf

/-! ### An access that issues in time -/

section
variable {s : State} {id : EngId} {f : MFields} {c : Ctx} (hon : OnEngine s id c)
include hon

theorem ld_engine (hwf : (Instr.ld id f).wf = true) (ht : InTime { regs := [f.wa.toNat], writes := loadRegs f, slots := memSlots f.sp } c) :
    ∃ t, exec (.ld id f) s = .next t ∧ GolupFrame id s t ∧ engineOf (t.region id.er) id.n =
      loaded f c (issueCycle c.e { regs := [f.wa.toNat], writes := loadRegs f, slots := memSlots f.sp }) := by
  obtain ⟨hkept, -⟩ := loaded_spec hon.engineWf f (issueCycle c.e { regs := [f.wa.toNat], writes := loadRegs f, slots := memSlots f.sp })
  exact (ld_runs s id f).engine hwf hon ht rfl hkept.rest hkept.overlay.2

theorem st_stores (hwf : (Instr.st id f).wf = true) (ht : InTime { regs := [f.wa.toNat, f.wb.toNat], slots := memSlots f.sp } c) :
    ∃ t, exec (.st id f) s = .next t ∧ GolupStoreFrame id c s t ∧ seenVars (t.region id.er) id.n c = (storeDone f c).vars ∧
      (let at_ := issueCycle c.e { regs := [f.wa.toNat, f.wb.toNat], slots := memSlots f.sp }
       engineOf (t.region id.er) id.n = { c.e with
         scr := (storeDone f c).e.scr, sig := (storeDone f c).e.sig, faults := (storeDone f c).e.faults,
         busy := (holdSlot f.sp c.e at_).busy, cyc := at_ + 1, pc := c.e.pc + 8
         view := if c.e.redo then (storeDone f c).vars else c.e.view }) := by
  obtain ⟨t, hexec, hframe, hvars, he⟩ := (st_runs s id f).store hwf hon ht rfl
    (by rw [stored_e]; exact ⟨rfl, rfl, rfl, rfl, rfl, rfl, rfl⟩) (stored_key f c _)
  rw [stored_e] at he
  exact ⟨t, hexec, hframe, hvars, he⟩

end

end Sys2Proof.Machine
end

section
open Sys2Proof Sys2Proof.Machine

/-- Settles O32: a load is its registers filled from the space, a store its bytes in VAR or in scratch memory. -/
theorem golupLoadsAndStoresComplete : Obligations.GolupLoadsAndStoresComplete := by
  refine ⟨fun s id f c hwf hon ht => ?_, fun s id f c hwf hon ht => ?_⟩
  · obtain ⟨hkept, hregs, hreg, hconds, hpc, hfaults⟩ := loaded_spec hon.engineWf f
      (issueCycle c.e { regs := [f.wa.toNat], writes := loadRegs f, slots := memSlots f.sp })
    obtain ⟨t, hexec, hframe, he⟩ := ld_engine hon hwf ht
    refine ⟨t, hexec, hframe, ?_⟩
    simp only [he]
    have hok := accessOk_iff c f.sp (memAddr c f) (szBytes f.sz)
    refine ⟨fun hsz => ?_, fun hsz => ?_, ?_, hconds, hpc, hkept.stack, hkept.scr, hkept.journal, hkept.rest, hkept.overlay⟩
    · have hword := hreg 0 (by rw [loadCount]; split <;> decide)
      refine ⟨fun m hm => hregs m (loadRegs_word hsz ▸ hm), fun hwd => ?_⟩
      have hwd' : ¬f.wd.toNat + 0 = 0 := fun h => hwd (BitVec.eq_of_toNat_eq h)
      refine (hword.trans (if_neg hwd')).trans (if_congr hok ?_ rfl)
      obtain ⟨sz, wd, wa, wb, sp, off⟩ := f
      cases sz
      case line => exact absurd rfl hsz
      all_goals rfl
    · have hline : loadRegs f = (List.range 8).map (fun j => f.wd.toNat + j) ∧ loadCount f = 8 := by
        rw [loadRegs_eq, loadCount, if_pos hsz]; exact ⟨rfl, rfl⟩
      refine ⟨hline.1 ▸ hregs, fun j hj => ?_⟩
      refine ((hreg j (by rw [hline.2]; exact hj)).trans (if_neg (lineLoad_reg_ne_zero hwf hsz j))).trans (if_congr hok ?_ rfl)
      obtain ⟨sz, wd, wa, wb, sp, off⟩ := f
      subst hsz
      rfl
    · exact hfaults.trans (if_congr hok rfl rfl)
  · obtain ⟨t, hexec, hframe, hvars, he⟩ := st_stores hon hwf ht
    have hok := accessOk_iff c f.sp (memAddr c f) (szBytes f.sz)
    have hstores : storesVar f c = true ↔ f.sp = .var ∧ (memAddr c f < 2 ^ 64 ∧ memAddr c f % szBytes f.sz = 0 ∧
        memAddr c f + szBytes f.sz ≤ windowLen c f.sp) ∧ ¬touchesForced c.x.forced (memAddr c f) (szBytes f.sz) = true := by
      rw [storesVar_iff, hok]
    obtain ⟨hsigned, hkept⟩ := storeDone_sig (f := f) hon.varsWf
    refine ⟨t, hexec, hframe, ?_⟩
    rw [he, hvars]
    refine ⟨fun b => ?_, fun b => ?_, ?_, fun _ _ => rfl, fun _ _ _ => rfl, rfl, rfl, ⟨rfl, rfl, rfl, rfl⟩, ⟨rfl, rfl, rfl, rfl, rfl, rfl, rfl⟩, ?_, ?_⟩
    · refine (storeDone_vars hon.varsWf b).trans (if_congr ?_ rfl rfl)
      rw [hstores]; simp only [and_assoc]; rfl
    · obtain ⟨-, -, -, -, -, -, -, -, hscr, -⟩ := hon.engineWf
      refine (storeDone_scr hscr b).trans (if_congr ?_ rfl rfl)
      rw [hok]; simp only [and_assoc]; rfl
    · exact (storeDone_faults f c).trans (if_congr hok rfl rfl)
    · exact fun h => ⟨hsigned (hstores.2 h), fun hredo => if_neg (by rw [hredo]; decide)⟩
    · intro h
      obtain ⟨hsig, hv⟩ := hkept (fun hh => h (hstores.1 hh))
      refine ⟨hsig, ?_⟩
      show (if c.e.redo then (storeDone f c).vars else c.e.view) = c.e.view
      split
      · rename_i hredo; rw [hv, hon.vars, if_pos hredo]
      · rfl
end

section
/-! SUPPORT. Branches and journal instructions as effects on a context (R121 to R123, R127). -/

namespace Sys2Proof.Machine

/-! ### Branches -/

/-- An instruction moved engine id's position, time and return stack, and nothing else. -/
def MovedOnly (id : EngId) (c : Ctx) (s t : State) (e : Engine) : Prop :=
  GolupFrame id s t ∧ RegsKept [] c.e e ∧ CondsKept [] c.e e ∧ e.scr = c.e.scr ∧ e.faults = c.e.faults ∧ JournalKept c.e e ∧
  EngineRestKept c.e e ∧ OverlayKept c.e e ∧ ReadyKept c.e e ∧ e.busy = c.e.busy

/-- An instruction whose effect is on position, time and return stack moves these alone. -/
theorem RunsAs.moves {s : State} {id : EngId} {i : Instr} {need : Ctx → Need} {k : Ctx → Nat → Ctx} (hi : RunsAs s id i need k)
    (hwf : i.wf = true) {c : Ctx} (hon : OnEngine s id c) (ht : InTime (need c) c) {n : Nat} {p : W32} {stack : List W32}
    (hk : k c (issueCycle c.e (need c)) = { c with e := { c.e with cyc := n, pc := p, stack := stack } }) :
    ∃ t, exec i s = .next t ∧ MovedOnly id c s t (engineOf (t.region id.er) id.n) ∧ (engineOf (t.region id.er) id.n).pc = p ∧
      (engineOf (t.region id.er) id.n).stack = stack ∧ (engineOf (t.region id.er) id.n).cyc = n := by
  obtain ⟨t, hexec, hframe, he⟩ := hi.engine hwf hon ht hk ⟨rfl, rfl, rfl, rfl, rfl, rfl, rfl⟩ rfl
  refine ⟨t, hexec, ?_⟩
  rw [he]
  exact ⟨⟨hframe, fun _ _ => rfl, fun _ _ _ => rfl, rfl, rfl, ⟨rfl, rfl, rfl, rfl⟩, ⟨rfl, rfl, rfl, rfl, rfl, rfl, rfl⟩, ⟨rfl, rfl⟩,
    ⟨rfl, rfl, rfl⟩, rfl⟩, rfl, rfl, rfl⟩

/-- A branch is taken: it is unconditional, or C(`CB`) differs from `NEG` (R121). -/
def taken (f : BFields) (c : Ctx) : Bool := !f.cnd || c.e.cond f.cb.toNat != f.neg

theorem taken_iff {f : BFields} {c : Ctx} : taken f c = true ↔ f.cnd = false ∨ c.e.cond f.cb.toNat ≠ f.neg := by simp [taken]

theorem br_runs (s : State) (id : EngId) (f : BFields) : RunsAs s id (.br id f) (fun _ => { conds := if f.cnd then [f.cb.toNat] else [] })
    (fun c t => { c with e := if taken f c then c.e.jump t 4 f.tgt else c.e.advance t 1 }) := ⟨rfl, rfl⟩

theorem call_runs (s : State) (id : EngId) (f : BFields) : RunsAs s id (.call id f) (fun _ => {})
    (fun c t => { c with e := { c.e with stack := (c.e.pc + 8) :: c.e.stack }.jump t 4 f.tgt }) := ⟨rfl, rfl⟩

/-- The context after RET. -/
def returned (c : Ctx) (t : Nat) : Ctx :=
  match c.e.stack with
  | [] => closeRun c (t + 1) false
  | p :: rest => { c with e := { c.e with stack := rest }.jump t 4 p }

theorem ret_runs (s : State) (id : EngId) (f : BFields) : RunsAs s id (.ret id f) (fun _ => {}) returned := ⟨rfl, rfl⟩

theorem returned_cons {c : Ctx} {p : W32} {rest : List W32} (h : c.e.stack = p :: rest) (t : Nat) :
    returned c t = { c with e := { c.e with cyc := t + 4, pc := p, stack := rest } } := by
  rw [returned, h]; rfl

theorem endRun_runs (s : State) (id : EngId) (f : BFields) : RunsAs s id (.endRun id f) (fun _ => {}) (fun c t => closeRun c (t + 1) false) :=
  ⟨rfl, rfl⟩

/-! What a branch, a call and a return do (R121, R123) -/

section
variable {s : State} {id : EngId} {f : BFields} {c : Ctx} (hon : OnEngine s id c)
include hon

theorem br_moves (hwf : (Instr.br id f).wf = true) (ht : InTime { conds := if f.cnd then [f.cb.toNat] else [] } c) :
    ∃ t, exec (.br id f) s = .next t ∧ MovedOnly id c s t (engineOf (t.region id.er) id.n) ∧
      (engineOf (t.region id.er) id.n).pc = (if taken f c then f.tgt else c.e.pc + 8) ∧ (engineOf (t.region id.er) id.n).stack = c.e.stack ∧
      (engineOf (t.region id.er) id.n).cyc =
        issueCycle c.e { conds := if f.cnd then [f.cb.toNat] else [] } + (if taken f c then 4 else 1) :=
  (br_runs s id f).moves hwf hon ht (by cases taken f c <;> rfl)

theorem call_moves (hwf : (Instr.call id f).wf = true) (ht : InTime {} c) :
    ∃ t, exec (.call id f) s = .next t ∧ MovedOnly id c s t (engineOf (t.region id.er) id.n) ∧
      (engineOf (t.region id.er) id.n).pc = f.tgt ∧ (engineOf (t.region id.er) id.n).stack = (c.e.pc + 8) :: c.e.stack ∧
      (engineOf (t.region id.er) id.n).cyc = issueCycle c.e {} + 4 :=
  (call_runs s id f).moves hwf hon ht rfl

theorem ret_moves {p : W32} {rest : List W32} (hwf : (Instr.ret id f).wf = true) (ht : InTime {} c) (hstack : c.e.stack = p :: rest) :
    ∃ t, exec (.ret id f) s = .next t ∧ MovedOnly id c s t (engineOf (t.region id.er) id.n) ∧
      (engineOf (t.region id.er) id.n).pc = p ∧ (engineOf (t.region id.er) id.n).stack = rest ∧
      (engineOf (t.region id.er) id.n).cyc = issueCycle c.e {} + 4 :=
  (ret_runs s id f).moves hwf hon ht (returned_cons hstack _)

end

/-! ### Journal instructions -/

/-- The entry of a list that a journal instruction names (R119 rule 2). -/
def entryIndex (f : JFields) (c : Ctx) : Nat := (c.e.reg f.wa.toNat).toNat + f.idx.toNat

/-- The engine after a journal instruction on a list of the given length: `e` if the entry is on the list, else a fault counted. -/
def journalled (f : JFields) (len : Nat) (e : Engine) (c : Ctx) (t : Nat) : Engine :=
  (if entryIndex f c < len then e else c.e.fault).advance t 1

/-- The engine with its journal buffer replaced. -/
def Engine.withJournal (e : Engine) (outs sps banks : SMap (Option W32)) (evs : SMap (BitVec 16)) : Engine :=
  { e with outs := outs, sps := sps, banks := banks, evs := evs }

/-- What a journal instruction makes of its engine (R119 rule 2, R121, R127). -/
theorem RunsAs.journals {s : State} {id : EngId} {i : Instr} {need : Need} {f : JFields} {len : Ctx → Nat} {outs sps banks : Ctx → SMap (Option W32)}
    {evs : Ctx → SMap (BitVec 16)} (hi : RunsAs s id i (fun _ => need) (fun c t =>
      { c with e := journalled f (len c) (c.e.withJournal (outs c) (sps c) (banks c) (evs c)) c t }))
    (hwf : i.wf = true) {c : Ctx} (hon : OnEngine s id c) (ht : InTime need c) :
    ∃ t, exec i s = .next t ∧ GolupFrame id s t ∧
      (let e := engineOf (t.region id.er) id.n
       (RegsKept [] c.e e ∧ CondsKept [] c.e e ∧ e.pc = c.e.pc + 8 ∧ e.stack = c.e.stack ∧ e.scr = c.e.scr ∧ EngineRestKept c.e e ∧
         OverlayKept c.e e) ∧
       e.faults = (if entryIndex f c < len c then c.e.faults else satInc c.e.faults) ∧
       e.outs = (if entryIndex f c < len c then outs c else c.e.outs) ∧ e.sps = (if entryIndex f c < len c then sps c else c.e.sps) ∧
       e.banks = (if entryIndex f c < len c then banks c else c.e.banks) ∧ e.evs = (if entryIndex f c < len c then evs c else c.e.evs) ∧
       e.cyc = issueCycle c.e need + 1 ∧ ReadyKept c.e e ∧ e.busy = c.e.busy) := by
  have hrest : EngineRestKept c.e (journalled f (len c) (c.e.withJournal (outs c) (sps c) (banks c) (evs c)) c (issueCycle c.e need)) ∧
      (journalled f (len c) (c.e.withJournal (outs c) (sps c) (banks c) (evs c)) c (issueCycle c.e need)).view = c.e.view := by
    unfold journalled; split <;> exact ⟨⟨rfl, rfl, rfl, rfl, rfl, rfl, rfl⟩, rfl⟩
  obtain ⟨t, hexec, hframe, he⟩ := hi.engine hwf hon ht rfl hrest.1 hrest.2
  refine ⟨t, hexec, hframe, ?_⟩
  rw [he, journalled]
  split <;> exact ⟨⟨fun _ _ => rfl, fun _ _ _ => rfl, rfl, rfl, rfl, ⟨rfl, rfl, rfl, rfl, rfl, rfl, rfl⟩, rfl, rfl⟩, rfl, rfl, rfl, rfl, rfl, rfl,
    ⟨rfl, rfl, rfl⟩, rfl⟩

/-- The value that OUT writes: an output whose point is BOOL keeps bit [0] (R127). -/
def outValue (r : Region) (f : JFields) (c : Ctx) : W32 :=
  if typeOf r (c.k.outs.getD (entryIndex f c) 0).toNat = tyBool then (c.e.reg f.wb.toNat).setWidth 32 &&& 1 else (c.e.reg f.wb.toNat).setWidth 32

section
variable (s : State) (id : EngId) (f : JFields)

theorem out_runs : RunsAs s id (.out id f) (fun _ => { regs := [f.wa.toNat, f.wb.toNat] }) (fun c t =>
    { c with e := journalled f c.k.outs.length (c.e.withJournal (put none c.e.outs (entryIndex f c) (some (outValue (s.region id.er) f c)))
      c.e.sps c.e.banks c.e.evs) c t }) := ⟨rfl, rfl⟩

theorem lsp_runs : RunsAs s id (.lsp id f) (fun _ => { regs := [f.wa.toNat, f.wb.toNat] }) (fun c t =>
    { c with e := journalled f c.k.loops.length (c.e.withJournal c.e.outs
      (put none c.e.sps (entryIndex f c) (some ((c.e.reg f.wb.toNat).setWidth 32))) c.e.banks c.e.evs) c t }) := ⟨rfl, rfl⟩

theorem lbank_runs : RunsAs s id (.lbank id f) (fun _ => { regs := [f.wa.toNat, f.wb.toNat] }) (fun c t =>
    { c with e := journalled f c.k.loops.length (c.e.withJournal c.e.outs c.e.sps
      (put none c.e.banks (entryIndex f c) (some ((c.e.reg f.wb.toNat).setWidth 32 &&& 1))) c.e.evs) c t }) := ⟨rfl, rfl⟩

theorem event_runs : RunsAs s id (.event id f) (fun _ => { regs := [f.wa.toNat] }) (fun c t =>
    { c with e := journalled f c.k.events.length (c.e.withJournal c.e.outs c.e.sps c.e.banks
      (put 0 c.e.evs (entryIndex f c) (satInc (look 0 c.e.evs (entryIndex f c))))) c t }) := ⟨rfl, rfl⟩

end

/-- A list after an instruction that writes one entry if it is on the list. -/
theorem look_put_if {α : Type} [DecidableEq α] {d : α} {m : SMap α} (hm : tableWf d m = true) (i len : Nat) (v : α) (j : Nat) :
    look d (if i < len then put d m i v else m) j = if j = i ∧ i < len then v else look d m j := by
  split
  · rename_i hi
    by_cases hj : j = i
    · subst hj; rw [if_pos ⟨rfl, hi⟩]; exact look_put_self d m _ v hm
    · rw [if_neg (fun h => hj h.1)]; exact look_put_other d m v (Ne.symm hj)
  · rename_i hi; rw [if_neg (fun h => hi h.2)]

end Sys2Proof.Machine
end

section
open Sys2Proof Sys2Proof.Machine

/-- Settles O33: a branch, a call and a return move position, time and return stack alone. -/
theorem golupBranchesComplete : Obligations.GolupBranchesComplete := by
  intro s id f c hon
  refine ⟨fun hwf ht => ?_, fun hwf ht => ?_, fun p rest hwf ht hstack => ?_⟩
  · obtain ⟨t, hexec, hmoved, hpc, hstack, -⟩ := br_moves hon hwf ht
    exact ⟨t, hexec, hmoved, hpc.trans (if_congr taken_iff rfl rfl), hstack⟩
  · obtain ⟨t, hexec, hmoved, hpc, hstack, -⟩ := call_moves hon hwf ht
    exact ⟨t, hexec, hmoved, hpc, hstack⟩
  · obtain ⟨t, hexec, hmoved, hpc, hrest, -⟩ := ret_moves hon hwf ht hstack
    exact ⟨t, hexec, hmoved, hpc, hrest⟩

/-- Settles O35: each journal instruction writes its entry of its list, or counts. -/
theorem golupJournalInstructionsComplete : Obligations.GolupJournalInstructionsComplete := by
  intro s id f c hon hid
  obtain ⟨-, -, -, -, houts, hsps, hbanks, hevs, -⟩ := hon.engineWf
  refine ⟨fun ht => ?_, fun ht => ?_, fun ht => ?_, fun ht => ?_⟩
  · obtain ⟨t, hexec, hframe, hkept, hcounts, ho, hs, hb, hv, -⟩ := (out_runs s id f).journals hid hon ht
    simp only [ite_self] at hs hb hv
    exact ⟨t, hexec, hframe, hkept, hcounts, hs, hb, hv, fun j => by rw [ho]; exact look_put_if houts ..⟩
  · obtain ⟨t, hexec, hframe, hkept, hcounts, ho, hs, hb, hv, -⟩ := (lsp_runs s id f).journals hid hon ht
    simp only [ite_self] at ho hb hv
    exact ⟨t, hexec, hframe, hkept, hcounts, ho, hb, hv, fun j => by rw [hs]; exact look_put_if hsps ..⟩
  · obtain ⟨t, hexec, hframe, hkept, hcounts, ho, hs, hb, hv, -⟩ := (lbank_runs s id f).journals hid hon ht
    simp only [ite_self] at ho hs hv
    exact ⟨t, hexec, hframe, hkept, hcounts, ho, hs, hv, fun j => by rw [hb]; exact look_put_if hbanks ..⟩
  · obtain ⟨t, hexec, hframe, hkept, hcounts, ho, hs, hb, hv, -⟩ := (event_runs s id f).journals hid hon ht
    simp only [ite_self] at ho hs hb
    refine ⟨t, hexec, hframe, hkept, hcounts, ho, hs, hb, fun j => ?_⟩
    rw [hv]
    exact (look_put_if hevs ..).trans (ite_congr rfl (fun h => by rw [h.1]; rfl) fun _ => rfl)
end

section
/-! SUPPORT. Function blocks as effects on a context (R119 rule 3, R122, R129 to R134, R157). -/

namespace Sys2Proof.Machine

/-! ### What a block answers -/

/-- The condition bits that a block writes: C(`CQ`), and the next one of a block with two outputs. -/
def blockConds (f : FFields) (two q q2 : Bool) : List (Nat × Bool) := (f.cq.toNat, q) :: if two then [(f.cq.toNat + 1, q2)] else []

theorem blockConds_bits (f : FFields) (two q q2 : Bool) :
    (blockConds f two q q2).map (fun c => c.1 % 8) = f.cq.toNat :: if two then [(f.cq.toNat + 1) % 8] else [] := by
  have hcq : f.cq.toNat % 8 = f.cq.toNat := Nat.mod_eq_of_lt f.cq.isLt
  cases two <;> simp [blockConds, hcq]

/-- The engine after a block's outputs. -/
def blockAnswered (f : FFields) (two : Bool) (issue result : Nat) (wd : W64) (q q2 : Bool) (e : Engine) (t : Nat) : Engine :=
  ((e.answer f.wd.toNat wd (blockConds f two q q2) (t + result)).hold t [t + 32, t + issue + 31]).advance t issue

section
variable {e : Engine} (hw : EngineWf e) (f : FFields) (two : Bool) (issue result : Nat) (wd : W64) (q q2 : Bool) (t : Nat)

/-- What slots, position and time do not change, a block's outputs alone decide. -/
theorem blockAnswered_field {α : Type} (p : Engine → α) (hp : ∀ e l n pc, p { e with busy := l, cyc := n, pc := pc } = p e) :
    p (blockAnswered f two issue result wd q q2 e t) = p (e.answer f.wd.toNat wd (blockConds f two q q2) (t + result)) :=
  hp (e.answer f.wd.toNat wd (blockConds f two q q2) (t + result)) _ _ _

include hw

theorem blockAnswered_spec :
    let e' := blockAnswered f two issue result wd q q2 e t
    OperandsOnly e e' ∧ RegsKept [f.wd.toNat] e e' ∧ (f.wd ≠ 0 → e'.reg f.wd.toNat = wd) ∧
    CondsKept (f.cq.toNat :: if two then [(f.cq.toNat + 1) % 8] else []) e e' ∧ e'.cond f.cq.toNat = q ∧
    (two = true → e'.cond (f.cq.toNat + 1) = q2) ∧ e'.pc = e.pc + 8 ∧ e'.faults = e.faults := by
  have hreg (m : Nat) := blockAnswered_field (e := e) f two issue result wd q q2 t (fun e => e.reg m) fun _ _ _ _ => rfl
  have hcond (m : Nat) := blockAnswered_field (e := e) f two issue result wd q q2 t (fun e => e.cond m) fun _ _ _ _ => rfl
  have hfaults := blockAnswered_field (e := e) f two issue result wd q q2 t Engine.faults fun _ _ _ _ => rfl
  have hpc : (blockAnswered f two issue result wd q q2 e t).pc = (e.answer f.wd.toNat wd (blockConds f two q q2) (t + result)).pc + 8 := rfl
  intro e'
  refine ⟨?_, fun m hm => ?_, fun hwd => ?_, fun m hm hne => ?_, ?_, fun h2 => ?_, ?_, ?_⟩
  · exact (answer_operandsOnly ..).trans ((hold_operandsOnly ..).trans (advance_operandsOnly ..))
  · exact (hreg m).trans ((reg_answer _ _ _ _ hw.1 m).trans (if_neg (by simpa using hm)))
  · have hwd' : ¬f.wd.toNat = 0 := fun h => hwd (BitVec.eq_of_toNat_eq h)
    exact (hreg _).trans ((reg_answer _ _ _ _ hw.1 _).trans ((if_pos rfl).trans (if_neg hwd')))
  · exact (hcond m).trans (cond_answer_other _ _ _ _ hm fun c hc h => hne (blockConds_bits f two q q2 ▸ h ▸ List.mem_map_of_mem hc))
  · refine (hcond _).trans (cond_answer_self _ _ _ _ _ _ fun c hc => ?_)
    split at hc
    · rw [List.mem_singleton.1 hc]; show f.cq.toNat % 8 ≠ (f.cq.toNat + 1) % 8; omega
    · cases hc
  · refine (hcond _).trans ?_
    rw [h2]
    exact cond_answer_second ..
  · exact hpc.trans (by rw [answer_pc])
  · exact hfaults.trans (by rw [answer_faults])

theorem blockAnswered_ready :
    let e' := blockAnswered f two issue result wd q q2 e t
    (∀ r, look 0 e'.readyW r = if r ∈ [f.wd.toNat] ∧ r ≠ 0 then t + result else look 0 e.readyW r) ∧
    (∀ k, k < 8 → look 0 e'.readyC k =
      if k ∈ (f.cq.toNat :: if two then [(f.cq.toNat + 1) % 8] else []) then t + result else look 0 e.readyC k) ∧
    e'.loadW = e.loadW ∧ e'.cyc = t + issue ∧ SlotsHeld e e' t [t + 32, t + issue + 31] := by
  have hreadyW := blockAnswered_field (e := e) f two issue result wd q q2 t Engine.readyW fun _ _ _ _ => rfl
  have hreadyC := blockAnswered_field (e := e) f two issue result wd q q2 t Engine.readyC fun _ _ _ _ => rfl
  have hloadW := blockAnswered_field (e := e) f two issue result wd q q2 t Engine.loadW fun _ _ _ _ => rfl
  have hbusy : (blockAnswered f two issue result wd q q2 e t).busy =
      (e.answer f.wd.toNat wd (blockConds f two q q2) (t + result)).busy.filter (fun u => decide (t < u)) ++ [t + 32, t + issue + 31] := rfl
  intro e'
  refine ⟨fun r => ?_, fun k _ => ?_, hloadW.trans (answer_loadW ..), rfl, hbusy.trans (by rw [answer_busy])⟩
  · rw [hreadyW, look_readyW_answer _ _ _ _ hw.2.1]
    exact if_congr (by simp) rfl rfl
  · rw [hreadyC, look_readyC_answer _ _ _ _ hw.2.2.1]
    refine if_congr ?_ rfl rfl
    rw [← blockConds_bits f two q q2]
    simp

end

/-! ### The rows of format F -/

section
variable (row : BlockRow) (f : FFields) (c : Ctx)

/-- What a row of format F scans and gives. -/
def blockOut : FbOut := row.value f c (fbIn c f) (fbRead c (fbAddr c f))

/-- The context before the outputs: valid instances are written back, invalid ones count (R119 rule 3). -/
def blockBase : Ctx :=
  if fbOk c f row.kind then writeVar c (fbAddr c f) (fbBytes c (fbAddr c f) (blockOut row f c).inst) else { c with e := c.e.fault }

/-- What a row of format F makes of the context: zeros come of invalid instances. -/
def blockEffect (t : Nat) : Ctx :=
  let ok := fbOk c f row.kind
  let o := blockOut row f c
  { blockBase row f c with
    e := blockAnswered f (row.kind == 0x86) (row.issue f) (row.result f) (if ok then o.wd else 0) (ok && o.q) (ok && o.q2) (blockBase row f c).e t }

theorem fbOk_iff (kind : Nat) : fbOk c f kind = true ↔ fbAddr c f < 2 ^ 64 ∧ fbAddr c f % 32 = 0 ∧
    fbAddr c f + 32 ≤ c.k.vsize ∧ (c.vars.read (fbAddr c f + 3)).toNat = kind := by
  simp [fbOk, and_assoc]

theorem fbBytes_eq (a : Nat) (x : FbInst) :
    fbBytes c a x = keepBytes c.vars (fun b => touchesForced c.x.forced b 1) a (wordBytes [x.w0, x.v, x.last, x.pvl]) := rfl

theorem fbBytes_length (a : Nat) (x : FbInst) : (fbBytes c a x).length = 32 := by
  rw [fbBytes_eq, keepBytes_length]; simp [wordBytes]

theorem blockBase_e : ∃ sig, (blockBase row f c).e =
    { c.e with sig := sig, faults := if fbOk c f row.kind then c.e.faults else satInc c.e.faults } := by
  unfold blockBase
  split
  · exact ⟨_, writeVar_e ..⟩
  · exact ⟨_, rfl⟩

theorem blockBase_key : (blockBase row f c).x.slot = c.x.slot ∧ (blockBase row f c).x.no = c.x.no := by
  unfold blockBase
  split
  · exact writeVar_key ..
  · exact ⟨rfl, rfl⟩

variable {row f c}

/-- The 32 bytes scanned are written back but for forced ones (R157). -/
theorem blockBase_read (hm : c.vars.wf = true) (b : Nat) :
    (blockBase row f c).vars.read b =
      if fbOk c f row.kind = true ∧ fbAddr c f ≤ b ∧ b < fbAddr c f + 32 ∧ touchesForced c.x.forced b 1 = false then
        (wordBytes [(blockOut row f c).inst.w0, (blockOut row f c).inst.v, (blockOut row f c).inst.last, (blockOut row f c).inst.pvl]).getD
          (b - fbAddr c f) 0
      else c.vars.read b := by
  unfold blockBase
  split
  · rename_i hok
    rw [writeVar_vars, fbBytes_eq, Mem.read_write_keepBytes hm]
    simp [wordBytes, hok]
  · rename_i hok
    rw [if_neg fun h => hok h.1]

/-- The signature takes the bytes that a valid block writes back (R197). -/
theorem blockBase_sig (hm : c.vars.wf = true) :
    (fbOk c f row.kind = true → (blockBase row f c).e.sig = signBytes c.e.sig (fbAddr c f) 32
      ((List.range 32).map (fun k => (blockBase row f c).vars.read (fbAddr c f + k)))) ∧
    (¬fbOk c f row.kind = true → (blockBase row f c).e.sig = c.e.sig ∧ (blockBase row f c).vars = c.vars) := by
  constructor
  · intro h
    rw [blockBase, if_pos h, writeVar_sig hm, fbBytes_length]
  · intro h
    rw [blockBase, if_neg h]
    exact ⟨rfl, rfl⟩

end

/-- An instruction of format F whose need, scan and columns are a row's runs as the row says. -/
theorem runsAs_block {s : State} {id : EngId} {row : BlockRow} {f : FFields} {i : Instr} {need : Ctx → Need} (conds regs : List Nat)
    (scan : FbIn → FbInst → FbOut) (hid : golupEngine i = some id)
    (hexec : exec i s = opF id f i.wf row.kind (row.issue f) conds regs (row.kind == 0x86) scan s)
    (hneed : need = fun _ => { regs := f.wa.toNat :: regs, conds := conds, writes := [f.wd.toNat], slots := 2 })
    (hscan : row.value f = fun _ => scan) (hresult : row.result f = row.issue f) : RunsAs s id i need (blockEffect row f) := by
  refine ⟨hid, hexec.trans ?_⟩
  rw [hneed]
  unfold opF
  congr 1
  funext c t
  unfold blockEffect blockBase blockOut
  rw [hscan, hresult]
  cases fbOk c f row.kind <;> cases row.kind == 0x86 <;> rfl

theorem blockRow_runs (s : State) (id : EngId) (f : FFields) : ∀ row ∈ blockRows, RunsAs s id (row.instr id f) (row.need f) (blockEffect row f) := by
  simp only [blockRows, List.forall_mem_cons, List.not_mem_nil, false_imp_iff, implies_true, and_true]
  refine ⟨?_, ?_, ?_, ?_, ?_, ?_, ?_, ?_, ?_, ?_, ?_⟩ <;> exact runsAs_block _ _ _ rfl rfl rfl rfl rfl

end Sys2Proof.Machine
end

section
/-! SUPPORT. A function block on its region, and the timers' rule (R119 rule 3, R129 to R131). -/

namespace Sys2Proof.Machine

/-! ### A block that issues in time -/

/-- The engine after a row of format F, but for its overlay. -/
theorem blockEffect_spec {c : Ctx} (hw : EngineWf c.e) (row : BlockRow) (f : FFields) (t : Nat) :
    let e' := (blockEffect row f c t).e
    let ok := fbOk c f row.kind
    EngineRestKept c.e e' ∧ e'.stack = c.e.stack ∧ e'.scr = c.e.scr ∧ JournalKept c.e e' ∧ e'.sig = (blockBase row f c).e.sig ∧
    e'.view = c.e.view ∧ RegsKept [f.wd.toNat] c.e e' ∧ (f.wd ≠ 0 → e'.reg f.wd.toNat = if ok then (blockOut row f c).wd else 0) ∧
    CondsKept (f.cq.toNat :: if row.kind == 0x86 then [(f.cq.toNat + 1) % 8] else []) c.e e' ∧
    e'.cond f.cq.toNat = (ok && (blockOut row f c).q) ∧ (row.kind = 0x86 → e'.cond (f.cq.toNat + 1) = (ok && (blockOut row f c).q2)) ∧
    e'.pc = c.e.pc + 8 ∧ e'.faults = if ok then c.e.faults else satInc c.e.faults := by
  obtain ⟨sig, hbase⟩ := blockBase_e row f c
  unfold blockEffect
  simp only [hbase]
  obtain ⟨hkept, hregs, hreg, hconds, hcond, hcond2, hpc, hfaults⟩ := blockAnswered_spec
    (e := { c.e with sig := sig, faults := if fbOk c f row.kind then c.e.faults else satInc c.e.faults }) hw f (row.kind == 0x86)
    (row.issue f) (row.result f) (if fbOk c f row.kind then (blockOut row f c).wd else 0) (fbOk c f row.kind && (blockOut row f c).q)
    (fbOk c f row.kind && (blockOut row f c).q2) t
  exact ⟨hkept.rest, hkept.stack, hkept.scr, hkept.journal, hkept.overlay.1, hkept.overlay.2, hregs, hreg, hconds, hcond,
    fun h => hcond2 (beq_iff_eq.2 h), hpc, hfaults⟩

/-- When a block's outputs are ready, and the slots it holds (R121, R122). -/
theorem blockEffect_ready {c : Ctx} (hw : EngineWf c.e) (row : BlockRow) (f : FFields) (t : Nat) :
    let e' := (blockEffect row f c t).e
    (∀ r, look 0 e'.readyW r = if r ∈ [f.wd.toNat] ∧ r ≠ 0 then t + row.result f else look 0 c.e.readyW r) ∧
    (∀ k, k < 8 → look 0 e'.readyC k =
      if k ∈ (f.cq.toNat :: if row.kind == 0x86 then [(f.cq.toNat + 1) % 8] else []) then t + row.result f else look 0 c.e.readyC k) ∧
    e'.loadW = c.e.loadW ∧ e'.cyc = t + row.issue f ∧ SlotsHeld c.e e' t [t + 32, t + row.issue f + 31] := by
  obtain ⟨sig, hbase⟩ := blockBase_e row f c
  unfold blockEffect
  simp only [hbase]
  exact blockAnswered_ready (e := { c.e with sig := sig, faults := if fbOk c f row.kind then c.e.faults else satInc c.e.faults }) hw ..

/-- The condition bits of a row, by its kind: CTUD alone writes two. -/
theorem blockRow_conds (row : BlockRow) (f : FFields) :
    (f.cq.toNat :: if row.kind == 0x86 then [(f.cq.toNat + 1) % 8] else []) =
      f.cq.toNat :: if row.kind = 0x86 then [(f.cq.toNat + 1) % 8] else [] := congrArg _ (if_congr beq_iff_eq rfl rfl)

theorem and_eq_decide {x b : Bool} {p : Prop} [Decidable (p ∧ b = true)] (h : x = true ↔ p) : (x && b) = decide (p ∧ b = true) := by
  simp only [← h, ← Bool.and_eq_true, Bool.decide_eq_true]

/-- A row of format F that issues in time: its run's variables and its engine, but for the overlay of a re-execution. -/
theorem blockRow_stores {row : BlockRow} (hrow : row ∈ blockRows) {s : State} {id : EngId} {f : FFields} {c : Ctx}
    (hwf : (row.instr id f).wf = true) (hon : OnEngine s id c) (ht : InTime (row.need f c) c) :
    ∃ t, exec (row.instr id f) s = .next t ∧ GolupStoreFrame id c s t ∧ seenVars (t.region id.er) id.n c = (blockBase row f c).vars ∧
      engineOf (t.region id.er) id.n = { (blockEffect row f c (issueCycle c.e (row.need f c))).e with
        view := if c.e.redo then (blockBase row f c).vars else c.e.view } := by
  obtain ⟨hrest, -, -, -, -, hview, -⟩ := blockEffect_spec hon.engineWf row f (issueCycle c.e (row.need f c))
  obtain ⟨t, hexec, hframe, hvars, he⟩ := (blockRow_runs s id f row hrow).store hwf hon ht rfl hrest (blockBase_key ..)
  exact ⟨t, hexec, hframe, hvars, by rw [he, hview, hrest.2.1]; rfl⟩

/-- A row of format F whose block is valid answers what its scan gives. -/
theorem blockRow_valid {row : BlockRow} (hrow : row ∈ blockRows) {s : State} {id : EngId} {f : FFields} {c : Ctx}
    (hwf : (row.instr id f).wf = true) (hon : OnEngine s id c) (ht : InTime (row.need f c) c) (hok : fbOk c f row.kind = true) :
    ∃ t, exec (row.instr id f) s = .next t ∧ (engineOf (t.region id.er) id.n).cond f.cq.toNat = (blockOut row f c).q ∧
      (f.wd ≠ 0 → (engineOf (t.region id.er) id.n).reg f.wd.toNat = (blockOut row f c).wd) := by
  obtain ⟨-, -, -, -, -, -, -, hreg, -, hcond, -⟩ := blockEffect_spec hon.engineWf row f (issueCycle c.e (row.need f c))
  obtain ⟨t, hexec, -, -, he⟩ := blockRow_stores hrow hwf hon ht
  refine ⟨t, hexec, ?_⟩
  rw [he]
  generalize (blockEffect row f c (issueCycle c.e (row.need f c))).e = e' at *
  rw [hok] at hreg hcond
  exact ⟨hcond, hreg⟩

end Sys2Proof.Machine
end

section
open Sys2Proof Sys2Proof.Machine

/-- Settles O36: what a row of format F makes of its context, by whether the block is valid. -/
theorem golupFunctionBlocksComplete : Obligations.GolupFunctionBlocksComplete := by
  intro row hrow s id f c hwf hon ht
  have hok := fbOk_iff f c row.kind
  obtain ⟨hrest, hstack, hscr, hjournal, hsig, -, hregs, hreg, hconds, hcond, hcond2, hpc, hfaults⟩ :=
    blockEffect_spec hon.engineWf row f (issueCycle c.e (row.need f c))
  obtain ⟨hsigned, hkept⟩ := blockBase_sig (row := row) (f := f) hon.varsWf
  obtain ⟨t, hexec, hframe, hvars, he⟩ := blockRow_stores hrow hwf hon ht
  refine ⟨t, hexec, hframe, ?_⟩
  rw [he, hvars]
  generalize (blockEffect row f c (issueCycle c.e (row.need f c))).e = e' at *
  refine ⟨fun b => ?_, hregs, fun hwd => ?_, blockRow_conds row f ▸ hconds, ?_, fun h2 => ?_, ?_, hpc, hstack, hscr, hjournal, hrest, fun h => ?_, fun h => ?_⟩
  · refine (blockBase_read hon.varsWf b).trans (if_congr ?_ rfl rfl)
    rw [hok]; rfl
  · exact (hreg hwd).trans (if_congr hok rfl rfl)
  · exact hcond.trans (and_eq_decide hok)
  · exact (hcond2 h2).trans (and_eq_decide hok)
  · exact hfaults.trans (if_congr hok rfl rfl)
  · exact ⟨hsig.trans (hsigned (hok.2 h)), fun hredo => if_neg (by rw [hredo]; decide)⟩
  · obtain ⟨hsig', hv⟩ := hkept (fun h' => h (hok.1 h'))
    refine ⟨hsig.trans hsig', ?_⟩
    show (if c.e.redo then (blockBase row f c).vars else c.e.view) = c.e.view
    split
    · rename_i hredo; rw [hv, hon.vars, if_pos hredo]
    · rfl
end

section
/-! SUPPORT. The timers TON, TOF and TP after their first scan (R131). -/

namespace Sys2Proof.Machine

/-! ### A bit of a word -/

theorem testBit_two_mul_add (a m : Nat) (b : Bool) : (2 * a + b.toNat).testBit m = if m = 0 then b else a.testBit (m - 1) := by
  cases m with
  | zero => cases b <;> simp [Nat.testBit_zero]
  | succ m =>
    have hdiv : (2 * a + b.toNat) / 2 = a := by have := b.toNat_lt; omega
    rw [Nat.testBit_succ, hdiv]; rfl

/-- A number with bit n replaced: the bits above, the new bit, the bits below. -/
theorem replaceBit_eq (x n b : Nat) : x - x / 2 ^ n % 2 * 2 ^ n + b * 2 ^ n = 2 ^ n * (2 * (x / 2 ^ n / 2) + b) + x % 2 ^ n := by
  have hx := Nat.div_add_mod x (2 ^ n)
  have hq := Nat.div_add_mod (x / 2 ^ n) 2
  have hmul : 2 ^ n * (x / 2 ^ n) = 2 ^ n * (2 * (x / 2 ^ n / 2)) + x / 2 ^ n % 2 * 2 ^ n := by
    rw [Nat.mul_comm (_ % 2), ← Nat.mul_add, hq]
  rw [Nat.mul_add, Nat.mul_comm b]
  omega

theorem testBit_replaceBit (x n m : Nat) (b : Bool) :
    (x - x / 2 ^ n % 2 * 2 ^ n + b.toNat * 2 ^ n).testBit m = if m = n then b else x.testBit m := by
  have hr : x % 2 ^ n < 2 ^ n := Nat.mod_lt x (Nat.two_pow_pos n)
  have hx : x.testBit m = if m < n then (x % 2 ^ n).testBit m else (x / 2 ^ n).testBit (m - n) := by
    rw [← Nat.testBit_two_pow_mul_add _ hr, Nat.div_add_mod]
  have hq : (x / 2 ^ n).testBit (m - n) = if m - n = 0 then (x / 2 ^ n).testBit 0 else (x / 2 ^ n / 2).testBit (m - n - 1) := by
    cases m - n with
    | zero => rfl
    | succ k => rw [Nat.testBit_succ]; rfl
  rw [replaceBit_eq, Nat.testBit_two_pow_mul_add _ hr, testBit_two_mul_add, hx, hq]
  split <;> rename_i h
  · rw [if_neg (by omega)]
  · split <;> rename_i h'
    · rw [if_pos (by omega)]
    · rw [if_neg (by omega)]

/-- A bit of a word after one bit was set. -/
theorem bit_setBit {w : Nat} (x : BitVec w) {n : Nat} (hn : n < w) (b : Bool) (m : Nat) : bit (setBit x n b) m = if m = n then b else bit x m := by
  have hwidth : n + 1 - n = 1 := by omega
  have hb : b.toNat % 2 ^ 1 = b.toNat := Nat.mod_eq_of_lt b.toNat_lt
  rw [bit, setBit, setBits, bits, hwidth, BitVec.toNat_ofNat, Nat.testBit_mod_two_pow, hb, Nat.pow_one, testBit_replaceBit]
  split
  · rename_i h; rw [h, decide_eq_true hn, Bool.true_and]
  · by_cases hm : m < w
    · rw [decide_eq_true hm, Bool.true_and]; rfl
    · have hx : bit x m = false := Nat.testBit_lt_two_pow (lt_of_lt_of_le x.isLt (Nat.pow_le_pow_right (by omega) (by omega)))
      rw [decide_eq_false hm, Bool.false_and, hx]

/-! ### The timers' rule -/

/-- A scan after the first one: the rule on preset, elapsed time, interval, input, previous input and Q (R130, R131). -/
theorem timerScan_eq (rule : TimerRule) (i : FbIn) {x : FbInst} (h : bit x.w0 fInit = true) :
    let y := rule (max 0 i.b.toInt) x.v.toInt (if bit x.w0 fLastv then i.xtime.toInt - x.last.toInt else 0) i.ci (bit x.w0 fPin) (bit x.w0 fQ)
    timerScan rule i x = ⟨⟨setBit (x.mark y.2 i.ci) fLastv true, BitVec.ofInt 64 y.1, i.xtime, BitVec.ofInt 64 (max 0 i.b.toInt)⟩,
      y.2, false, BitVec.ofInt 64 y.1⟩ := by
  have hfirst : x.first = false := by rw [FbInst.first, h]; rfl
  have hdt : x.dt i.xtime = if bit x.w0 fLastv then i.xtime.toInt - x.last.toInt else 0 := by
    rw [FbInst.dt, hfirst]; cases bit x.w0 fLastv <;> rfl
  intro y
  unfold timerScan
  rw [hdt, hfirst]
  rfl

/-- What a timer keeps for its next scan, whatever its rule (R129 to R131). -/
theorem timerScan_keeps (rule : TimerRule) (i : FbIn) {x : FbInst} (h : bit x.w0 fInit = true) :
    let o := timerScan rule i x
    bit o.inst.w0 fPin = i.ci ∧ bit o.inst.w0 fQ = o.q ∧ bit o.inst.w0 fLastv = true ∧ bit o.inst.w0 fInit = true ∧
    o.inst.last = i.xtime ∧ o.inst.pvl.toInt = max 0 i.b.toInt ∧ o.inst.v = o.wd := by
  have hb := BitVec.toInt_le (x := i.b)
  have hpvl : (BitVec.ofInt 64 (max 0 i.b.toInt)).toInt = max 0 i.b.toInt := by
    rw [BitVec.toInt_ofInt]
    exact Int.bmod_eq_of_le_mul_two (by omega) (by omega)
  rw [timerScan_eq rule i h]
  simp [FbInst.mark, bit_setBit, fInit, fQ, fPin, fLastv, hpvl]

theorem timerScan_out (rule : TimerRule) (i : FbIn) {x : FbInst} (h : bit x.w0 fInit = true) {ci pin q : Bool} (hci : i.ci = ci)
    (hpin : bit x.w0 fPin = pin) (hq : bit x.w0 fQ = q) {et : Int} {qn : Bool}
    (hrule : rule (max 0 i.b.toInt) x.v.toInt (if bit x.w0 fLastv then i.xtime.toInt - x.last.toInt else 0) ci pin q = (et, qn)) :
    (timerScan rule i x).wd = BitVec.ofInt 64 et ∧ (timerScan rule i x).q = qn := by
  subst hci hpin hq
  rw [timerScan_eq rule i h, hrule]
  exact ⟨rfl, rfl⟩

section
variable (pt et dt : Int) (pin q : Bool)

theorem tonRule_timing : tonRule pt et dt true true q = (min pt (et + dt), decide (pt ≤ et + dt)) :=
  Prod.ext rfl (decide_eq_decide.2 (show min pt (et + dt) ≥ pt ↔ _ by omega))

theorem tonRule_rise : tonRule pt et dt true false q = (0, decide (pt ≤ 0)) := rfl
theorem tonRule_off : tonRule pt et dt false pin q = (0, false) := rfl
theorem tofRule_on : tofRule pt et dt true pin q = (0, true) := rfl
theorem tofRule_fall : tofRule pt et dt false true q = (0, decide (0 < pt)) := rfl

theorem tofRule_timing : tofRule pt et dt false false true = (min pt (et + dt), decide (et + dt < pt)) :=
  Prod.ext rfl (decide_eq_decide.2 (show min pt (et + dt) < pt ↔ _ by omega))

theorem tofRule_idle : tofRule pt et dt false false false = (et, false) := rfl

theorem tpRule_timing (ci : Bool) : tpRule pt et dt ci pin true = (min pt (et + dt), decide (et + dt < pt)) :=
  Prod.ext rfl (decide_eq_decide.2 (show min pt (et + dt) < pt ↔ _ by omega))

theorem tpRule_rise : tpRule pt et dt true false false = (0, decide (0 < pt)) := rfl
theorem tpRule_off : tpRule pt et dt false pin false = (0, false) := rfl
theorem tpRule_held : tpRule pt et dt true true false = (et, false) := rfl

end

/-- The row of a timer. -/
def timerRow (k : Nat × (EngId → FFields → Instr) × TimerRule) : BlockRow :=
  { instr := k.2.1, kind := k.1, issue := fun _ => 38, result := fun _ => 38,
    need := needBlock (fun f => [f.wb.toNat]) (fun f => [f.ci.toNat]), value := fun _ _ => timerScan k.2.2 }

theorem timerRow_mem {k : Nat × (EngId → FFields → Instr) × TimerRule}
    (hk : k ∈ [(0x80, Instr.ton, tonRule), (0x81, Instr.tof, tofRule), (0x82, Instr.tp, tpRule)]) : timerRow k ∈ blockRows := by
  simp only [List.mem_cons, List.not_mem_nil, or_false] at hk
  rcases hk with rfl | rfl | rfl
  · exact List.mem_cons_self
  · exact List.mem_cons_of_mem _ List.mem_cons_self
  · exact List.mem_cons_of_mem _ (List.mem_cons_of_mem _ List.mem_cons_self)

end Sys2Proof.Machine
end

section
open Sys2Proof Sys2Proof.Machine

/-- Settles O37: the rule of each timer, case by case of input, previous input and Q; and the three instructions as rows of format F. -/
theorem timersFollowTheirRules : Obligations.TimersFollowTheirRules := by
  refine ⟨fun i x hinit => ?_, ?_⟩
  · have hkeeps (rule : TimerRule) := timerScan_keeps rule i hinit
    have hle : max 0 i.b.toInt ≤ 0 ↔ i.b.toInt ≤ 0 := by omega
    have hlt : 0 < max 0 i.b.toInt ↔ 0 < i.b.toInt := by omega
    have hv : BitVec.ofInt 64 x.v.toInt = x.v := BitVec.ofInt_toInt
    intro pt dt et pin q on off pulse later
    have hton (hci : i.ci = true) (hpin : pin = true) : on.wd = later ∧ on.q = decide (pt ≤ et + dt) :=
      timerScan_out tonRule i hinit hci hpin rfl (tonRule_timing ..)
    have htof (hci : i.ci = false) (hpin : pin = false) (hq : q = true) : off.wd = later ∧ off.q = decide (et + dt < pt) :=
      timerScan_out tofRule i hinit hci hpin hq (tofRule_timing ..)
    have htp (hq : q = true) : pulse.wd = later ∧ pulse.q = decide (et + dt < pt) :=
      timerScan_out tpRule i hinit rfl rfl hq (tpRule_timing ..)
    refine ⟨by simpa using ⟨hkeeps tonRule, hkeeps tofRule, hkeeps tpRule⟩, hton, fun hci hpin => ?_, fun hci => ?_, fun hci => ?_, fun hci hpin => ?_,
      htof, fun hci hpin hq => ?_, htp, fun hq hci hpin => ?_, fun hq hci => ?_, fun hq hci hpin => ?_, fun hreached hdt => ?_⟩
    · rw [← decide_eq_decide.2 hle]; exact timerScan_out tonRule i hinit hci hpin rfl (tonRule_rise ..)
    · exact timerScan_out tonRule i hinit hci rfl rfl (tonRule_off ..)
    · exact timerScan_out tofRule i hinit hci rfl rfl (tofRule_on ..)
    · rw [← decide_eq_decide.2 hlt]; exact timerScan_out tofRule i hinit hci hpin rfl (tofRule_fall ..)
    · rw [← hv]; exact timerScan_out tofRule i hinit hci hpin hq (tofRule_idle ..)
    · rw [← decide_eq_decide.2 hlt]; exact timerScan_out tpRule i hinit hci hpin hq (tpRule_rise ..)
    · exact timerScan_out tpRule i hinit hci rfl hq (tpRule_off ..)
    · rw [← hv]; exact timerScan_out tpRule i hinit hci hpin hq (tpRule_held ..)
    · have hdone : pt ≤ et + dt := by omega
      refine ⟨fun hci hpin => ?_, fun hci hpin => ?_, fun hq => ?_⟩
      · rw [(hton hci hpin).2, decide_eq_true hdone]
      · cases hq : q
        · exact (timerScan_out tofRule i hinit hci hpin hq (tofRule_idle ..)).2
        · rw [(htof hci hpin hq).2, decide_eq_false (by omega)]
      · rw [(htp hq).2, decide_eq_false (by omega)]
  · intro k hk s id f c hwf hon ht a ha halign hlen hkind
    have hok : fbOk c f k.1 = true := (fbOk_iff f c k.1).2 ⟨ha, halign, hlen, hkind⟩
    obtain ⟨t, hexec, hq, hwd⟩ := blockRow_valid (timerRow_mem hk) hwf hon ht hok
    exact ⟨t, hexec, fbIn c f, rfl, rfl, rfl, hq, hwd⟩
end

section
/-! SUPPORT. The issue cycle (R122): the least cycle at which operands are ready and slots are free. -/

namespace Sys2Proof.Machine

/-! ### Operands -/

theorem foldl_max_le_iff {α : Type} (g : α → Nat) (l : List α) (s t : Nat) :
    l.foldl (fun s r => max s (g r)) s ≤ t ↔ s ≤ t ∧ ∀ r ∈ l, g r ≤ t := by
  induction l generalizing s with
  | nil => simp
  | cons r l ih => rw [List.foldl_cons, ih, Nat.max_le, List.forall_mem_cons, and_assoc]

/-- An instruction that holds no slot may issue at a cycle if and only if nothing that it waits for is later (R122). -/
theorem issueCycle_le_iff (e : Engine) {n : Need} (hn : n.slots = 0) (t : Nat) :
    issueCycle e n ≤ t ↔ e.cyc ≤ t ∧ (∀ r ∈ n.regs, look 0 e.readyW r ≤ t) ∧ (∀ c ∈ n.conds, look 0 e.readyC (c % 8) ≤ t) ∧
      ∀ r ∈ n.writes, look 0 e.loadW r ≤ t := by
  simp only [issueCycle, if_pos hn, foldl_max_le_iff, and_assoc]

/-- An instruction that holds slots issues at their cycle, from the one at which its operands are ready on. -/
theorem issueCycle_slots (e : Engine) {n : Need} (hn : n.slots ≠ 0) :
    issueCycle e n = slotCycle e.busy n.slots (issueCycle e { n with slots := 0 }) := if_neg hn

/-! ### Slots -/

theorem foldl_min_le_iff (l : List Nat) (s t : Nat) : t ≤ l.foldl min s ↔ t ≤ s ∧ ∀ u ∈ l, t ≤ u := by
  induction l generalizing s with
  | nil => simp
  | cons u l ih => rw [List.foldl_cons, ih, Nat.le_min, List.forall_mem_cons, and_assoc]

theorem foldl_min_mem (l : List Nat) (s : Nat) : l.foldl min s = s ∨ l.foldl min s ∈ l := by
  induction l generalizing s with
  | nil => exact .inl rfl
  | cons u l ih =>
    rcases ih (min s u) with h | h
    · rw [List.foldl_cons, h, List.mem_cons]
      rcases Nat.le_total s u with hu | hu
      · exact .inl (Nat.min_eq_left hu)
      · exact .inr (.inl (Nat.min_eq_right hu))
    · exact .inr (List.mem_cons_of_mem _ h)

/-- Once every slot was freed, all 16 are free. -/
theorem freeSlots_of_forall_le {busy : List Nat} {t : Nat} (h : ∀ u ∈ busy, u ≤ t) : freeSlots busy t = 16 := by
  have : busy.filter (fun u => decide (t < u)) = [] := List.filter_eq_nil_iff.2 fun u hu => by simpa using h u hu
  rw [freeSlots, this]; rfl

/-- At a cycle at which no slot becomes free, as many are free as one cycle before. -/
theorem freeSlots_succ_of_notMem {busy : List Nat} {t : Nat} (h : t + 1 ∉ busy) : freeSlots busy (t + 1) = freeSlots busy t := by
  have : busy.filter (fun u => decide (t + 1 < u)) = busy.filter (fun u => decide (t < u)) :=
    List.filter_congr fun u hu => decide_eq_decide.2 ⟨fun hu' => by omega, fun hu' => by
      have : u ≠ t + 1 := fun he => h (he ▸ hu)
      omega⟩
  rw [freeSlots, freeSlots, this]

section
variable {busy : List Nat} {n s : Nat}

theorem le_slotCycle : s ≤ slotCycle busy n s := by
  unfold slotCycle
  split
  · exact Nat.le_refl s
  · refine (foldl_min_le_iff ..).2 ⟨((foldl_max_le_iff id busy s _).1 (Nat.le_refl _)).1, fun u hu => ?_⟩
    simp only [List.mem_filter, Bool.and_eq_true, decide_eq_true_eq] at hu
    omega

/-- At the slot cycle the slots that are wanted, at most all, are free (R122 rule 4). -/
theorem le_freeSlots_slotCycle (hn : n ≤ 16) : n ≤ freeSlots busy (slotCycle busy n s) := by
  unfold slotCycle
  split
  · assumption
  · rcases foldl_min_mem (busy.filter fun t => decide (s < t) && decide (n ≤ freeSlots busy t)) (busy.foldl max s) with h | h
    · have hall : ∀ u ∈ busy, u ≤ busy.foldl max s := ((foldl_max_le_iff id busy s _).1 (Nat.le_refl _)).2
      rw [h, freeSlots_of_forall_le hall]
      exact hn
    · simp only [List.mem_filter, Bool.and_eq_true, decide_eq_true_eq] at h
      exact h.2.2

/-- No earlier cycle has as many free: slots become free at a cycle that one is held until, and nowhere else. -/
theorem slotCycle_le {t : Nat} (hst : s ≤ t) (ht : n ≤ freeSlots busy t) : slotCycle busy n s ≤ t := by
  unfold slotCycle
  split
  · exact hst
  · rename_i hs
    induction t, hst using Nat.le_induction with
    | base => exact absurd ht hs
    | succ t hst ih =>
      by_cases hmem : t + 1 ∈ busy
      · refine ((foldl_min_le_iff _ _ _).1 (Nat.le_refl _)).2 (t + 1) ?_
        simp only [List.mem_filter, Bool.and_eq_true, decide_eq_true_eq]
        exact ⟨hmem, by omega, ht⟩
      · rw [freeSlots_succ_of_notMem hmem] at ht
        exact Nat.le_succ_of_le (ih ht)

end

end Sys2Proof.Machine
end

section
open Sys2Proof Sys2Proof.Machine

/-- Settles O31: the issue cycle is the least upper bound of what an instruction waits for, then the first cycle with its slots; and each
row's effect gives the cycles of its columns. -/
theorem issueCycleIsTheFirstThatIsReady : Obligations.IssueCycleIsTheFirstThatIsReady := by
  refine ⟨fun e n hn => ?_, fun e n hpos hle => ?_, fun s id c hon => ?_⟩
  · obtain ⟨hcyc, hregs, hconds, hwrites⟩ := (issueCycle_le_iff e hn _).1 (Nat.le_refl _)
    exact ⟨hcyc, hregs, hconds, hwrites, fun t hc hr hk hw => (issueCycle_le_iff e hn t).2 ⟨hc, hr, hk, hw⟩⟩
  · rw [issueCycle_slots e (Nat.pos_iff_ne_zero.1 hpos)]
    refine ⟨le_slotCycle, le_freeSlots_slotCycle hle, fun t hst ht => ?_⟩
    exact Nat.lt_of_not_le fun hfree => Nat.not_le_of_lt ht (slotCycle_le hst hfree)
  · refine ⟨fun row hrow f hwf ht => ?_, fun row hrow f hwf ht => ?_, fun f hwf ht => ?_, fun f hwf ht => ?_, fun f => ⟨fun hwf ht => ?_,
      fun hwf ht => ?_, fun hstack hwf ht => ?_⟩, fun f => ⟨fun hwf ht => ?_, fun hwf ht => ?_, fun hwf ht => ?_, fun hwf ht => ?_⟩,
      fun row hrow f hwf ht => ?_⟩
    · obtain ⟨t, hexec, -, he⟩ := operateRow_engine hon hrow hwf ht
      obtain ⟨hreadyW, hreadyC, hloadW, hbusy⟩ := operated_ready hon.engineWf f (row.value f c) (row.issue f) (row.result f)
        (issueCycle c.e (row.need f c))
      refine ⟨t, hexec, ?_⟩
      rw [he]
      exact ⟨rfl, ⟨hreadyW, hreadyC⟩, hloadW, hbusy⟩
    · obtain ⟨t, hexec, -, he⟩ := testRow_engine hon hrow hwf ht
      obtain ⟨hreadyW, hreadyC, hloadW, hbusy⟩ := tested_ready hon.engineWf f (row.value f c) (row.issue f) (row.result f)
        (issueCycle c.e (row.need f c))
      refine ⟨t, hexec, ?_⟩
      rw [he]
      exact ⟨rfl, ⟨hreadyW, hreadyC⟩, hloadW, hbusy⟩
    · obtain ⟨t, hexec, -, he⟩ := ld_engine hon hwf ht
      obtain ⟨hreadyW, hloadW, hreadyC, hcyc, hfree, hheld⟩ := loaded_ready hon.engineWf f
        (issueCycle c.e { regs := [f.wa.toNat], writes := loadRegs f, slots := memSlots f.sp })
      refine ⟨t, hexec, ?_⟩
      rw [he]
      exact ⟨hcyc, ⟨hreadyW, fun k _ => (congrArg (look 0 · k) hreadyC).trans (if_neg (List.not_mem_nil)).symm⟩, hloadW, hfree, hheld⟩
    · obtain ⟨t, hexec, -, -, he⟩ := st_stores hon hwf ht
      obtain ⟨hfree, hheld⟩ := holdSlot_busy f.sp c.e (issueCycle c.e { regs := [f.wa.toNat, f.wb.toNat], slots := memSlots f.sp })
      refine ⟨t, hexec, ?_⟩
      rw [he]
      exact ⟨rfl, ⟨rfl, rfl, rfl⟩, hfree, hheld⟩
    · obtain ⟨t, hexec, -, -, -, hcyc⟩ := br_moves hon hwf ht
      exact ⟨t, hexec, hcyc.trans (congrArg _ (if_congr taken_iff rfl rfl))⟩
    · obtain ⟨t, hexec, -, -, -, hcyc⟩ := call_moves hon hwf ht
      exact ⟨t, hexec, hcyc⟩
    · obtain ⟨p, rest, hstack⟩ := List.exists_cons_of_ne_nil hstack
      obtain ⟨t, hexec, -, -, -, hcyc⟩ := ret_moves hon hwf ht hstack
      exact ⟨t, hexec, hcyc⟩
    · obtain ⟨t, hexec, -, -, -, -, -, -, -, hnext⟩ := (out_runs s id f).journals hwf hon ht
      exact ⟨t, hexec, hnext⟩
    · obtain ⟨t, hexec, -, -, -, -, -, -, -, hnext⟩ := (lsp_runs s id f).journals hwf hon ht
      exact ⟨t, hexec, hnext⟩
    · obtain ⟨t, hexec, -, -, -, -, -, -, -, hnext⟩ := (lbank_runs s id f).journals hwf hon ht
      exact ⟨t, hexec, hnext⟩
    · obtain ⟨t, hexec, -, -, -, -, -, -, -, hnext⟩ := (event_runs s id f).journals hwf hon ht
      exact ⟨t, hexec, hnext⟩
    · obtain ⟨t, hexec, -, -, he⟩ := blockRow_stores hrow hwf hon ht
      obtain ⟨hreadyW, hreadyC, hloadW, hcyc, hbusy⟩ := blockEffect_ready hon.engineWf row f (issueCycle c.e (row.need f c))
      refine ⟨t, hexec, ?_⟩
      rw [he, ← blockRow_conds]
      generalize (blockEffect row f c (issueCycle c.e (row.need f c))).e = e' at *
      exact ⟨hcyc, ⟨hreadyW, hreadyC⟩, hloadW, hbusy⟩
end

section
/-! SUPPORT. Canonical tables (R115, R118): the operations of a Golup instruction keep them, so each instruction does. -/

namespace Sys2Proof.Machine

/-- The tables of a context are canonical. -/
def CtxWf (c : Ctx) : Prop := EngineWf c.e ∧ c.vars.wf = true

/-! ### A region -/

/-- What holds of a table's values and of the one written holds of its values after the write. -/
theorem forall_look_put {α : Type} [DecidableEq α] {d : α} {m : SMap α} {p : α → Prop} (hm : tableWf d m = true) (h : ∀ j, p (look d m j))
    (k : Nat) {v : α} (hv : p v) (j : Nat) : p (look d (put d m k v) j) := by
  by_cases hj : k = j
  · rw [← hj, look_put_self d m k v hm]; exact hv
  · rw [look_put_other d m v hj]; exact h j

section
variable {r : Region} (h : GolupWf r)
include h

theorem GolupWf.ctxOf {n : Nat} {c : Ctx} (hc : ctxOf r n = some c) : CtxWf c := by
  obtain ⟨-, -, hvars, hengines⟩ := h
  obtain ⟨he, -, -, -, hv⟩ := ctxOf_some hc
  obtain ⟨-, -, -, -, -, -, -, -, -, hview⟩ := hengines n
  refine ⟨he ▸ hengines n, ?_⟩
  rw [hv, he]
  split
  · exact hview
  · exact hvars _

theorem GolupWf.putEngine (n : Nat) {e : Engine} (he : EngineWf e) : GolupWf { r with engines := put {} r.engines n e } := by
  obtain ⟨htable, hvarsTable, hvars, hengines⟩ := h
  exact ⟨put_wf _ _ _ _ htable, hvarsTable, hvars, forall_look_put htable hengines n he⟩

theorem GolupWf.putVars (slot : Nat) {v : Mem} (hv : v.wf = true) : GolupWf { r with vars := put [] r.vars slot v } := by
  obtain ⟨htable, hvarsTable, hvars, hengines⟩ := h
  exact ⟨htable, put_wf _ _ _ _ hvarsTable, forall_look_put (p := fun v => Mem.wf v = true) hvarsTable hvars slot hv, hengines⟩

theorem GolupWf.modRun (slot : BitVec 9) (no : W32) (f : Run → Run) : GolupWf (modRun r slot no f) := h

theorem GolupWf.putCtx (n : Nat) {c : Ctx} (hc : CtxWf c) : GolupWf (putCtx r n c) := by
  obtain ⟨he, hv⟩ := hc
  unfold Machine.putCtx
  split
  · obtain ⟨hw, hreadyW, hreadyC, hloadW, houts, hsps, hbanks, hevs, hscr, -⟩ := he
    exact (h.putEngine n (e := { c.e with view := c.vars }) ⟨hw, hreadyW, hreadyC, hloadW, houts, hsps, hbanks, hevs, hscr, hv⟩).modRun ..
  · exact ((h.putEngine n he).modRun ..).putVars _ hv

theorem GolupWf.putClosed (n : Nat) (before : Ctx) {c : Ctx} (hc : CtxWf c) : GolupWf (putClosed r n before c) := by
  obtain ⟨he, hv⟩ := hc
  unfold Machine.putClosed
  split
  · exact (h.putEngine n he).modRun ..
  · exact ((h.putEngine n he).modRun ..).putVars _ hv

end

/-! ### A context -/

section
variable {c : Ctx} (h : CtxWf c)
include h

theorem CtxWf.fault : CtxWf { c with e := c.e.fault } := h

theorem CtxWf.writeVar (a : Nat) (bs : Bytes) : CtxWf (writeVar c a bs) := by
  obtain ⟨he, hv⟩ := h
  exact ⟨(writeVar_e c a bs).symm ▸ he, (writeVar_vars c a bs).symm ▸ Mem.writeBytes_wf _ a bs hv⟩

/-- A closed run's overlay is empty (R198). -/
theorem CtxWf.closeRun (d : Nat) (abort : Bool) : CtxWf (closeRun c d abort) := by
  obtain ⟨⟨hw, hreadyW, hreadyC, hloadW, houts, hsps, hbanks, hevs, hscr, hview⟩, hv⟩ := h
  refine ⟨⟨hw, hreadyW, hreadyC, hloadW, houts, hsps, hbanks, hevs, hscr, ?_⟩, hv⟩
  show Mem.wf (if c.e.redo then [] else c.e.view) = true
  split
  · rfl
  · exact hview

theorem CtxWf.storeBytes (sp : Space) (a : Nat) (bs : Bytes) : CtxWf (storeBytes c sp a bs) := by
  cases sp
  case exp | con => exact h
  case var =>
    rw [Machine.storeBytes]
    split
    · exact h
    · exact h.writeVar ..
  case scr =>
    obtain ⟨⟨hw, hreadyW, hreadyC, hloadW, houts, hsps, hbanks, hevs, hscr, hview⟩, hv⟩ := h
    exact ⟨⟨hw, hreadyW, hreadyC, hloadW, houts, hsps, hbanks, hevs, Mem.writeBytes_wf _ a bs hscr, hview⟩, hv⟩

end

/-! ### An instruction -/

section
variable {id : EngId} {wf : Bool} {s t : State} (hr : GolupWf (s.region id.er))
include hr

/-- An instruction whose effect keeps its context canonical keeps its region canonical, whether it issues, is aborted at the watchdog
limit or finds no run. -/
theorem golup_keepsWf {need : Ctx → Need} {k : Ctx → Nat → Ctx} (h : golup id wf need s k = .next t) (hk : ∀ c t, CtxWf c → CtxWf (k c t)) :
    GolupWf (t.region id.er) := by
  unfold golup at h
  split at h
  · cases h
  split at h
  · cases h
  split at h
  · cases h; exact hr
  dsimp only at h
  split at h
  · cases h; exact hr
  rename_i c hc
  have hwf : CtxWf c := hr.ctxOf hc
  split at h <;> cases h <;> rw [State.setRegion_region_self]
  · exact hr.putClosed _ _ (hwf.closeRun ..)
  · split
    · exact hr.putCtx _ (hk _ _ hwf)
    · exact hr.putClosed _ _ (hk _ _ hwf)

theorem opO_keepsWf {f : OFields} {regs : Ctx → List Nat} {conds : List Nat} {issue result : Nat} {val : Ctx → W64 × Bool}
    (h : opO id f wf regs conds issue result val s = .next t) : GolupWf (t.region id.er) := by
  rw [opO_eq] at h
  exact golup_keepsWf hr h fun _ _ hc => ⟨hc.1.answer .., hc.2⟩

theorem opAB_keepsWf {f : OFields} {issue result : Nat} {val : W64 → W64 → W64 × Bool} (h : opAB id f wf issue result val s = .next t) :
    GolupWf (t.region id.er) := opO_keepsWf hr h

theorem opA_keepsWf {f : OFields} {issue result : Nat} {val : W64 → W64 × Bool} (h : opA id f wf issue result val s = .next t) :
    GolupWf (t.region id.er) := opO_keepsWf hr h

theorem opC_keepsWf {f : OFields} {regs conds : List Nat} {val : Ctx → Bool} (h : opC id f wf regs conds val s = .next t) :
    GolupWf (t.region id.er) :=
  golup_keepsWf hr h fun c t hc => ⟨hc.1.setCond f.cb.toNat (val c) (t + 1), hc.2⟩

theorem opCmp_keepsWf {f : OFields} {val : W64 → W64 → Bool} (h : opCmp id f wf val s = .next t) : GolupWf (t.region id.er) :=
  opC_keepsWf hr h

theorem ld_keepsWf {f : MFields} (h : exec (.ld id f) s = .next t) : GolupWf (t.region id.er) := by
  rw [(ld_runs s id f).2] at h
  refine golup_keepsWf hr h fun c t hc => ⟨?_, hc.2⟩
  have hloaded := (hc.1.accessed f).loadAll (t + loadDelay f.sp) (loadRegs f) ((List.range (loadCount f)).map (loadedWord c f))
  unfold loaded holdSlot
  split <;> exact hloaded

theorem st_keepsWf {f : MFields} (h : exec (.st id f) s = .next t) : GolupWf (t.region id.er) := by
  rw [(st_runs s id f).2] at h
  refine golup_keepsWf hr h fun c t hc => ?_
  have hdone : CtxWf (storeDone f c) := by
    unfold storeDone
    split
    · exact hc.storeBytes ..
    · exact hc.fault
  unfold stored holdSlot
  split <;> exact hdone

theorem br_keepsWf {f : BFields} (h : exec (.br id f) s = .next t) : GolupWf (t.region id.er) := by
  rw [(br_runs s id f).2] at h
  exact golup_keepsWf hr h fun c _ hc => by cases taken f c <;> exact hc

theorem call_keepsWf {f : BFields} (h : exec (.call id f) s = .next t) : GolupWf (t.region id.er) := by
  rw [(call_runs s id f).2] at h
  exact golup_keepsWf hr h fun _ _ hc => hc

theorem ret_keepsWf {f : BFields} (h : exec (.ret id f) s = .next t) : GolupWf (t.region id.er) := by
  rw [(ret_runs s id f).2] at h
  refine golup_keepsWf hr h fun c t hc => ?_
  unfold returned
  split
  · exact hc.closeRun ..
  · exact hc

theorem endRun_keepsWf {f : BFields} (h : exec (.endRun id f) s = .next t) : GolupWf (t.region id.er) := by
  rw [(endRun_runs s id f).2] at h
  exact golup_keepsWf hr h fun _ _ hc => hc.closeRun ..

/-- A journal instruction whose write keeps its engine canonical. -/
theorem opJ_keepsWf {f : JFields} {regs : List Nat} {len : Ctx → Nat} {write : Ctx → Nat → W64 → Engine}
    (h : opJ id f wf regs len write s = .next t) (hwrite : ∀ c i v, EngineWf c.e → EngineWf (write c i v)) : GolupWf (t.region id.er) := by
  refine golup_keepsWf hr h fun c t hc => ?_
  dsimp only
  split
  · exact ⟨hwrite c _ _ hc.1, hc.2⟩
  · exact hc

theorem opF_keepsWf {f : FFields} {op n : Nat} {conds regs : List Nat} {two : Bool} {scan : FbIn → FbInst → FbOut}
    (h : opF id f wf op n conds regs two scan s = .next t) : GolupWf (t.region id.er) := by
  refine golup_keepsWf hr h fun c t hc => ?_
  have hout (c : Ctx) (wd : W64) (q q2 : Bool) (hc : CtxWf c) :
      let e := (c.e.setReg f.wd.toNat wd (t + n)).setCond f.cq.toNat q (t + n)
      CtxWf { c with e := (if two then e.setCond (f.cq.toNat + 1) q2 (t + n) else e) } := by
    have he := (hc.1.setReg f.wd.toNat wd (t + n)).setCond f.cq.toNat q (t + n)
    cases two
    · exact ⟨he, hc.2⟩
    · exact ⟨he.setCond .., hc.2⟩
  dsimp only
  split
  · exact hout _ _ _ _ (hc.writeVar ..)
  · exact hout _ _ _ _ hc.fault

end

/-! ### The journal buffer -/

section
variable {e : Engine} (h : EngineWf e)
include h

theorem EngineWf.putOut (i : Nat) (v : Option W32) : EngineWf { e with outs := put none e.outs i v } := by
  obtain ⟨hw, hreadyW, hreadyC, hloadW, houts, hrest⟩ := h
  exact ⟨hw, hreadyW, hreadyC, hloadW, put_wf _ _ _ _ houts, hrest⟩

theorem EngineWf.putSp (i : Nat) (v : Option W32) : EngineWf { e with sps := put none e.sps i v } := by
  obtain ⟨hw, hreadyW, hreadyC, hloadW, houts, hsps, hrest⟩ := h
  exact ⟨hw, hreadyW, hreadyC, hloadW, houts, put_wf _ _ _ _ hsps, hrest⟩

theorem EngineWf.putBank (i : Nat) (v : Option W32) : EngineWf { e with banks := put none e.banks i v } := by
  obtain ⟨hw, hreadyW, hreadyC, hloadW, houts, hsps, hbanks, hrest⟩ := h
  exact ⟨hw, hreadyW, hreadyC, hloadW, houts, hsps, put_wf _ _ _ _ hbanks, hrest⟩

theorem EngineWf.putEvent (i : Nat) (v : BitVec 16) : EngineWf { e with evs := put 0 e.evs i v } := by
  obtain ⟨hw, hreadyW, hreadyC, hloadW, houts, hsps, hbanks, hevs, hrest⟩ := h
  exact ⟨hw, hreadyW, hreadyC, hloadW, houts, hsps, hbanks, put_wf _ _ _ _ hevs, hrest⟩

end

end Sys2Proof.Machine
end

section
open Sys2Proof Sys2Proof.Machine

/-- Settles O38, by the form of the instruction: each form's effect keeps its context canonical, and so the region. -/
theorem golupKeepsCanonicalTables : Obligations.GolupKeepsCanonicalTables := by
  intro i id s t hid hr h
  cases i with
  | mov | movu | movh | movc | rdf | sel | mux | fma | limit | scale => cases hid; unfold exec at h; exact opO_keepsWf hr h
  | add | sub | adds | subs | mul | muls | div | modW | minW | maxW | andW | orW | xorW | andn | shl | shr | sar =>
    cases hid; unfold exec at h; exact opAB_keepsWf hr h
  | negW | absW | sqrt | cvt | notW | ext => cases hid; unfold exec at h; exact opA_keepsWf hr h
  | ceq | cne | clt | cle | cgt | cge | cltu | cleu | cgtu | cgeu => cases hid; unfold exec at h; exact opCmp_keepsWf hr h
  | btst | clog => cases hid; unfold exec at h; exact opC_keepsWf hr h
  | ld => cases hid; exact ld_keepsWf hr h
  | st => cases hid; exact st_keepsWf hr h
  | br => cases hid; exact br_keepsWf hr h
  | call => cases hid; exact call_keepsWf hr h
  | ret => cases hid; exact ret_keepsWf hr h
  | endRun => cases hid; exact endRun_keepsWf hr h
  | out => cases hid; unfold exec at h; exact opJ_keepsWf hr h fun c i v he => he.putOut ..
  | lsp => cases hid; unfold exec at h; exact opJ_keepsWf hr h fun c i v he => he.putSp ..
  | lbank => cases hid; unfold exec at h; exact opJ_keepsWf hr h fun c i v he => he.putBank ..
  | event => cases hid; unfold exec at h; exact opJ_keepsWf hr h fun c i v he => he.putEvent ..
  | ton | tof | tp | ctu | ctd | ctud | rtrig | ftrig | sr | rs | ramp => cases hid; unfold exec at h; exact opF_keepsWf hr h
  | _ => cases hid
end
